-- ==== Sys2Proof/Word.lean ====
section
/-! DEFINITION. The plain words of the LB2410: bytes, leaves and the two lane letters. -/

namespace Sys2Proof

/-- One byte of a frame or record (R184). -/
abbrev Byte := BitVec 8

/-- A set of standing pins (00_scope, Conventions; R185): bit `n - 1` stands for pin `n`. -/
abbrev Leave := BitVec 10

/-- The leave of all ten pins. -/
abbrev fullRack : Leave := 0x3FF#10

/-- The empty leave. -/
abbrev clearDeck : Leave := 0#10

/-- The letters A and B, which name the two lanes and the two squads of the pair. -/
inductive Side where
  | a
  | b
deriving DecidableEq, Repr

/-- A lane of the pair (00_scope, Conventions). -/
abbrev Lane := Side

/-- The id of a squad (R11). -/
abbrev SquadId := Side

/-- The other lane, or the other squad. -/
def Side.other : Side → Side
  | .a => .b
  | .b => .a

/-- The three ports (R174 to R177). -/
inductive Port where
  | desk
  | console
  | service
deriving DecidableEq, Repr

end Sys2Proof
end

