-- ==== Sys2Proof/Syntax.lean ====
section
/-! DEFINITION. The commands of the LB2410: one constructor of `Instr` per row of spec/opcode_table.json.
A request row carries the envelope of its frame (R174) and its fields (R185); an event row carries what the event names. -/

namespace Sys2Proof

/-- An enumerated field of a request as it came over the wire (R185): one of the listed values, or a code byte that
stands for none of them. -/
inductive Coded (α : Type) where
  | val (v : α)
  | bad (code : Byte)
deriving DecidableEq, Repr

/-- What a received frame says beside its request's own fields (R174): the port it came on, its pair address, its tag,
and how many bytes its body holds (the body length of R174 less the request code and the tag). -/
structure Envelope where
  port : Port
  address : Nat
  tag : Byte
  bodyLen : Nat
deriving DecidableEq, Repr

/-- An operand of a request that shares its code with another row, a selector byte of the body telling the two apart (R185):
beside it, the selector byte when that names neither row (log entry 28). -/
structure Selected (α : Type) where
  field : α
  stray : Option Byte
deriving DecidableEq, Repr

/-- The account mode (R121). -/
inductive AccountMode where
  | game
  | time
deriving DecidableEq, Repr

/-- The pair mode (R93). -/
inductive PairMode where
  | single
  | cross
deriving DecidableEq, Repr

/-- The form of a correction (R77). -/
inductive CorrectForm where
  | leave
  | count
deriving DecidableEq, Repr

/-- The lanes SET_TIMING names (R73). -/
inductive LaneChoice where
  | a
  | b
  | both
deriving DecidableEq, Repr

/-- ON or OFF, in the order R118 and R156 list them. -/
inductive OnOff where
  | on
  | off
deriving DecidableEq, Repr

/-- The attention mode (R182). -/
inductive AttentionMode where
  | level
  | pulse
deriving DecidableEq, Repr

/-- The fields of CORRECT_BALL after the squad (R77). -/
structure CorrectFields where
  slot : Byte
  frame : Byte
  ball : Byte
  expectedCount : Byte
  expectedFoul : Bool
  form : Coded CorrectForm
  newLeave : Option (BitVec 16)
  newCount : Option Byte
  newFoul : Bool
deriving DecidableEq, Repr

/-- A rate entry as RATE_SET and RATE_STORE carry it (R139, R188), before any check. An absent weekday set is `none`. -/
structure RateFields where
  present : Bool
  weekdays : Option Byte
  start : BitVec 16
  stop : BitVec 16
  perGame : BitVec 16
  perHour : BitVec 32
deriving DecidableEq, Repr

/-- The four optional settings of SET_TIMING (R73): settle in tenths of a second, watchdog and warm-up limit in
seconds, idle standby in minutes. -/
structure TimingFields where
  settle : Option Byte
  watchdog : Option Byte
  warmUp : Option Byte
  idle : Option Byte
deriving DecidableEq, Repr

/-- A notice as ACK_NOTICES carries it (R188): kind code, then lane code. -/
structure NoticeFields where
  kind : Byte
  scope : Byte
deriving DecidableEq, Repr

/-- The commands: one constructor per row of spec/opcode_table.json, in the table's order. -/
inductive Instr where
  -- requests of the desk about lanes and accounts
  | openLane (e : Envelope) (lane : Coded Lane) (mode : Coded AccountMode) (credit : BitVec 16) (warn : Option (BitVec 16))
  | closeLane (e : Envelope) (lane : Coded Lane)
  | pauseLane (e : Envelope) (lane : Coded Lane)
  | resumeLane (e : Envelope) (lane : Coded Lane)
  | addCredit (e : Envelope) (lane : Coded Lane) (amount : BitVec 16)
  | addTime (e : Envelope) (lane : Coded Lane) (amount : BitVec 16)
  | readAccount (e : Envelope) (lane : Coded Lane)
  | readSession (e : Envelope) (lane : Coded Lane)
  -- requests of the console about play
  | startGame (e : Envelope) (lane : Coded Lane) (games : Byte)
  | bowlerReady (e : Envelope) (lane : Coded Lane)
  | foulDetect (e : Envelope) (lane : Coded Lane) (enable : Coded OnOff)
  | resetDeck (e : Envelope) (lane : Coded Lane)
  -- the roster
  | addBowler (e : Envelope) (squad : Coded SquadId) (name : List Byte) (handicap : Option Byte) (blind : Option (BitVec 16))
  | removeBowler (e : Envelope) (squad : Coded SquadId) (slot : Byte)
  | moveBowler (e : Envelope) (squad : Coded SquadId) (slot : Byte) (newSlot : Byte)
  | markAbsent (e : Envelope) (squad : Coded SquadId) (slot : Byte) (blind : BitVec 16)
  | markPresent (e : Envelope) (squad : Coded SquadId) (slot : Byte)
  | setHandicap (e : Envelope) (squad : Coded SquadId) (slot : Byte) (handicap : Option Byte)
  -- the sheet and the ball
  | readSheet (e : Envelope) (lane : Coded Lane) (part : Byte)
  | correctBall (e : Envelope) (squad : Coded SquadId) (c : CorrectFields)
  | enterBall (e : Envelope) (lane : Coded Lane) (leave : BitVec 16) (foul : Bool)
  -- cross-lane play
  | setPairMode (e : Envelope) (mode : Coded PairMode)
  | splitPair (e : Envelope)
  | splitPairForce (e : Envelope)
  -- the rate card and the clock
  | rateSet (e : Envelope) (entry : Byte) (value : RateFields)
  | rateClear (e : Envelope) (entry : Byte)
  | rateStore (e : Envelope) (entry : Byte) (value : RateFields) (key : Bool)
  | rateReadWorking (e : Selected Envelope)
  | rateReadStored (e : Envelope)
  | clockSet (e : Envelope) (weekday : Byte) (hour : Byte) (minute : Byte) (second : Byte)
  | clockRead (e : Envelope)
  -- the service terminal
  | clearFault (e : Envelope) (lane : Coded Lane)
  | readMachine (e : Envelope) (lane : Coded Lane)
  | setTiming (e : Envelope) (lanes : Coded LaneChoice) (settings : TimingFields)
  | setMachineOff (e : Envelope) (lane : Coded Lane)
  | setMachineOn (e : Envelope) (lane : Selected (Coded Lane))
  | testCycle (e : Envelope) (lane : Coded Lane)
  | clearCounters (e : Envelope) (lane : Coded Lane)
  | setMaintInterval (e : Envelope) (lane : Coded Lane) (interval : BitVec 32)
  | maintDone (e : Envelope) (lane : Coded Lane)
  | clearReturn (e : Envelope)
  | setReturn (e : Envelope) (power : Option (Coded OnOff)) (limit : Option Byte)
  | readReturn (e : Envelope) (clearStray : Bool) (clearJam : Bool)
  | readSupply (e : Envelope) (clear : Bool)
  | resetPair (e : Envelope)
  -- notices
  | readNotices (e : Envelope)
  | ackNotices (e : Envelope) (notices : List NoticeFields)
  | setNoticeMask (e : Envelope) (mask : BitVec 32) (mode : Coded AttentionMode)
  -- events of the ports
  | frameDiscard (port : Port) (bytes : List Byte)
  | interByteTimeout (port : Port) (bytes : List Byte)
  | consoleBytesUnderHold
  | selectRise
  | replyTurnaround (port : Port)
  | replySent (port : Port)
  -- messages of the machines
  | warm (lane : Lane)
  | deck (lane : Lane) (leave : Leave)
  | respotPoint (lane : Lane)
  | cycleDone (lane : Lane)
  | machineFault (lane : Lane) (code : Byte)
  -- sensors and the key
  | ballDetection (lane : Lane)
  | foulEvent (lane : Lane)
  | pitExit (lane : Lane)
  | arrival
  | keyRelease
  -- the ends of the timers
  | programmingComplete
  | settleExpiry (lane : Lane)
  | deckLimitExpiry (lane : Lane)
  | cycleWatchdogExpiry (lane : Lane)
  | warmUpExpiry (lane : Lane)
  | idleStandbyExpiry (lane : Lane)
  | runOnExpiry
  | transitExpiry
  | reversePhaseEnd
  | forwardPhaseEnd
  | runningSecond (lane : Lane)
  | pulseEnd (port : Port)
  -- the clock and the supply
  | clockSecond
  | crystalStop
  | crystalRestart
  | mainFailure
  | mainReturn
  | retentionLoss
  | batteryLowSet
  | batteryLowClear
  | externalResetAssert
  | externalResetRelease
  | unknownRequestCode (e : Envelope) (code : Byte)
deriving DecidableEq, Repr

end Sys2Proof
end

