-- ==== Sys2Proof/WellFormed.lean ====
section
/-! DEFINITION. When a command is one that the ports, links and sensors of the LB2410 can carry. The meanings in
Machine/ are total and do not ask for it; it says which operand values stand for something on the wire. -/

namespace Sys2Proof

/-- R174: a pair address is 0 to 64, and a body has at most 248 bytes. -/
def Envelope.wellFormed (e : Envelope) : Bool :=
  decide (e.address ≤ 64) && decide (e.bodyLen ≤ 248)

/-- R185: a code byte that names none of `n` listed values is `n` or more. -/
def Coded.wellFormed {α : Type} (n : Nat) : Coded α → Bool
  | .val _ => true
  | .bad code => decide (n ≤ code.toNat)

/-- R185: a field that is present does not hold the absence value of its width. -/
def presentWellFormed {w : Nat} : Option (BitVec w) → Bool
  | none => true
  | some v => v != BitVec.allOnes w

/-- R188: an absent weekday set is the mask 0, so a present one holds some day. -/
def RateFields.wellFormed (r : RateFields) : Bool :=
  match r.weekdays with
  | none => true
  | some w => w != 0#8

/-- R185: the enumerated and optional fields of a correction. -/
def CorrectFields.wellFormed (c : CorrectFields) : Bool :=
  c.form.wellFormed 2 && presentWellFormed c.newLeave && presentWellFormed c.newCount

/-- R185: the optional settings of SET_TIMING. -/
def TimingFields.wellFormed (t : TimingFields) : Bool :=
  presentWellFormed t.settle && presentWellFormed t.watchdog && presentWellFormed t.warmUp && presentWellFormed t.idle

/-- SET_RETURN's optional power value (R118): the byte 0xFF says that none is carried (R185). -/
def optionalPowerWellFormed : Option (Coded OnOff) → Bool
  | some (.bad code) => decide (2 ≤ code.toNat) && code != 0xFF#8
  | _ => true

/-- The selector byte of RATE_READ or SET_MACHINE carried as one that names neither of its two values (R185; log entry 28). -/
def strayWellFormed : Option Byte → Bool
  | some x => decide (2 ≤ x.toNat)
  | none => true

/-- A command that the lines of R174 to R177, the machine links of R50 and the sensors can carry. -/
def Instr.wellFormed : Instr → Bool
  | .openLane e l m _ w => e.wellFormed && l.wellFormed 2 && m.wellFormed 2 && presentWellFormed w
  | .closeLane e l => e.wellFormed && l.wellFormed 2
  | .pauseLane e l => e.wellFormed && l.wellFormed 2
  | .resumeLane e l => e.wellFormed && l.wellFormed 2
  | .addCredit e l _ => e.wellFormed && l.wellFormed 2
  | .addTime e l _ => e.wellFormed && l.wellFormed 2
  | .readAccount e l => e.wellFormed && l.wellFormed 2
  | .readSession e l => e.wellFormed && l.wellFormed 2
  | .startGame e l _ => e.wellFormed && l.wellFormed 2
  | .bowlerReady e l => e.wellFormed && l.wellFormed 2
  | .foulDetect e l o => e.wellFormed && l.wellFormed 2 && o.wellFormed 2
  | .resetDeck e l => e.wellFormed && l.wellFormed 2
  | .addBowler e q n h b =>
      e.wellFormed && q.wellFormed 2 && n.length == 12 && presentWellFormed h && presentWellFormed b
  | .removeBowler e q _ => e.wellFormed && q.wellFormed 2
  | .moveBowler e q _ _ => e.wellFormed && q.wellFormed 2
  | .markAbsent e q _ _ => e.wellFormed && q.wellFormed 2
  | .markPresent e q _ => e.wellFormed && q.wellFormed 2
  | .setHandicap e q _ h => e.wellFormed && q.wellFormed 2 && presentWellFormed h
  | .readSheet e l _ => e.wellFormed && l.wellFormed 2
  | .correctBall e q c => e.wellFormed && q.wellFormed 2 && c.wellFormed
  | .enterBall e l _ _ => e.wellFormed && l.wellFormed 2
  | .setPairMode e m => e.wellFormed && m.wellFormed 2
  | .splitPair e => e.wellFormed
  | .splitPairForce e => e.wellFormed
  | .rateSet e _ v => e.wellFormed && v.wellFormed
  | .rateClear e _ => e.wellFormed
  | .rateStore e _ v _ => e.wellFormed && v.wellFormed
  | .rateReadWorking e => e.field.wellFormed && strayWellFormed e.stray
  | .rateReadStored e => e.wellFormed
  | .clockSet e _ _ _ _ => e.wellFormed
  | .clockRead e => e.wellFormed
  | .clearFault e l => e.wellFormed && l.wellFormed 2
  | .readMachine e l => e.wellFormed && l.wellFormed 2
  | .setTiming e l t => e.wellFormed && l.wellFormed 3 && t.wellFormed
  | .setMachineOff e l => e.wellFormed && l.wellFormed 2
  | .setMachineOn e l => e.wellFormed && l.field.wellFormed 2 && strayWellFormed l.stray
  | .testCycle e l => e.wellFormed && l.wellFormed 2
  | .clearCounters e l => e.wellFormed && l.wellFormed 2
  | .setMaintInterval e l _ => e.wellFormed && l.wellFormed 2
  | .maintDone e l => e.wellFormed && l.wellFormed 2
  | .clearReturn e => e.wellFormed
  | .setReturn e p lim => e.wellFormed && optionalPowerWellFormed p && presentWellFormed lim
  | .readReturn e _ _ => e.wellFormed
  | .readSupply e _ => e.wellFormed
  | .resetPair e => e.wellFormed
  | .readNotices e => e.wellFormed
  | .ackNotices e ns => e.wellFormed && decide (ns.length ≤ 255)
  | .setNoticeMask e _ m => e.wellFormed && m.wellFormed 2
  | .frameDiscard _ bytes => decide (bytes.length ≤ 255)
  | .interByteTimeout p bytes => p != .console && decide (bytes.length ≤ 255)
  | .consoleBytesUnderHold => true
  | .selectRise => true
  | .replyTurnaround _ => true
  | .replySent _ => true
  | .warm _ => true
  | .deck _ _ => true
  | .respotPoint _ => true
  | .cycleDone _ => true
  | .machineFault _ code => code != 0#8
  | .ballDetection _ => true
  | .foulEvent _ => true
  | .pitExit _ => true
  | .arrival => true
  | .keyRelease => true
  | .programmingComplete => true
  | .settleExpiry _ => true
  | .deckLimitExpiry _ => true
  | .cycleWatchdogExpiry _ => true
  | .warmUpExpiry _ => true
  | .idleStandbyExpiry _ => true
  | .runOnExpiry => true
  | .transitExpiry => true
  | .reversePhaseEnd => true
  | .forwardPhaseEnd => true
  | .runningSecond _ => true
  | .pulseEnd _ => true
  | .clockSecond => true
  | .crystalStop => true
  | .crystalRestart => true
  | .mainFailure => true
  | .mainReturn => true
  | .retentionLoss => true
  | .batteryLowSet => true
  | .batteryLowClear => true
  | .externalResetAssert => true
  | .externalResetRelease => true
  | .unknownRequestCode e code => e.wellFormed && (code == 0#8 || decide (45 < code.toNat))

/-! ### The table of requests -/

/-- A request's envelope, its code (R185), the ports that may send it (R179), whether it is taken as a broadcast (R175), and
the length of its body after the request code and the tag (R185). -/
structure RequestRow where
  envelope : Envelope
  code : Byte
  ports : List Port
  broadcast : Bool
  length : Nat
deriving DecidableEq, Repr

/-- The row of a request in the table of R179, with its code and length by R185; `none` for a command that is an event. An
unknown request code is allowed on no port (R178). -/
def Instr.requestRow : Instr → Option RequestRow
  | .openLane e _ _ _ _ => some ⟨e, 1#8, [.desk], false, 6⟩
  | .closeLane e _ => some ⟨e, 2#8, [.desk], false, 1⟩
  | .pauseLane e _ => some ⟨e, 3#8, [.desk], false, 1⟩
  | .resumeLane e _ => some ⟨e, 4#8, [.desk, .console], false, 1⟩
  | .addCredit e _ _ => some ⟨e, 5#8, [.desk], false, 3⟩
  | .addTime e _ _ => some ⟨e, 6#8, [.desk], false, 3⟩
  | .readAccount e _ => some ⟨e, 7#8, [.desk, .console], false, 1⟩
  | .readSession e _ => some ⟨e, 8#8, [.desk], false, 1⟩
  | .startGame e _ _ => some ⟨e, 9#8, [.console], false, 2⟩
  | .bowlerReady e _ => some ⟨e, 10#8, [.console], false, 1⟩
  | .foulDetect e _ _ => some ⟨e, 11#8, [.console], false, 2⟩
  | .resetDeck e _ => some ⟨e, 12#8, [.console], false, 1⟩
  | .addBowler e _ _ _ _ => some ⟨e, 13#8, [.console], false, 16⟩
  | .removeBowler e _ _ => some ⟨e, 14#8, [.console], false, 2⟩
  | .moveBowler e _ _ _ => some ⟨e, 15#8, [.console], false, 3⟩
  | .markAbsent e _ _ _ => some ⟨e, 16#8, [.console], false, 4⟩
  | .markPresent e _ _ => some ⟨e, 17#8, [.console], false, 4⟩
  | .setHandicap e _ _ _ => some ⟨e, 18#8, [.console], false, 3⟩
  | .readSheet e _ _ => some ⟨e, 19#8, [.desk, .console], false, 2⟩
  | .correctBall e _ _ => some ⟨e, 20#8, [.desk, .console], false, 11⟩
  | .enterBall e _ _ _ => some ⟨e, 21#8, [.desk, .console], false, 4⟩
  | .setPairMode e _ => some ⟨e, 22#8, [.desk, .console], false, 1⟩
  | .splitPair e => some ⟨e, 23#8, [.desk, .console], false, 1⟩
  | .splitPairForce e => some ⟨e, 23#8, [.desk], false, 1⟩
  | .rateSet e _ _ => some ⟨e, 24#8, [.desk], true, 13⟩
  | .rateClear e _ => some ⟨e, 25#8, [.desk], true, 1⟩
  | .rateStore e _ _ _ => some ⟨e, 26#8, [.desk], false, 13⟩
  | .rateReadWorking e => some ⟨e.field, 27#8, [.desk, .service], false, 1⟩
  | .rateReadStored e => some ⟨e, 27#8, [.service], false, 1⟩
  | .clockSet e _ _ _ _ => some ⟨e, 28#8, [.desk], true, 4⟩
  | .clockRead e => some ⟨e, 29#8, [.desk], false, 0⟩
  | .clearFault e _ => some ⟨e, 30#8, [.service], false, 1⟩
  | .readMachine e _ => some ⟨e, 31#8, [.service], false, 1⟩
  | .setTiming e _ _ => some ⟨e, 32#8, [.service], false, 5⟩
  | .setMachineOff e _ => some ⟨e, 33#8, [.service], false, 2⟩
  | .setMachineOn e _ => some ⟨e, 33#8, [.service], false, 2⟩
  | .testCycle e _ => some ⟨e, 34#8, [.service], false, 1⟩
  | .clearCounters e _ => some ⟨e, 35#8, [.service], false, 1⟩
  | .setMaintInterval e _ _ => some ⟨e, 36#8, [.service], false, 5⟩
  | .maintDone e _ => some ⟨e, 37#8, [.service], false, 1⟩
  | .clearReturn e => some ⟨e, 38#8, [.service], false, 0⟩
  | .setReturn e _ _ => some ⟨e, 39#8, [.service], false, 2⟩
  | .readReturn e _ _ => some ⟨e, 40#8, [.service], false, 2⟩
  | .readSupply e _ => some ⟨e, 41#8, [.service], false, 1⟩
  | .resetPair e => some ⟨e, 42#8, [.service], false, 0⟩
  | .readNotices e => some ⟨e, 43#8, [.desk, .console, .service], false, 0⟩
  | .ackNotices e ns => some ⟨e, 44#8, [.desk, .console, .service], false, 1 + 2 * ns.length⟩
  | .setNoticeMask e _ _ => some ⟨e, 45#8, [.desk, .console, .service], false, 5⟩
  | .frameDiscard _ _ => none
  | .interByteTimeout _ _ => none
  | .consoleBytesUnderHold => none
  | .selectRise => none
  | .replyTurnaround _ => none
  | .replySent _ => none
  | .warm _ => none
  | .deck _ _ => none
  | .respotPoint _ => none
  | .cycleDone _ => none
  | .machineFault _ _ => none
  | .ballDetection _ => none
  | .foulEvent _ => none
  | .pitExit _ => none
  | .arrival => none
  | .keyRelease => none
  | .programmingComplete => none
  | .settleExpiry _ => none
  | .deckLimitExpiry _ => none
  | .cycleWatchdogExpiry _ => none
  | .warmUpExpiry _ => none
  | .idleStandbyExpiry _ => none
  | .runOnExpiry => none
  | .transitExpiry => none
  | .reversePhaseEnd => none
  | .forwardPhaseEnd => none
  | .runningSecond _ => none
  | .pulseEnd _ => none
  | .clockSecond => none
  | .crystalStop => none
  | .crystalRestart => none
  | .mainFailure => none
  | .mainReturn => none
  | .retentionLoss => none
  | .batteryLowSet => none
  | .batteryLowClear => none
  | .externalResetAssert => none
  | .externalResetRelease => none
  | .unknownRequestCode e code => some ⟨e, code, [], false, 0⟩

end Sys2Proof
end

