-- ==== Sys2Proof/Decode.lean ====
section
/-! DEFINITION. From words and bytes to commands. The opcode table gives no row any bits, so `decodeTableWord` reads
nothing; the frames of the ports (R174, R184, R185) do spell the request rows, and `decodeFrame` reads them. -/

namespace Sys2Proof

/-- The command that a word spells by the table's bits: no row of spec/opcode_table.json has bits. -/
def decodeTableWord (_nbits _w : Nat) : Option Instr := none

/-! ### The frame check -/

/-- One bit of the CRC with generator x^16 + x^12 + x^5 + 1 (R174). -/
def crcBit (crc : BitVec 16) (bit : Bool) : BitVec 16 :=
  if crc.msb != bit then (crc <<< 1) ^^^ 0x1021#16 else crc <<< 1

/-- One byte of the CRC, most significant bit first (R174). -/
def crcByte (crc : BitVec 16) (b : Byte) : BitVec 16 :=
  [7, 6, 5, 4, 3, 2, 1, 0].foldl (fun c i => crcBit c (b.getLsbD i)) crc

/-- The check of R174: an initial value of all ones, no final inversion. -/
def crc16 (bytes : List Byte) : BitVec 16 := bytes.foldl crcByte 0xFFFF#16

/-- The check's two bytes, high byte first (R174). -/
def crcBytes (bytes : List Byte) : List Byte :=
  [(crc16 bytes).extractLsb' 8 8, (crc16 bytes).extractLsb' 0 8]

/-! ### The frame -/

/-- The fields of a frame between the sync and the check (R174). -/
structure Frame where
  address : Byte
  code : Byte
  tag : Byte
  body : List Byte
deriving DecidableEq, Repr

/-- The sync value (R184). -/
def syncByte : Byte := 0xC5#8

/-- The bytes the check runs over: pair address, body length, request code, tag, body (R174, R184). -/
def Frame.checked (f : Frame) : List Byte :=
  f.address :: BitVec.ofNat 8 (f.body.length + 2) :: f.code :: f.tag :: f.body

/-- The bytes of a frame (R184). -/
def Frame.bytes (f : Frame) : List Byte := syncByte :: (f.checked ++ crcBytes f.checked)

/-- What follows a sync: the frame, when its body length is 2 to 250, all its bytes are there, and the check computed over
them is the check sent (R174). -/
def frameAfterSync (bytes : List Byte) : Option Frame :=
  match bytes with
  | address :: len :: code :: tag :: rest =>
      if len.toNat < 2 ∨ 250 < len.toNat then none
      else
        let body := rest.take (len.toNat - 2)
        if body.length ≠ len.toNat - 2 then none
        else if (rest.drop (len.toNat - 2)).take 2 = crcBytes (address :: len :: code :: tag :: body) then
          some { address := address, code := code, tag := tag, body := body }
        else none
  | _ => none

/-- Whether the body length byte after a sync lies outside 2 to 250, so that the hunt goes on at the byte after that sync
(R174). -/
def huntsOn (bytes : List Byte) : Bool :=
  match bytes with
  | _ :: len :: _ => decide (len.toNat < 2 ∨ 250 < len.toNat)
  | _ => false

/-- The receiver of a port on the bytes of one exchange (R174): it hunts for the sync value and takes the frame that
follows it. `none` is a discard. DESIGN CHOICE (log entry 44): after a frame that fails its check the exchange is over, and
the hunt does not go back into its bytes or on to those behind it; and the bytes behind a frame that passes its check are not
looked at. -/
def receiveFrame : List Byte → Option Frame
  | [] => none
  | b :: rest =>
      if b = syncByte then
        if huntsOn rest then receiveFrame rest else frameAfterSync rest
      else receiveFrame rest

/-- Whether a port keeps a frame that passed its check: the desk port asks for address 0 or the pair's own (R174); the
service port does not check the field (R177), nor does the console port, which R174 gives no address test. -/
def addressTaken (p : Port) (own : Nat) (f : Frame) : Bool :=
  match p with
  | .desk => f.address.toNat == 0 || f.address.toNat == own
  | .console => true
  | .service => true

/-! ### The fields of a body (R185) -/

/-- A byte of the body; a body too short for its request reads as zeros, and is refused LENGTH. -/
def fieldByte (body : List Byte) (i : Nat) : Byte := body.getD i 0#8

/-- A two-byte field, high byte first. -/
def fieldHalf (body : List Byte) (i : Nat) : BitVec 16 := fieldByte body i ++ fieldByte body (i + 1)

/-- A four-byte field, high byte first. -/
def fieldWord (body : List Byte) (i : Nat) : BitVec 32 := fieldHalf body i ++ fieldHalf body (i + 2)

/-- An optional field: the value of all ones says absent. -/
def optionalField {w : Nat} (v : BitVec w) : Option (BitVec w) := if v = BitVec.allOnes w then none else some v

/-- A flag carried in a byte of its own: bit 0, since bits beyond the values defined are ignored. -/
def flagField (b : Byte) : Bool := b.getLsbD 0

/-- An optional flag: the absence value is a flag not carried. -/
def optionalFlag (b : Byte) : Bool := b != 0xFF#8 && flagField b

/-- A lane or a squad id: A = 0, B = 1. -/
def sideField (b : Byte) : Coded Side :=
  if b = 0#8 then .val .a else if b = 1#8 then .val .b else .bad b

/-- A two-valued enumeration, by position in its list. -/
def twoField {α : Type} (first second : α) (b : Byte) : Coded α :=
  if b = 0#8 then .val first else if b = 1#8 then .val second else .bad b

/-- SET_TIMING's lanes: A = 0, B = 1, both = 2. -/
def laneChoiceField (b : Byte) : Coded LaneChoice :=
  if b = 0#8 then .val .a else if b = 1#8 then .val .b else if b = 2#8 then .val .both else .bad b

/-- A rate entry in its twelve bytes (R188). -/
def rateField (body : List Byte) (i : Nat) : RateFields :=
  { present := (fieldByte body i).getLsbD 7
    weekdays := if fieldByte body (i + 1) = 0#8 then none else some (fieldByte body (i + 1))
    start := fieldHalf body (i + 2)
    stop := fieldHalf body (i + 4)
    perGame := fieldHalf body (i + 6)
    perHour := fieldWord body (i + 8) }

/-- The notices of ACK_NOTICES: as many as its count byte says, two bytes each (R188). -/
def noticeFields (body : List Byte) : List NoticeFields :=
  (List.range (fieldByte body 0).toNat).map fun i =>
    { kind := fieldByte body (1 + 2 * i), scope := fieldByte body (2 + 2 * i) }

/-- A selector byte that is not the first value's, 0. -/
def straySelector (b : Byte) : Option Byte := if b = 0#8 then none else some b

/-- The command a request frame spells on a port, with the manager key input at that moment (R185: request codes run in the
order of R179's table, from OPEN_LANE = 1 to SET_NOTICE_MASK = 45). DESIGN CHOICE (log entry 28): a RATE_READ or SET_MACHINE
whose selector byte names neither of its two values is read as the row of its first value, with that byte kept, so that the
request's checks can refuse it. DESIGN CHOICE (log entry 45): the two bytes of MARK_PRESENT's blind score are not looked
at. -/
def decodeFrame (p : Port) (key : Bool) (f : Frame) : Option Instr :=
  let b := f.body
  let e : Envelope := { port := p, address := f.address.toNat, tag := f.tag, bodyLen := b.length }
  let lane := sideField (fieldByte b 0)
  match f.code.toNat with
  | 1 => some (.openLane e lane (twoField .game .time (fieldByte b 1)) (fieldHalf b 2) (optionalField (fieldHalf b 4)))
  | 2 => some (.closeLane e lane)
  | 3 => some (.pauseLane e lane)
  | 4 => some (.resumeLane e lane)
  | 5 => some (.addCredit e lane (fieldHalf b 1))
  | 6 => some (.addTime e lane (fieldHalf b 1))
  | 7 => some (.readAccount e lane)
  | 8 => some (.readSession e lane)
  | 9 => some (.startGame e lane (fieldByte b 1))
  | 10 => some (.bowlerReady e lane)
  | 11 => some (.foulDetect e lane (twoField .on .off (fieldByte b 1)))
  | 12 => some (.resetDeck e lane)
  | 13 => some (.addBowler e lane ((List.range 12).map fun i => fieldByte b (1 + i)) (optionalField (fieldByte b 13))
      (optionalField (fieldHalf b 14)))
  | 14 => some (.removeBowler e lane (fieldByte b 1))
  | 15 => some (.moveBowler e lane (fieldByte b 1) (fieldByte b 2))
  | 16 => some (.markAbsent e lane (fieldByte b 1) (fieldHalf b 2))
  | 17 => some (.markPresent e lane (fieldByte b 1))
  | 18 => some (.setHandicap e lane (fieldByte b 1) (optionalField (fieldByte b 2)))
  | 19 => some (.readSheet e lane (fieldByte b 1))
  | 20 => some (.correctBall e lane
      { slot := fieldByte b 1, frame := fieldByte b 2, ball := fieldByte b 3, expectedCount := fieldByte b 4,
        expectedFoul := flagField (fieldByte b 5), form := twoField .leave .count (fieldByte b 6),
        newLeave := optionalField (fieldHalf b 7), newCount := optionalField (fieldByte b 9),
        newFoul := flagField (fieldByte b 10) })
  | 21 => some (.enterBall e lane (fieldHalf b 1) (flagField (fieldByte b 3)))
  | 22 => some (.setPairMode e (twoField .single .cross (fieldByte b 0)))
  | 23 => some (if flagField (fieldByte b 0) then .splitPairForce e else .splitPair e)
  | 24 => some (.rateSet e (fieldByte b 0) (rateField b 1))
  | 25 => some (.rateClear e (fieldByte b 0))
  | 26 => some (.rateStore e (fieldByte b 0) (rateField b 1) key)
  | 27 => if fieldByte b 0 = 1#8 then some (.rateReadStored e)
          else some (.rateReadWorking ⟨e, straySelector (fieldByte b 0)⟩)
  | 28 => some (.clockSet e (fieldByte b 0) (fieldByte b 1) (fieldByte b 2) (fieldByte b 3))
  | 29 => some (.clockRead e)
  | 30 => some (.clearFault e lane)
  | 31 => some (.readMachine e lane)
  | 32 => some (.setTiming e (laneChoiceField (fieldByte b 0))
      { settle := optionalField (fieldByte b 1), watchdog := optionalField (fieldByte b 2),
        warmUp := optionalField (fieldByte b 3), idle := optionalField (fieldByte b 4) })
  | 33 => if fieldByte b 1 = 1#8 then some (.setMachineOff e lane)
          else some (.setMachineOn e ⟨lane, straySelector (fieldByte b 1)⟩)
  | 34 => some (.testCycle e lane)
  | 35 => some (.clearCounters e lane)
  | 36 => some (.setMaintInterval e lane (fieldWord b 1))
  | 37 => some (.maintDone e lane)
  | 38 => some (.clearReturn e)
  | 39 => some (.setReturn e ((optionalField (fieldByte b 0)).map (twoField .on .off)) (optionalField (fieldByte b 1)))
  | 40 => some (.readReturn e (optionalFlag (fieldByte b 0)) (optionalFlag (fieldByte b 1)))
  | 41 => some (.readSupply e (optionalFlag (fieldByte b 0)))
  | 42 => some (.resetPair e)
  | 43 => some (.readNotices e)
  | 44 => some (.ackNotices e (noticeFields b))
  | 45 => some (.setNoticeMask e (fieldWord b 0) (twoField .level .pulse (fieldByte b 4)))
  | _ => some (.unknownRequestCode e f.code)

/-! ### The request frame of a command -/

/-- The code byte of a coded field (R185), with the position of each listed value. -/
def Coded.byte {α : Type} (code : α → Byte) : Coded α → Byte
  | .val v => code v
  | .bad b => b

/-- A lane or a squad id. -/
def sideByte : Coded Side → Byte := Coded.byte fun | .a => 0#8 | .b => 1#8

/-- ON or OFF. -/
def onOffByte : Coded OnOff → Byte := Coded.byte fun | .on => 0#8 | .off => 1#8

/-- An optional field: absence is the value of all ones. -/
def optionalBits {w : Nat} (v : Option (BitVec w)) : BitVec w := v.getD (BitVec.allOnes w)

/-- Two bytes, high byte first. -/
def halfBytes (v : BitVec 16) : List Byte := [v.extractLsb' 8 8, v.extractLsb' 0 8]

/-- Four bytes, high byte first. -/
def wordBytes (v : BitVec 32) : List Byte := halfBytes (v.extractLsb' 16 16) ++ halfBytes (v.extractLsb' 0 16)

/-- A flag in a byte of its own. -/
def flagBit (b : Bool) : Byte := if b then 1#8 else 0#8

/-- A rate entry in its twelve bytes (R188). -/
def RateFields.bytes (r : RateFields) : List Byte :=
  [if r.present then 0x80#8 else 0#8, r.weekdays.getD 0#8] ++ halfBytes r.start ++ halfBytes r.stop ++ halfBytes r.perGame
    ++ wordBytes r.perHour

/-- The body of a request frame, by R185 and R188; `none` for an event. -/
def requestBody : Instr → Option (List Byte)
  | .openLane _ l m c w =>
      some ([sideByte l, m.byte fun | .game => 0#8 | .time => 1#8] ++ halfBytes c ++ halfBytes (optionalBits w))
  | .closeLane _ l => some [sideByte l]
  | .pauseLane _ l => some [sideByte l]
  | .resumeLane _ l => some [sideByte l]
  | .addCredit _ l n => some (sideByte l :: halfBytes n)
  | .addTime _ l n => some (sideByte l :: halfBytes n)
  | .readAccount _ l => some [sideByte l]
  | .readSession _ l => some [sideByte l]
  | .startGame _ l g => some [sideByte l, g]
  | .bowlerReady _ l => some [sideByte l]
  | .foulDetect _ l o => some [sideByte l, onOffByte o]
  | .resetDeck _ l => some [sideByte l]
  | .addBowler _ q n h b => some (sideByte q :: n ++ optionalBits h :: halfBytes (optionalBits b))
  | .removeBowler _ q k => some [sideByte q, k]
  | .moveBowler _ q k j => some [sideByte q, k, j]
  | .markAbsent _ q k b => some (sideByte q :: k :: halfBytes b)
  | .markPresent _ q k => some [sideByte q, k, 0xFF#8, 0xFF#8]
  | .setHandicap _ q k h => some [sideByte q, k, optionalBits h]
  | .readSheet _ l n => some [sideByte l, n]
  | .correctBall _ q c =>
      some ([sideByte q, c.slot, c.frame, c.ball, c.expectedCount, flagBit c.expectedFoul,
          c.form.byte fun | .leave => 0#8 | .count => 1#8] ++ halfBytes (optionalBits c.newLeave)
        ++ [optionalBits c.newCount, flagBit c.newFoul])
  | .enterBall _ l x f => some (sideByte l :: halfBytes x ++ [flagBit f])
  | .setPairMode _ m => some [m.byte fun | .single => 0#8 | .cross => 1#8]
  | .splitPair _ => some [0#8]
  | .splitPairForce _ => some [1#8]
  | .rateSet _ n v => some (n :: v.bytes)
  | .rateClear _ n => some [n]
  | .rateStore _ n v _ => some (n :: v.bytes)
  | .rateReadWorking e => some [e.stray.getD 0#8]
  | .rateReadStored _ => some [1#8]
  | .clockSet _ d h m s => some [d, h, m, s]
  | .clockRead _ => some []
  | .clearFault _ l => some [sideByte l]
  | .readMachine _ l => some [sideByte l]
  | .setTiming _ l t =>
      some [l.byte fun | .a => 0#8 | .b => 1#8 | .both => 2#8, optionalBits t.settle, optionalBits t.watchdog,
        optionalBits t.warmUp, optionalBits t.idle]
  | .setMachineOff _ l => some [sideByte l, 1#8]
  | .setMachineOn _ l => some [sideByte l.field, l.stray.getD 0#8]
  | .testCycle _ l => some [sideByte l]
  | .clearCounters _ l => some [sideByte l]
  | .setMaintInterval _ l n => some (sideByte l :: wordBytes n)
  | .maintDone _ l => some [sideByte l]
  | .clearReturn _ => some []
  | .setReturn _ p n => some [(p.map onOffByte).getD 0xFF#8, optionalBits n]
  | .readReturn _ x y => some [flagBit x, flagBit y]
  | .readSupply _ x => some [flagBit x]
  | .resetPair _ => some []
  | .readNotices _ => some []
  | .ackNotices _ ns => some (BitVec.ofNat 8 ns.length :: ns.flatMap fun n => [n.kind, n.scope])
  | .setNoticeMask _ m a => some (wordBytes m ++ [a.byte fun | .level => 0#8 | .pulse => 1#8])
  | .unknownRequestCode e _ => some (List.replicate e.bodyLen 0#8)
  | .frameDiscard _ _ | .interByteTimeout _ _ | .consoleBytesUnderHold | .selectRise => none
  | .replyTurnaround _ | .replySent _ | .warm _ | .deck _ _ | .respotPoint _ | .cycleDone _ => none
  | .machineFault _ _ | .ballDetection _ | .foulEvent _ | .pitExit _ | .arrival | .keyRelease => none
  | .programmingComplete | .settleExpiry _ | .deckLimitExpiry _ | .cycleWatchdogExpiry _ => none
  | .warmUpExpiry _ | .idleStandbyExpiry _ | .runOnExpiry | .transitExpiry | .reversePhaseEnd => none
  | .forwardPhaseEnd | .runningSecond _ | .pulseEnd _ | .clockSecond | .crystalStop => none
  | .crystalRestart | .mainFailure | .mainReturn | .retentionLoss | .batteryLowSet => none
  | .batteryLowClear | .externalResetAssert | .externalResetRelease => none

/-- The request frame of a command (R174, R184); `none` for an event. -/
def encodeFrame (i : Instr) : Option Frame :=
  match i.requestRow, requestBody i with
  | some r, some b => some { address := BitVec.ofNat 8 r.envelope.address, code := r.code, tag := r.envelope.tag, body := b }
  | _, _ => none

end Sys2Proof
end

