-- ==== Sys2Proof/Config.lean ====
section
/-! DEFINITION. What the spec leaves open as a VALUE, as constants without a body. -/

namespace Sys2Proof

/-- The fault code (less 1) that a delivery record's pending fault holds after a warm-up expiry in ENTRY. R154 says that
ENTRY stores a pending fault then, and R48 gives a pending fault a code of 1 to 255; neither says which code, since a
warm-up expiry comes with none. The argument is the model's counter `State.free`, so that two expiries need not agree. -/
opaque Config.warmUpCode : Nat → Fin 255

end Sys2Proof
end

