-- ==== Sys2Proof/Machine/State.lean ====
section
/-! DEFINITION. The state of the LB2410, as plain data: every record of R1, R11, R12, R24, R25, R48, R62, R63, R86, R93,
R105, R106, R121, R135, R139, R146, R164, R168, R172 and R183, beside the commands that wait. -/

namespace Sys2Proof.Machine

/-! ### Why a step could stop -/

/-- The faults of the block. There is none: the spec gives every command an effect in every state. -/
inductive Fault where
deriving DecidableEq, Repr

/-- The refusals of the block. -/
inductive Refusal where
  /-- Raised by `exec` alone, for a row of the opcode table whose meaning is not written yet; safe. No arm raises it. -/
  | notModelled (mnemonic : String)
deriving DecidableEq, Repr

/-! ### A thing held once per lane or once per squad -/

/-- One value for A and one for B. -/
structure Pair (α : Type) where
  a : α
  b : α
deriving DecidableEq, Repr

/-- The value for one letter. -/
def Pair.get {α : Type} (p : Pair α) : Side → α
  | .a => p.a
  | .b => p.b

/-- The pair with the value for one letter replaced. -/
def Pair.set {α : Type} (p : Pair α) (k : Side) (v : α) : Pair α :=
  match k with
  | .a => { p with a := v }
  | .b => { p with b := v }

/-! ### Lane Control (chapter 1) -/

/-- Lane state (R1). -/
inductive LaneState where
  | closed
  | opened
  | playing
  | grace
  | closing
deriving DecidableEq, Repr

/-- Hold reasons (R1, section 1.2), in the order of the hold set's bits in R186. -/
inductive Hold where
  | desk
  | credit
  | time
  | ret
  | machine
  | entry
  | swap
  | power
  | service
deriving DecidableEq, Repr

/-- The hold set (R6): each reason is in it or not. -/
structure HoldSet where
  desk : Bool
  credit : Bool
  time : Bool
  ret : Bool
  machine : Bool
  entry : Bool
  swap : Bool
  power : Bool
  service : Bool
deriving DecidableEq, Repr

/-- The empty hold set. -/
def HoldSet.none : HoldSet :=
  { desk := false, credit := false, time := false, ret := false, machine := false, entry := false, swap := false,
    power := false, service := false }

/-- Whether the set holds a reason. -/
def HoldSet.has (h : HoldSet) : Hold → Bool
  | .desk => h.desk
  | .credit => h.credit
  | .time => h.time
  | .ret => h.ret
  | .machine => h.machine
  | .entry => h.entry
  | .swap => h.swap
  | .power => h.power
  | .service => h.service

/-- The set with a reason put in or taken out. -/
def HoldSet.put (h : HoldSet) (r : Hold) (v : Bool) : HoldSet :=
  match r with
  | .desk => { h with desk := v }
  | .credit => { h with credit := v }
  | .time => { h with time := v }
  | .ret => { h with ret := v }
  | .machine => { h with machine := v }
  | .entry => { h with entry := v }
  | .swap => { h with swap := v }
  | .power => { h with power := v }
  | .service => { h with service := v }

/-- Whether the set holds no reason. -/
def HoldSet.isEmpty (h : HoldSet) : Bool :=
  !(h.desk || h.credit || h.time || h.ret || h.machine || h.entry || h.swap || h.power || h.service)

/-- The reopen mark (R86): a squad, a bowler (by slot) and a frame. -/
structure ReopenMark where
  squad : SquadId
  slot : Nat
  frame : Nat
deriving DecidableEq, Repr

/-! ### The Pinsetter Supervisor (chapters 3 and 9) -/

/-- Cycle state (R48). -/
inductive CycleState where
  | parked
  | gated
  | armed
  | ballIn
  | reading
  | entry
  | cycling
  | fault
  | recover
deriving DecidableEq, Repr

/-- Machine power state (R153). -/
inductive Power where
  | off
  | standby
  | warming
  | running
deriving DecidableEq, Repr

/-- Purpose of a cycle (R62). -/
inductive Purpose where
  | delivery
  | align
  | resetDeck
  | recovery
  | close
  | test
deriving DecidableEq, Repr

/-- Kind of a cycle (R62). -/
inductive CycleKind where
  | respot
  | reset
deriving DecidableEq, Repr

/-- The cycle record (R62). -/
structure CycleRec where
  purpose : Purpose
  kind : CycleKind
  picked : Option Leave
  attempt : Nat
  latched : Bool
deriving DecidableEq, Repr

/-- The delivery record (R48); `pendingFault` is the code of a fault that came in ENTRY (R68). -/
structure Delivery where
  foul : Bool
  attempt : Nat
  pendingFault : Option Nat
deriving DecidableEq, Repr

/-- Last fault (R48). -/
inductive FaultCause where
  | message (code : Nat)
  | watchdog
  | warmUp
deriving DecidableEq, Repr

/-- A running timer: the core tick it was started at and the length it was started with, in core ticks of 10 ms. -/
structure Timer where
  startedAt : Nat
  length : Nat
deriving DecidableEq, Repr

/-- The timing settings (R73): settle in tenths of a second, watchdog and warm-up limit in seconds, idle in minutes. -/
structure Timing where
  settle : Nat
  watchdog : Nat
  warmUp : Nat
  idle : Nat
deriving DecidableEq, Repr

/-- A counter of 0 to 255 with its full flag (R113, R161). -/
structure Counter where
  value : Nat
  full : Bool
deriving DecidableEq, Repr

/-- The six counters of a lane (R161). -/
structure Counters where
  cycles : Nat
  sinceService : Nat
  timeout : Counter
  fault : Counter
  deckFail : Counter
  mismatch : Counter
deriving DecidableEq, Repr

/-- The messages of the supervisor to its machine (R49). -/
inductive MachineMessage where
  | powerOn
  | powerOff
  | readDeck
  | cycle (kind : CycleKind)
  | spot (leave : Leave)
  | stop
deriving DecidableEq, Repr

/-- The supervisor record of a lane (R48, R63, R73, R160 to R162). `link` is the model's own: the messages sent to the
machine so far, oldest first. -/
structure Supervisor where
  cycle : CycleState
  power : Power
  nextDeck : Leave
  latched : Option Leave
  stale : Bool
  foulPending : Bool
  delivery : Option Delivery
  cycleRec : Option CycleRec
  lastFault : Option FaultCause
  settleTimer : Option Timer
  deckTimer : Option Timer
  watchdogTimer : Option Timer
  warmUpTimer : Option Timer
  idleTimer : Option Timer
  timing : Timing
  counters : Counters
  testMark : Bool
  maintInterval : Nat
  maintDue : Bool
  link : List MachineMessage
deriving DecidableEq, Repr

/-! ### The Billing Unit (chapter 7) -/

/-- A reading of the Centre Clock (R121, R172). -/
structure ClockReading where
  weekday : Nat
  hour : Nat
  minute : Nat
  second : Nat
deriving DecidableEq, Repr

/-- The lane account (R121). -/
structure Account where
  mode : AccountMode
  gameCredit : Nat
  creditsLoaded : Nat
  creditsTaken : Nat
  timeCredit : Nat
  minutesLoaded : Nat
  minutesMetered : Nat
  phase : Nat
  centMinutes : Nat
  gameCharges : Nat
  warn : Nat
  warned : Bool
  openTime : Option ClockReading
deriving DecidableEq, Repr

/-- The session summary (R135). -/
structure Summary where
  lane : Lane
  mode : AccountMode
  openTime : Option ClockReading
  closeTime : Option ClockReading
  creditsLoaded : Nat
  creditsTaken : Nat
  creditsRemaining : Nat
  minutesLoaded : Nat
  minutesMetered : Nat
  timeRemaining : Nat
  gameCharges : Nat
  timePart : Nat
  total : Nat
  saturated : Bool
deriving DecidableEq, Repr

/-- All that is held once per lane: the lane record (R1), the reopen mark (R86), the sheet serial (R186), the supervisor,
the account, the ticks of the running second under way (R128) and the last session summary (R135). -/
structure LaneRec where
  state : LaneState
  holds : HoldSet
  squad : SquadId
  foulDetect : Bool
  latchedFault : Bool
  reopen : Option ReopenMark
  serial : Nat
  sup : Supervisor
  acct : Account
  runTicks : Nat
  summary : Option Summary
deriving DecidableEq, Repr

/-! ### The Scoring Unit (chapters 1, 2 and 5) -/

/-- Source of a ball entry (R25). -/
inductive Source where
  | sensed
  | entered
  | corrected
deriving DecidableEq, Repr

/-- A ball entry (R25). -/
structure BallEntry where
  count : Nat
  faced : Leave
  after : Leave
  foul : Bool
  split : Bool
  source : Source
  mismatch : Bool
deriving DecidableEq, Repr

/-- A frame record (R24). -/
structure FrameRec where
  balls : List BallEntry
  base : Nat
  bonus : Nat
  owed : Nat
  total : Option Nat
deriving DecidableEq, Repr

/-- A bowler's status (R12). -/
inductive BowlerStatus where
  | active
  | absent
  | waiting
deriving DecidableEq, Repr

/-- The totals of a completed game, without and with handicap (R12, R44). -/
structure GameTotals where
  plain : Nat
  handicapped : Nat
deriving DecidableEq, Repr

/-- A bowler record (R12): the ten frame records are `sheet`, frame 1 first; `pending` lists the frames that owe bonus
balls, oldest first (R26). -/
structure Bowler where
  name : List Byte
  handicap : Option Nat
  blind : Option Nat
  status : BowlerStatus
  charged : Bool
  completed : Nat
  last : Option GameTotals
  sheet : List FrameRec
  pending : List Nat
deriving DecidableEq, Repr

/-- Squad state (R11). -/
inductive SquadState where
  | forming
  | bowling
  | swapWait
  | gameDone
deriving DecidableEq, Repr

/-- Games-to-play (R11): a count of 1 to 9, or continuous. -/
inductive Games where
  | count (n : Nat)
  | continuous
deriving DecidableEq, Repr

/-- A squad record (R11). Its id is the letter it is kept under; slots are numbered from 1 along `order`. -/
structure Squad where
  home : Lane
  current : Lane
  state : SquadState
  round : Nat
  slot : Option Nat
  ball : Nat
  game : Nat
  games : Games
  order : List Bowler
deriving DecidableEq, Repr

/-! ### The Ball Return Monitor (chapter 6) -/

/-- Return state (R105). -/
inductive ReturnState where
  | idle
  | carrying
  | clearing
  | jammed
  | fault
  | off
deriving DecidableEq, Repr

/-- Clearing phase (R105). -/
inductive ClearPhase where
  | reverse
  | forward
deriving DecidableEq, Repr

/-- Lift drive state (R107). -/
inductive Lift where
  | off
  | forward
  | reverse
deriving DecidableEq, Repr

/-- An entry of the return queue (R106). -/
structure ReturnEntry where
  origin : Lane
  exitTime : Nat
deriving DecidableEq, Repr

/-- The monitor record (R105); `sensorFault` is the fault reason SENSOR. -/
structure ReturnMonitor where
  state : ReturnState
  sensorFault : Bool
  queue : List ReturnEntry
  ageBase : Option Nat
  runOn : Bool
  attempt : Nat
  phase : Option ClearPhase
  lift : Lift
  limit : Nat
  jam : Counter
  stray : Bool
deriving DecidableEq, Repr

/-! ### The Rate Card (chapter 8) -/

/-- A rate entry (R139); an absent weekday set is `none`. -/
structure RateEntry where
  present : Bool
  weekdays : Option (BitVec 7)
  start : Nat
  stop : Nat
  perGame : Nat
  perHour : Nat
deriving DecidableEq, Repr

/-- State of a stored entry (R146). -/
inductive StoreState where
  | blank
  | good
  | compromised
deriving DecidableEq, Repr

/-- A stored entry of the Rate Store (R146). -/
structure StoredEntry where
  state : StoreState
  writes : Nat
  value : RateEntry
deriving DecidableEq, Repr

/-- The programming under way (R148): the entry and the value its request carried. -/
structure Programming where
  entry : Nat
  value : RateEntry
deriving DecidableEq, Repr

/-- The Rate Card and the Rate Store: sixteen working entries, the number of the entry in effect (R141), sixteen stored
entries, and the programming under way. -/
structure RateCard where
  working : List RateEntry
  inEffect : Nat
  store : List StoredEntry
  programming : Option Programming
deriving DecidableEq, Repr

/-! ### Clock and supply (chapter 10) -/

/-- The Centre Clock (R164); `crystal` is set while the crystal status is RUNNING. -/
structure Clock where
  weekday : Nat
  hour : Nat
  minute : Nat
  second : Nat
  valid : Bool
  crystal : Bool
deriving DecidableEq, Repr

/-- Supply state (R168). -/
inductive SupplyState where
  | main
  | backup
deriving DecidableEq, Repr

/-- Kind of the last start (R172). -/
inductive StartKind where
  | cold
  | mainReturn
  | resetInput
deriving DecidableEq, Repr

/-- The Supply Monitor (R168 to R172): the supply state, battery-low status, the retention mark, the power-event record,
the external reset input, and whether main has returned while that input still holds the core (R169). -/
structure Supply where
  state : SupplyState
  batteryLow : Bool
  retention : Bool
  lastStart : StartKind
  failures : Nat
  lastFailure : Option ClockReading
  resetAsserted : Bool
  mainBack : Bool
deriving DecidableEq, Repr

/-! ### Ports and notices (chapter 11) -/

/-- Notice kinds (R180), in the order of the routing table. -/
inductive NoticeKind where
  | ball
  | frame
  | game
  | dead
  | staleDeck
  | entry
  | fault
  | maint
  | returnJam
  | returnOk
  | creditOut
  | creditShort
  | timeWarn
  | timeOut
  | closed
  | corrected
  | rateChange
  | clock
  | power
  | battery
deriving DecidableEq, Repr

/-- The lane of a notice, or the pair as a whole (R180). -/
inductive Scope where
  | a
  | b
  | pair
deriving DecidableEq, Repr

/-- A notice (R180). -/
structure Notice where
  kind : NoticeKind
  scope : Scope
deriving DecidableEq, Repr

/-- Reply status codes (R178), in the order of its table. -/
inductive Status where
  | ok
  | limited
  | busy
  | denied
  | state
  | range
  | stale
  | shape
  | full
  | absent
  | mode
  | key
  | keyLost
  | worn
  | storeBusy
  | length
deriving DecidableEq, Repr

/-- A reply (R174, R184): request code, tag, status, and the bytes after the status. `own` is set when it answers the
request in execution, and clear for a BUSY reply to a later request (R178). -/
structure Reply where
  code : Byte
  tag : Byte
  status : Status
  body : List Byte
  own : Bool
deriving DecidableEq, Repr

/-- The request in execution on a port (R178). -/
structure InExecution where
  code : Byte
  tag : Byte
deriving DecidableEq, Repr

/-- The states of the console port (R176). -/
inductive ConsolePhase where
  | free
  | executing
  | replyReady
deriving DecidableEq, Repr

/-- What is held for one port (R176 to R183): the request in execution, the replies that are ready, oldest first, whether
the first of them is being transmitted, the console port's state, the notice set (ordered by code, without repeats), the
notice mask (bit `c` for kind code `c`), the attention mode, and whether an attention pulse is under way. -/
structure PortState where
  request : Option InExecution
  outgoing : List Reply
  transmitting : Bool
  phase : ConsolePhase
  notices : List Notice
  mask : BitVec 20
  mode : AttentionMode
  pulse : Bool
deriving DecidableEq, Repr

/-! ### The whole state -/

/-- The state of the LB2410. `straps` are the six strap lines and `address` the pair address read from them (R174); `key`
is the manager key input as last seen; `tick` is the core tick count (R105). `free` counts the free values taken so far
and `pending` is the queue of commands, first in, first out: these two are the model's own. -/
structure State where
  lanes : Pair LaneRec
  pairMode : PairMode
  squads : Pair Squad
  ret : ReturnMonitor
  rates : RateCard
  clock : Clock
  supply : Supply
  desk : PortState
  console : PortState
  service : PortState
  straps : BitVec 6
  address : Nat
  key : Bool
  tick : Nat
  free : Nat
  pending : List Instr
deriving DecidableEq, Repr

/-! ### Values after reset -/

/-- The default timing settings (R73). -/
def Timing.default : Timing := { settle := 20, watchdog := 12, warmUp := 20, idle := 10 }

/-- A counter at 0 (R163). -/
def Counter.zero : Counter := { value := 0, full := false }

/-- The counters as they leave the factory (R163). -/
def Counters.zero : Counters :=
  { cycles := 0, sinceService := 0, timeout := .zero, fault := .zero, deckFail := .zero, mismatch := .zero }

/-- A cleared account (R136). -/
def Account.cleared : Account :=
  { mode := .game, gameCredit := 0, creditsLoaded := 0, creditsTaken := 0, timeCredit := 0, minutesLoaded := 0,
    minutesMetered := 0, phase := 0, centMinutes := 0, gameCharges := 0, warn := 5, warned := false, openTime := none }

/-- The supervisor after a cold start of a part fresh from the factory (R75, R163). -/
def Supervisor.reset : Supervisor :=
  { cycle := .parked, power := .standby, nextDeck := fullRack, latched := none, stale := false, foulPending := false,
    delivery := none, cycleRec := none, lastFault := none, settleTimer := none, deckTimer := none, watchdogTimer := none,
    warmUpTimer := none, idleTimer := none, timing := .default, counters := .zero, testMark := false, maintInterval := 0,
    maintDue := false, link := [] }

/-- The lane record and what stands beside it after a cold start (R22, R138, R186). -/
def LaneRec.reset (l : Lane) : LaneRec :=
  { state := .closed, holds := .none, squad := l, foulDetect := true, latchedFault := false, reopen := none, serial := 0,
    sup := .reset, acct := .cleared, runTicks := 0, summary := none }

/-- The squad record after a cold start (R23). -/
def Squad.reset (q : SquadId) : Squad :=
  { home := q, current := q, state := .forming, round := 1, slot := none, ball := 1, game := 1, games := .count 1,
    order := [] }

/-- The monitor record after a cold start (R120). -/
def ReturnMonitor.reset : ReturnMonitor :=
  { state := .idle, sensorFault := false, queue := [], ageBase := none, runOn := false, attempt := 0, phase := none,
    lift := .off, limit := 20, jam := .zero, stray := false }

/-- An absent rate entry, with nothing kept of its other fields (R139, R143). -/
def RateEntry.absent : RateEntry :=
  { present := false, weekdays := none, start := 0, stop := 0, perGame := 0, perHour := 0 }

/-- The factory default of entry 0 (R139). -/
def RateEntry.factory : RateEntry :=
  { present := true, weekdays := none, start := 0, stop := 0, perGame := 0, perHour := 0 }

/-- A stored entry as the part leaves the factory (R146). -/
def StoredEntry.blank : StoredEntry := { state := .blank, writes := 0, value := .absent }

/-- The Rate Card of a part fresh from the factory, loaded by R152. -/
def RateCard.reset : RateCard :=
  { working := .factory :: List.replicate 15 .absent, inEffect := 0, store := List.replicate 16 .blank,
    programming := none }

/-- The clock after a cold start (R164); the crystal status is a marked choice (log entry 3). -/
def Clock.reset : Clock := { weekday := 1, hour := 0, minute := 0, second := 0, valid := false, crystal := true }

/-- The Supply Monitor after the first power-up (R170, R172); battery-low status is a marked choice (log entry 3). -/
def Supply.reset : Supply :=
  { state := .main, batteryLow := false, retention := true, lastStart := .cold, failures := 0, lastFailure := none,
    resetAsserted := false, mainBack := false }

/-- A port after a start, with the notices that the start enters (R183). -/
def PortState.reset (notices : List Notice) : PortState :=
  { request := none, outgoing := [], transmitting := false, phase := .free, notices := notices,
    mask := BitVec.allOnes 20, mode := .level, pulse := false }

/-- The machine right after the first power-up, which is a cold start (R170): POWER stands in every notice set, and CLOCK
in the desk's, since the clock is invalid (R165, R183). -/
def State.reset : State :=
  { lanes := { a := .reset .a, b := .reset .b }
    pairMode := .single
    squads := { a := .reset .a, b := .reset .b }
    ret := .reset
    rates := .reset
    clock := .reset
    supply := .reset
    desk := .reset [{ kind := .clock, scope := .pair }, { kind := .power, scope := .pair }]
    console := .reset [{ kind := .power, scope := .pair }]
    service := .reset [{ kind := .power, scope := .pair }]
    straps := 0#6
    address := 64
    key := false
    tick := 0
    free := 0
    pending := [] }

/-! ### Reading and writing one part of the state -/

/-- What is held for a lane. -/
def State.lane (s : State) (l : Lane) : LaneRec := s.lanes.get l

/-- A squad record. -/
def State.squad (s : State) (q : SquadId) : Squad := s.squads.get q

/-- What is held for a port. -/
def State.port (s : State) : Port → PortState
  | .desk => s.desk
  | .console => s.console
  | .service => s.service

/-- Replace what is held for a lane. -/
def State.setLane (s : State) (l : Lane) (r : LaneRec) : State := { s with lanes := s.lanes.set l r }

/-- Replace a squad record. -/
def State.setSquad (s : State) (q : SquadId) (v : Squad) : State := { s with squads := s.squads.set q v }

/-- Replace what is held for a port. -/
def State.setPort (s : State) (p : Port) (v : PortState) : State :=
  match p with
  | .desk => { s with desk := v }
  | .console => { s with console := v }
  | .service => { s with service := v }

end Sys2Proof.Machine
end

