-- ==== Sys2Proof/Machine/Flags.lean ====
section
/-! DEFINITION. The counts, flags and marks that the spec computes from other values: pin counts, split marks, score
marks, saturating counters, the meter's running condition, the session charge, attention. -/

namespace Sys2Proof.Machine

/-! ### Leaves -/

/-- The pin numbers less 1, lowest pin first. -/
def pinIndices : List Nat := List.range 10

/-- The size of a leave (00_scope, Conventions). -/
def leaveSize (l : Leave) : Nat := pinIndices.countP fun i => l.getLsbD i

/-- Whether every pin of `x` belongs to `y`. -/
def leaveWithin (x y : Leave) : Bool := x &&& y == x

/-- The pins adjacent to a pin (R39's table), by pin index (pin number less 1). -/
def adjacentPins : Nat → Leave
  | 0 => 0x006#10
  | 1 => 0x01D#10
  | 2 => 0x033#10
  | 3 => 0x0D2#10
  | 4 => 0x1AE#10
  | 5 => 0x314#10
  | 6 => 0x088#10
  | 7 => 0x158#10
  | 8 => 0x2B0#10
  | 9 => 0x120#10
  | _ => 0#10

/-- The pins of `l` that are in `r` or adjacent to a pin of `r`: one step of R39's reach. -/
def reachStep (l r : Leave) : Leave :=
  (pinIndices.foldl (fun acc i => if r.getLsbD i then acc ||| adjacentPins i else acc) r) &&& l

/-- The lowest-numbered pin of a leave, as a leave. -/
def lowestPin (l : Leave) : Leave := l &&& (-l)

/-- `n` steps of R39's reach inside `l`. -/
def reachIn (l : Leave) : Nat → Leave → Leave
  | 0, r => r
  | n + 1, r => reachIn l n (reachStep l r)

/-- Whether the pins of a leave are connected (R39, condition 5): from its lowest pin every other pin is reached, in at
most nine steps. -/
def leaveConnected (l : Leave) : Bool := reachIn l 9 (lowestPin l) == l

/-- The split mark of a ball of frame `k`, the `n`-th of the frame (R39). -/
def splitMark (k n : Nat) (faced after : Leave) (foul : Bool) : Bool :=
  ((decide (k ≤ 9) && n == 1) || (k == 10 && faced == fullRack)) && !foul && !after.getLsbD 0
    && decide (2 ≤ leaveSize after) && !leaveConnected after

/-- The count of a ball (R29, R30). -/
def ballCount (faced after : Leave) (foul : Bool) : Nat := if foul then 0 else leaveSize faced - leaveSize after

/-- A strike as ball 1: count 10 with the foul flag clear (R31, R33). -/
def isStrike (e : BallEntry) : Bool := e.count == 10 && !e.foul

/-! ### Score marks (R41) -/

/-- The characters of the marks, as bytes (R186). -/
def markX : Byte := 0x58#8
/-- The spare's mark. -/
def markSpare : Byte := 0x2F#8
/-- The mark of a ball that knocks no pins. -/
def markMiss : Byte := 0x2D#8
/-- The mark of a foul. -/
def markFoul : Byte := 0x46#8

/-- The mark of one ball, given whether it is first at its rack (R41). -/
def ballMark (first : Bool) (e : BallEntry) : Byte :=
  if e.foul then markFoul
  else if e.count == 10 && first then markX
  else if e.after == clearDeck && !first then markSpare
  else if e.count == 0 then markMiss
  else BitVec.ofNat 8 (0x30 + e.count)

/-- The marks of a frame's balls in order: ball 1 is first at its rack, and in frame 10 so is a ball after X or /. -/
def frameMarks (tenth first : Bool) : List BallEntry → List Byte
  | [] => []
  | e :: rest =>
      let m := ballMark first e
      m :: frameMarks tenth (tenth && (m == markX || m == markSpare)) rest

/-! ### Saturating counters -/

/-- A counter of 0 to 255 raised by 1, saturating, its full flag set when it reaches 255 (R113, R161). -/
def Counter.raise (c : Counter) : Counter :=
  { value := min 255 (c.value + 1), full := c.full || decide (255 ≤ c.value + 1) }

/-- A count of 0 to `top` raised by 1, saturating. -/
def saturate (top n : Nat) : Nat := min top (n + 1)

/-- The largest value of the cycle counts (R161). -/
def cycleTop : Nat := 4294967295

/-- The modulus of the core tick count (R105). -/
def tickModulus : Nat := 4294967296

/-- The core ticks from one count to another, taken modulo the tick count's range (R105). -/
def ticksSince (now before : Nat) : Nat := (now + (tickModulus - before % tickModulus)) % tickModulus

/-! ### Lane conditions -/

/-- A lane in which play goes on (R51, condition 1). -/
def LaneState.plays : LaneState → Bool
  | .playing => true
  | .grace => true
  | _ => false

/-- A lane with a session that no close has ended: OPEN, PLAYING or GRACE. -/
def LaneState.inSession : LaneState → Bool
  | .opened => true
  | .playing => true
  | .grace => true
  | _ => false

/-- Whether the hold set holds one of the reasons that stop the meter (R127). -/
def HoldSet.stopsMeter (h : HoldSet) : Bool := h.desk || h.ret || h.machine || h.power || h.service

/-- Whether the lane meter runs (R127). -/
def meterRunning (r : LaneRec) : Bool :=
  r.acct.mode == .time && (r.state == .opened || r.state == .playing) && decide (1 ≤ r.acct.timeCredit)
    && !r.holds.stopsMeter

/-- The time part of a session (R132). -/
def timePart (a : Account) : Nat := (a.centMinutes + 30) / 60

/-- The session charge (R133, R134). -/
def sessionCharge (a : Account) : Nat := min 9999999 (a.gameCharges + timePart a)

/-- Saturated status (R133). -/
def chargeSaturated (a : Account) : Bool := decide (9999999 < a.gameCharges + timePart a)

/-- Whether the supervisor is in a state in which the idle standby timer runs (R155). -/
def idleRuns (u : Supervisor) : Bool :=
  u.power == .running && (u.cycle == .armed || u.cycle == .gated) && u.timing.idle != 0

/-- Whether a delivery is under way and not yet recorded: BALL_IN, READING or ENTRY (R13, R78). -/
def CycleState.delivering : CycleState → Bool
  | .ballIn => true
  | .reading => true
  | .entry => true
  | _ => false

/-! ### Rate matching -/

/-- The day before a weekday (R140). -/
def dayBefore (d : Nat) : Nat := if d = 1 then 7 else d - 1

/-- Whether a weekday is in an entry's set; an absent set holds every day (R140). -/
def dayInSet (e : RateEntry) (d : Nat) : Bool :=
  match e.weekdays with
  | none => true
  | some w => w.getLsbD (d - 1)

/-- Whether a present entry of 1 to 15 matches minute `m` of weekday `d` (R140). -/
def rateMatches (e : RateEntry) (d m : Nat) : Bool :=
  e.present &&
    (if e.start < e.stop then dayInSet e d && decide (e.start ≤ m) && decide (m < e.stop)
     else if e.start = e.stop then dayInSet e d
     else (dayInSet e d && decide (e.start ≤ m)) || (dayInSet e (dayBefore d) && decide (m < e.stop)))

/-- The lowest number of the entries of a list, numbered from `n`, that matches; 0 when none does (R141). -/
def firstMatch (d m : Nat) : Nat → List RateEntry → Nat
  | _, [] => 0
  | n, e :: rest => if rateMatches e d m then n else firstMatch d m (n + 1) rest

/-- The number of the entry in effect (R141). -/
def chosenEntry (working : List RateEntry) (c : Clock) : Nat :=
  if c.valid then firstMatch c.weekday (60 * c.hour + c.minute) 1 (working.drop 1) else 0

/-! ### Attention (R182) -/

/-- The code of a notice kind (R185). -/
def NoticeKind.code : NoticeKind → Nat
  | .ball => 0
  | .frame => 1
  | .game => 2
  | .dead => 3
  | .staleDeck => 4
  | .entry => 5
  | .fault => 6
  | .maint => 7
  | .returnJam => 8
  | .returnOk => 9
  | .creditOut => 10
  | .creditShort => 11
  | .timeWarn => 12
  | .timeOut => 13
  | .closed => 14
  | .corrected => 15
  | .rateChange => 16
  | .clock => 17
  | .power => 18
  | .battery => 19

/-- The code of a notice's lane (R185). -/
def Scope.code : Scope → Nat
  | .a => 0
  | .b => 1
  | .pair => 2

/-- The place of a notice in READ_NOTICES' order (R188): by kind code, then by lane code. -/
def Notice.code (n : Notice) : Nat := 3 * n.kind.code + n.scope.code

/-- Whether a notice's kind is in a port's mask (R182). -/
def maskedIn (v : PortState) (n : Notice) : Bool := v.mask.getLsbD n.kind.code

/-- Whether the core runs: main present, and the external reset input not asserted (R168, R169). -/
def coreOn (s : State) : Bool := s.supply.state == .main && !s.supply.resetAsserted

/-- The attention line of a port (R182); deasserted while the core is stopped (R183). -/
def attentionLine (s : State) (p : Port) : Bool :=
  coreOn s &&
    (match (s.port p).mode with
     | .level => (s.port p).notices.any (maskedIn (s.port p))
     | .pulse => (s.port p).pulse)

/-- The console port's HOLD line (R176). -/
def holdLine (s : State) : Bool := s.console.phase == .executing

/-- The lift's forward enable and reverse enable (R107). -/
def liftEnables (s : State) : Bool × Bool := (s.ret.lift == .forward, s.ret.lift == .reverse)

end Sys2Proof.Machine
end

