-- ==== Sys2Proof/Machine/Operands.lean ====
section
/-! DEFINITION. The operand forms: how a request's fields are read as values (R185), and how values are written as the
bytes of a reply (R184 to R188). -/

namespace Sys2Proof.Machine

/-! ### Reading fields -/

/-- A leave of a request: malformed, and so refused RANGE, with any of bits 10 to 15 set (R185). -/
def leaveOf (raw : BitVec 16) : Option Leave :=
  if raw.extractLsb' 10 6 = 0#6 then some (raw.extractLsb' 0 10) else none

/-- A printable character, 0x20 to 0x7E (R185). -/
def printable (b : Byte) : Bool := decide (0x20 ≤ b.toNat) && decide (b.toNat ≤ 0x7E)

/-- The characters of a bowler's tag: those before the first zero byte; `none`, and so RANGE, when there is none or one of
them is not printable (R14, R185). -/
def nameOf (raw : List Byte) : Option (List Byte) :=
  let chars := raw.takeWhile (· != 0#8)
  if !chars.isEmpty && decide (chars.length ≤ 12) && chars.all printable then some chars else none

/-- An optional handicap, 0 to 250 (R14, R18): `none` outside its range. -/
def handicapOf : Option Byte → Option (Option Nat)
  | none => some none
  | some b => if b.toNat ≤ 250 then some (some b.toNat) else none

/-- A blind score, 0 to 300 (R17): `none` outside its range. -/
def blindOf (raw : BitVec 16) : Option Nat := if raw.toNat ≤ 300 then some raw.toNat else none

/-- An optional blind score (R14). -/
def optionalBlindOf : Option (BitVec 16) → Option (Option Nat)
  | none => some none
  | some b => (blindOf b).map some

/-- Games-to-play: 1 to 9, with 0 for continuous (R3, R185): `none` outside its range. -/
def gamesOf (raw : Byte) : Option Games :=
  if raw.toNat = 0 then some .continuous else if raw.toNat ≤ 9 then some (.count raw.toNat) else none

/-- A weekday set of a rate entry: at least one of the days 1 to 7, in bits 0 to 6 (R139, R188). -/
def weekdaysOf : Option Byte → Option (Option (BitVec 7))
  | none => some none
  | some w => if w = 0#8 ∨ w.msb then none else some (some (w.extractLsb' 0 7))

/-- A rate entry of a request, under the field checks of R143 and R147; with the present flag clear the other fields are
neither checked nor kept. -/
def rateEntryOf (f : RateFields) : Option RateEntry :=
  if f.present then
    match weekdaysOf f.weekdays with
    | none => none
    | some days =>
        if f.start.toNat ≤ 1439 ∧ f.stop.toNat ≤ 1439 ∧ f.perGame.toNat ≤ 9999 ∧ f.perHour.toNat ≤ 99999 then
          some { present := true, weekdays := days, start := f.start.toNat, stop := f.stop.toNat,
                 perGame := f.perGame.toNat, perHour := f.perHour.toNat }
        else none
  else some .absent

/-- A value clamped to a range. -/
def clamp (lo hi v : Nat) : Nat := max lo (min hi v)

/-- The lanes SET_TIMING names, A first (R73). -/
def lanesOf : LaneChoice → List Lane
  | .a => [.a]
  | .b => [.b]
  | .both => [.a, .b]

/-- A notice kind from its code (R185). -/
def noticeKindOf : Nat → Option NoticeKind
  | 0 => some .ball
  | 1 => some .frame
  | 2 => some .game
  | 3 => some .dead
  | 4 => some .staleDeck
  | 5 => some .entry
  | 6 => some .fault
  | 7 => some .maint
  | 8 => some .returnJam
  | 9 => some .returnOk
  | 10 => some .creditOut
  | 11 => some .creditShort
  | 12 => some .timeWarn
  | 13 => some .timeOut
  | 14 => some .closed
  | 15 => some .corrected
  | 16 => some .rateChange
  | 17 => some .clock
  | 18 => some .power
  | 19 => some .battery
  | _ => none

/-- A notice's lane from its code (R185). -/
def scopeOf : Nat → Option Scope
  | 0 => some .a
  | 1 => some .b
  | 2 => some .pair
  | _ => none

/-- A listed notice; `none` for an unknown kind or lane (R181). -/
def noticeOf (f : NoticeFields) : Option Notice :=
  match noticeKindOf f.kind.toNat, scopeOf f.scope.toNat with
  | some k, some sc => some { kind := k, scope := sc }
  | _, _ => none

/-- All the listed notices, when every one is known (R181). -/
def noticesOf : List NoticeFields → Option (List Notice)
  | [] => some []
  | f :: rest =>
      match noticeOf f, noticesOf rest with
      | some n, some ns => some (n :: ns)
      | _, _ => none

/-- The notice lane of a lane. -/
def scopeOfLane : Lane → Scope
  | .a => .a
  | .b => .b

/-! ### Writing numbers (R185: unsigned, high byte first) -/

/-- One byte. -/
def be1 (n : Nat) : List Byte := [BitVec.ofNat 8 n]

/-- Two bytes. -/
def be2 (n : Nat) : List Byte := [BitVec.ofNat 8 (n / 256), BitVec.ofNat 8 n]

/-- Four bytes. -/
def be4 (n : Nat) : List Byte :=
  [BitVec.ofNat 8 (n / 16777216), BitVec.ofNat 8 (n / 65536), BitVec.ofNat 8 (n / 256), BitVec.ofNat 8 n]

/-- An optional one-byte number. -/
def opt1 : Option Nat → List Byte
  | some n => be1 n
  | none => [0xFF#8]

/-- An optional two-byte number. -/
def opt2 : Option Nat → List Byte
  | some n => be2 n
  | none => [0xFF#8, 0xFF#8]

/-- A flag in a byte of its own. -/
def flagByte (b : Bool) : List Byte := [if b then 1#8 else 0#8]

/-- Flags packed in a byte, bit 0 first. -/
def flagBits (bits : List Bool) : Nat := bits.foldr (fun b n => (if b then 1 else 0) + 2 * n) 0

/-- A leave (R185). -/
def leaveBytes (l : Leave) : List Byte := be2 l.toNat

/-- An optional leave. -/
def optLeaveBytes : Option Leave → List Byte
  | some l => leaveBytes l
  | none => [0xFF#8, 0xFF#8]

/-- A clock reading; weekday 0 says absent. -/
def readingBytes : Option ClockReading → List Byte
  | some r => be1 r.weekday ++ be1 r.hour ++ be1 r.minute ++ be1 r.second
  | none => [0#8, 0#8, 0#8, 0#8]

/-! ### Enumerations, by position in the list of the owning rule (R185) -/

/-- Lanes and squad ids. -/
def sideCode : Side → Nat
  | .a => 0
  | .b => 1

/-- Lane states (R1). -/
def laneStateCode : LaneState → Nat
  | .closed => 0
  | .opened => 1
  | .playing => 2
  | .grace => 3
  | .closing => 4

/-- Account modes (R121). -/
def accountModeCode : AccountMode → Nat
  | .game => 0
  | .time => 1

/-- Pair modes (R93). -/
def pairModeCode : PairMode → Nat
  | .single => 0
  | .cross => 1

/-- Squad states (R11). -/
def squadStateCode : SquadState → Nat
  | .forming => 0
  | .bowling => 1
  | .swapWait => 2
  | .gameDone => 3

/-- Bowler statuses (R12). -/
def bowlerStatusCode : BowlerStatus → Nat
  | .active => 0
  | .absent => 1
  | .waiting => 2

/-- Games-to-play, with 0 for continuous. -/
def gamesCode : Games → Nat
  | .count n => n
  | .continuous => 0

/-- Sources of a ball (R186). -/
def sourceCode : Source → Nat
  | .sensed => 0
  | .entered => 1
  | .corrected => 2

/-- Cycle states (R48). -/
def cycleStateCode : CycleState → Nat
  | .parked => 0
  | .gated => 1
  | .armed => 2
  | .ballIn => 3
  | .reading => 4
  | .entry => 5
  | .cycling => 6
  | .fault => 7
  | .recover => 8

/-- Machine power states (R48, R153). -/
def powerCode : Power → Nat
  | .off => 0
  | .standby => 1
  | .warming => 2
  | .running => 3

/-- Purposes of a cycle (R62). -/
def purposeCode : Purpose → Nat
  | .delivery => 0
  | .align => 1
  | .resetDeck => 2
  | .recovery => 3
  | .close => 4
  | .test => 5

/-- Kinds of a cycle (R62). -/
def cycleKindCode : CycleKind → Nat
  | .respot => 0
  | .reset => 1

/-- Return states (R105). -/
def returnStateCode : ReturnState → Nat
  | .idle => 0
  | .carrying => 1
  | .clearing => 2
  | .jammed => 3
  | .fault => 4
  | .off => 5

/-- Clearing phases (R105). -/
def clearPhaseCode : ClearPhase → Nat
  | .reverse => 0
  | .forward => 1

/-- Lift drive states (R105). -/
def liftCode : Lift → Nat
  | .off => 0
  | .forward => 1
  | .reverse => 2

/-- States of a stored entry (R146). -/
def storeStateCode : StoreState → Nat
  | .blank => 0
  | .good => 1
  | .compromised => 2

/-- Supply states (R168). -/
def supplyStateCode : SupplyState → Nat
  | .main => 0
  | .backup => 1

/-- Kinds of a start (R172). -/
def startKindCode : StartKind → Nat
  | .cold => 0
  | .mainReturn => 1
  | .resetInput => 2

/-- Attention modes (R182). -/
def attentionModeCode : AttentionMode → Nat
  | .level => 0
  | .pulse => 1

/-- Status codes (R178, R185). -/
def statusCode : Status → Nat
  | .ok => 0
  | .limited => 1
  | .busy => 2
  | .denied => 3
  | .state => 4
  | .range => 5
  | .stale => 6
  | .shape => 7
  | .full => 8
  | .absent => 9
  | .mode => 10
  | .key => 11
  | .keyLost => 12
  | .worn => 13
  | .storeBusy => 14
  | .length => 15

end Sys2Proof.Machine
end

