-- ==== Sys2Proof/Machine/Scoring.lean ====
section
/-! DEFINITION. The score arithmetic of one bowler's sheet (chapter 2): ball entries, the bonus step, the frame rules,
totals, the pending-bonus list, rebuilding, and the choice of the next bowler from a bowling order. -/

namespace Sys2Proof.Machine

/-! ### The sheet -/

/-- A frame the bowler has not yet reached (R24). -/
def unbowledFrame : FrameRec := { balls := [], base := 0, bonus := 0, owed := 0, total := none }

/-- The sheet at the start of a game: ten unbowled frames (R47). -/
def emptySheet : List FrameRec := List.replicate 10 unbowledFrame

/-- The record of frame `k`, 1 to 10. -/
def frameAt (sheet : List FrameRec) (k : Nat) : FrameRec := sheet.getD (k - 1) unbowledFrame

/-- The sheet with the record of frame `k` rewritten. -/
def setFrame (sheet : List FrameRec) (k : Nat) (f : FrameRec) : List FrameRec := sheet.set (k - 1) f

/-- The sum of the counts of a frame's own balls. -/
def countSum (balls : List BallEntry) : Nat := (balls.map (·.count)).sum

/-- Whether ball 1 of a frame is a strike (R31, R33). -/
def firstIsStrike : List BallEntry → Bool
  | e :: _ => isStrike e
  | [] => false

/-- Whether frame 10 is allowed a ball 3, read from its first two balls (R33). -/
def thirdAllowed (balls : List BallEntry) : Bool := firstIsStrike balls || countSum (balls.take 2) == 10

/-- Whether frame `k`'s own balls are complete (R27, R31 to R33). -/
def ballsComplete (k : Nat) (balls : List BallEntry) : Bool :=
  if k ≤ 9 then firstIsStrike balls || decide (2 ≤ balls.length)
  else decide (3 ≤ balls.length) || (balls.length == 2 && !thirdAllowed balls)

/-- Whether frame `k` of a sheet is complete. -/
def frameComplete (sheet : List FrameRec) (k : Nat) : Bool := ballsComplete k (frameAt sheet k).balls

/-- The owed value of frame `k` once its own balls are complete: 2 for a strike and 1 for a spare of frames 1 to 9, else 0
(R31, R32, R35). -/
def owedWhenComplete (k : Nat) (balls : List BallEntry) : Nat :=
  if k ≤ 9 then (if firstIsStrike balls then 2 else if countSum balls == 10 then 1 else 0) else 0

/-- The leave the next ball of a frame faces after the balls given: R31 for frames 1 to 9, R34 for frame 10. A ball 1 faces
a full rack. DESIGN CHOICE (log entry 39): after two balls of frame 10 that allow no third, which R34's table leaves out and
a correction of ball 1 or 2 can ask for (R81), the leave is a full rack. -/
def nextLeave (k : Nat) (balls : List BallEntry) : Leave :=
  if k ≤ 9 then
    match balls with
    | [e] => if e.foul then e.faced else e.after
    | _ => fullRack
  else
    match balls with
    | [e] => if isStrike e then fullRack else if e.foul then e.faced else e.after
    | [e1, e2] =>
        if isStrike e1 then (if isStrike e2 then fullRack else if e2.foul then e2.faced else e2.after) else fullRack
    | _ => fullRack

/-- A ball entry built from its leaves, foul flag and source; its count and split mark are derived (R29, R30, R39). -/
def makeEntry (k n : Nat) (faced after : Leave) (foul : Bool) (source : Source) (mismatch : Bool) : BallEntry :=
  { count := ballCount faced after foul, faced := faced, after := after, foul := foul,
    split := splitMark k n faced after foul, source := source, mismatch := mismatch }

/-! ### The steps of a record (R28, steps 2 to 6) -/

/-- A frame's share of the bonus step (R36). -/
def payFrame (count : Nat) (f : FrameRec) : FrameRec := { f with bonus := f.bonus + count, owed := f.owed - 1 }

/-- The bonus step pays every frame on the pending list, oldest first (R36). -/
def payPending (count : Nat) (pending : List Nat) (sheet : List FrameRec) : List FrameRec :=
  pending.foldl (fun sh k => setFrame sh k (payFrame count (frameAt sh k))) sheet

/-- The frames that stay on the pending list after the bonus step (R36). -/
def stillOwing (sheet : List FrameRec) (pending : List Nat) : List Nat :=
  pending.filter fun k => (frameAt sheet k).owed != 0

/-- Frames become final in frame order, from frame `k` on, with the total of the frame before it given (R37). -/
def finalise : Nat → Nat → List FrameRec → List FrameRec
  | _, _, [] => []
  | k, previous, f :: rest =>
      match f.total with
      | some t => f :: finalise (k + 1) t rest
      | none =>
          if ballsComplete k f.balls && f.owed == 0 then
            { f with total := some (previous + f.base + f.bonus) } ::
              finalise (k + 1) (previous + f.base + f.bonus) rest
          else f :: rest

/-- Frame `k` with a ball appended: its base is brought up to date, and when the ball completes it, its owed value is set
(R28, steps 2 and 4). -/
def appendBall (k : Nat) (e : BallEntry) (f : FrameRec) : FrameRec :=
  let balls := f.balls ++ [e]
  { f with balls := balls, base := countSum balls,
           owed := if ballsComplete k balls then owedWhenComplete k balls else f.owed }

/-- The sheet and the pending list after a ball of frame `k` (R28, steps 2 to 6): the frames on the list are paid, the frame
takes the ball, frames become final, and a strike or spare joins the list at its tail (R38). -/
def scoreBall (k : Nat) (e : BallEntry) (sheet : List FrameRec) (pending : List Nat) : List FrameRec × List Nat :=
  let paid := payPending e.count pending sheet
  let left := stillOwing paid pending
  let taken := setFrame paid k (appendBall k e (frameAt paid k))
  let final := finalise 1 0 taken
  (final, if (frameAt taken k).owed != 0 && ballsComplete k (frameAt taken k).balls then left ++ [k] else left)

/-! ### Rebuilding a sheet (R45) -/

/-- The replay of one frame's balls, the first of them the `n`-th of frame `k`: each count and split mark is derived again. -/
def replayBalls (k : Nat) : Nat → List BallEntry → List FrameRec × List Nat → List FrameRec × List Nat
  | _, [], acc => acc
  | n, e :: rest, acc =>
      replayBalls k (n + 1) rest
        (scoreBall k (makeEntry k n e.faced e.after e.foul e.source e.mismatch) acc.1 acc.2)

/-- The replay of the frames of a sheet from frame `k` on. -/
def replayFrames : Nat → List FrameRec → List FrameRec × List Nat → List FrameRec × List Nat
  | _, [], acc => acc
  | k, f :: rest, acc => replayFrames (k + 1) rest (replayBalls k 1 f.balls acc)

/-- The sheet and pending list rebuilt from the entries of a sheet (R45). -/
def rebuild (sheet : List FrameRec) : List FrameRec × List Nat := replayFrames 1 sheet (emptySheet, [])

/-! ### Bowlers and orders -/

/-- An ACTIVE bowler. -/
def Bowler.isActive (b : Bowler) : Bool := b.status == .active

/-- The bowler at a slot, counted from 1. -/
def bowlerAt (order : List Bowler) (slot : Nat) : Option Bowler := if slot = 0 then none else order[slot - 1]?

/-- The order with the bowler at a slot rewritten. -/
def setBowler (order : List Bowler) (slot : Nat) (b : Bowler) : List Bowler := order.set (slot - 1) b

/-- The slot of the first bowler of a list, counted from `n`, for whom a test holds. -/
def firstSlot (test : Bowler → Bool) : Nat → List Bowler → Option Nat
  | _, [] => none
  | n, b :: rest => if test b then some n else firstSlot test (n + 1) rest

/-- The first ACTIVE bowler of an order (R19, R21). -/
def firstActive (order : List Bowler) : Option Nat := firstSlot Bowler.isActive 1 order

/-- The first ACTIVE bowler whose sheet does not hold a complete frame `k` (R20). -/
def firstLacking (k : Nat) (order : List Bowler) : Option Nat :=
  firstSlot (fun b => b.isActive && !frameComplete b.sheet k) 1 order

/-- The number of ACTIVE bowlers. -/
def activeCount (order : List Bowler) : Nat := order.countP Bowler.isActive

/-- The totals a bowler's completed game stores (R42, R43). -/
def gameTotals (b : Bowler) : GameTotals :=
  let plain := match b.status with
    | .absent => b.blind.getD 0
    | _ => (frameAt b.sheet 10).total.getD 0
  { plain := plain, handicapped := plain + b.handicap.getD 0 }

/-- A bowler at the completion of the squad's game (R44): a WAITING bowler gets nothing. -/
def completeGame (b : Bowler) : Bowler :=
  match b.status with
  | .waiting => b
  | _ => { b with last := some (gameTotals b), completed := saturate 255 b.completed }

/-- A WAITING bowler becomes ABSENT with a blind score and ACTIVE without (R19, R21). -/
def convertWaiting (b : Bowler) : Bowler :=
  match b.status with
  | .waiting => { b with status := if b.blind.isSome then .absent else .active }
  | _ => b

/-- A bowler at the start of a game (R19, steps 1 and 2). -/
def freshGame (b : Bowler) : Bowler :=
  { convertWaiting b with sheet := emptySheet, pending := [], charged := false }

/-- The current bowler of a squad. -/
def Squad.currentBowler (q : Squad) : Option Bowler := q.slot.bind (bowlerAt q.order)

/-- Whether a squad has a game in progress (R17, R98). -/
def Squad.inGame (q : Squad) : Bool := q.state != .forming

/-- Whether games-to-play leaves another game after game number `n` (R21). -/
def moreGames (g : Games) (n : Nat) : Bool :=
  match g with
  | .continuous => true
  | .count k => decide (n < k)

/-- A slot after the bowler at slot `k` has left (R15). -/
def slotAfterRemoval (k x : Nat) : Nat := if k < x then x - 1 else x

/-- A slot after the bowler at slot `i` has moved to slot `j` (R16). -/
def slotAfterMove (i j x : Nat) : Nat :=
  if x = i then j else if i < x ∧ x ≤ j then x - 1 else if j ≤ x ∧ x < i then x + 1 else x

/-- An order with the bowler at slot `i` moved to slot `j` (R16). -/
def moveInOrder (order : List Bowler) (i j : Nat) : List Bowler :=
  match bowlerAt order i with
  | none => order
  | some b => (order.eraseIdx (i - 1)).insertIdx (j - 1) b

end Sys2Proof.Machine
end

