-- ==== Sys2Proof/Machine/Ops.lean ====
section
/-! DEFINITION. The named operations over the state that the commands share: notices, timers, the machine link, the hold
set, cycles, the arming decision, parking and faults. -/

namespace Sys2Proof.Machine

/-! ### Rewriting one part -/

/-- Rewrite what is held for a lane. -/
def modLane (l : Lane) (f : LaneRec → LaneRec) (s : State) : State := s.setLane l (f (s.lane l))

/-- Rewrite a lane's supervisor. -/
def modSup (l : Lane) (f : Supervisor → Supervisor) (s : State) : State := modLane l (fun r => { r with sup := f r.sup }) s

/-- Rewrite a lane's account. -/
def modAcct (l : Lane) (f : Account → Account) (s : State) : State := modLane l (fun r => { r with acct := f r.acct }) s

/-- Rewrite a squad record. -/
def modSquad (q : SquadId) (f : Squad → Squad) (s : State) : State := s.setSquad q (f (s.squad q))

/-- Rewrite what is held for a port. -/
def modPort (p : Port) (f : PortState → PortState) (s : State) : State := s.setPort p (f (s.port p))

/-- A lane's supervisor. -/
def State.sup (s : State) (l : Lane) : Supervisor := (s.lane l).sup

/-- A lane's account. -/
def State.acct (s : State) (l : Lane) : Account := (s.lane l).acct

/-- The squad current on a lane. -/
def State.squadOn (s : State) (l : Lane) : Squad := s.squad (s.lane l).squad

/-! ### Notices (R180) -/

/-- A notice set with a notice put in its place; a notice already there stays there once. -/
def insertNotice (n : Notice) : List Notice → List Notice
  | [] => [n]
  | m :: rest =>
      if n.code < m.code then n :: m :: rest
      else if m.code < n.code then m :: insertNotice n rest
      else m :: rest

/-- The ports that receive a kind (R180's table). CORRECTED goes to one port only (R92) and is entered by `enterNotice`. -/
def receives (p : Port) (k : NoticeKind) : Bool :=
  match p, k with
  | .desk, .game => true
  | .desk, .fault => true
  | .desk, .returnJam => true
  | .desk, .creditOut => true
  | .desk, .creditShort => true
  | .desk, .timeWarn => true
  | .desk, .timeOut => true
  | .desk, .closed => true
  | .desk, .rateChange => true
  | .desk, .clock => true
  | .desk, .power => true
  | .desk, .battery => true
  | .console, .ball => true
  | .console, .frame => true
  | .console, .game => true
  | .console, .dead => true
  | .console, .staleDeck => true
  | .console, .entry => true
  | .console, .fault => true
  | .console, .returnJam => true
  | .console, .returnOk => true
  | .console, .creditOut => true
  | .console, .creditShort => true
  | .console, .timeWarn => true
  | .console, .timeOut => true
  | .console, .power => true
  | .service, .dead => true
  | .service, .staleDeck => true
  | .service, .fault => true
  | .service, .maint => true
  | .service, .returnJam => true
  | .service, .returnOk => true
  | .service, .power => true
  | .service, .battery => true
  | _, _ => false

/-- A port with a notice entered into its set: in PULSE mode a masked-in notice that was not held starts a pulse (R182). -/
def portWithNotice (n : Notice) (v : PortState) : PortState :=
  if n ∈ v.notices then v
  else { v with notices := insertNotice n v.notices, pulse := v.pulse || (v.mode == .pulse && maskedIn v n) }

/-- Enter a notice into one port's set. -/
def enterNotice (p : Port) (n : Notice) (s : State) : State := modPort p (portWithNotice n) s

/-- Enter a notice into a port's set when that port receives its kind. -/
def routeNotice (p : Port) (n : Notice) (s : State) : State := if receives p n.kind then enterNotice p n s else s

/-- Raise a notice: it enters the set of each port that receives its kind (R180). -/
def raiseNotice (k : NoticeKind) (sc : Scope) (s : State) : State :=
  routeNotice .service { kind := k, scope := sc } (routeNotice .console { kind := k, scope := sc }
    (routeNotice .desk { kind := k, scope := sc } s))

/-- Raise a notice for a lane. -/
def raiseLane (k : NoticeKind) (l : Lane) (s : State) : State := raiseNotice k (scopeOfLane l) s

/-- Raise a notice for the pair. -/
def raisePair (k : NoticeKind) (s : State) : State := raiseNotice k .pair s

/-! ### Timers and the machine link -/

/-- A timer started now, its length in core ticks. -/
def startTimer (s : State) (ticks : Nat) : Option Timer := some { startedAt := s.tick, length := ticks }

/-- The fixed length of the deck limit timer, 1.5 s (R48). -/
def deckLimitTicks : Nat := 150

/-- Send a message to a lane's machine (R49). -/
def sendMessage (l : Lane) (m : MachineMessage) (s : State) : State := modSup l (fun u => { u with link := u.link ++ [m] }) s

/-- Start a lane's cycle watchdog with the setting in force (R62, R67). -/
def startWatchdog (l : Lane) (s : State) : State :=
  modSup l (fun u => { u with watchdogTimer := startTimer s (100 * u.timing.watchdog) }) s

/-- A wake (R154): POWER_ON is sent to a machine in STANDBY, which goes to WARMING with the warm-up timer started. -/
def wake (l : Lane) (s : State) : State :=
  if (s.sup l).power = .standby then
    sendMessage l .powerOn
      (modSup l (fun u => { u with power := .warming, warmUpTimer := startTimer s (100 * u.timing.warmUp) }) s)
  else s

/-- Power a machine down to STANDBY when it is WARMING or RUNNING (R153, R159). -/
def powerDown (l : Lane) (s : State) : State :=
  if (s.sup l).power = .warming ∨ (s.sup l).power = .running then
    sendMessage l .powerOff (modSup l (fun u => { u with power := .standby, warmUpTimer := none }) s)
  else s

/-- Start the idle standby timer from its full time when its condition holds (R155). -/
def restartIdle (l : Lane) (s : State) : State :=
  if idleRuns (s.sup l) then modSup l (fun u => { u with idleTimer := startTimer s (6000 * u.timing.idle) }) s else s

/-! ### Counters of a lane -/

/-- Rewrite a lane's counters. -/
def modCounters (l : Lane) (f : Counters → Counters) (s : State) : State :=
  modSup l (fun u => { u with counters := f u.counters }) s

/-- The maintenance test (R162). -/
def maintTest (l : Lane) (s : State) : State :=
  let u := s.sup l
  if u.maintInterval ≠ 0 ∧ u.maintInterval ≤ u.counters.sinceService ∧ ¬u.maintDue then
    raiseLane .maint l (modSup l (fun u => { u with maintDue := true }) s)
  else s

/-- A CYCLE_DONE is counted (R66, step 2), and the maintenance test applied. -/
def countCycle (l : Lane) (s : State) : State :=
  maintTest l (modCounters l (fun c =>
    { c with cycles := saturate cycleTop c.cycles, sinceService := saturate cycleTop c.sinceService }) s)

/-! ### The deck -/

/-- Write the leave of a lane's Next Deck record (R63). -/
def writeNextDeck (l : Lane) (leave : Leave) (s : State) : State := modSup l (fun u => { u with nextDeck := leave }) s

/-- Set deck-stale; STALE_DECK is raised when it passes from clear to set (R65). -/
def setStale (l : Lane) (s : State) : State :=
  if (s.sup l).stale then s else raiseLane .staleDeck l (modSup l (fun u => { u with stale := true }) s)

/-! ### The hold set (R6, R7) -/

/-- A reason taken out of the hold set, without informing the supervisor. -/
def dropHold (l : Lane) (h : Hold) (s : State) : State := modLane l (fun r => { r with holds := r.holds.put h false }) s

/-- The supervisor goes to GATED, with foul pending cleared (R53, R55). -/
def gate (l : Lane) (s : State) : State := modSup l (fun u => { u with cycle := .gated, foulPending := false }) s

/-- A reason enters a lane's hold set (R6): nothing for a CLOSED lane or a reason already there; an ARMED supervisor goes
to GATED at once (R7), and any other finds the reason at its next decision. -/
def addHold (l : Lane) (h : Hold) (s : State) : State :=
  if (s.lane l).state = .closed ∨ (s.lane l).holds.has h then s
  else
    let t := modLane l (fun r => { r with holds := r.holds.put h true }) s
    if (s.sup l).cycle = .armed then gate l t else t

/-! ### Cycles -/

/-- Issue a cycle (R62): the record is made, CYCLE is sent, the watchdog starts. A RECOVERY cycle runs in RECOVER and every
other in CYCLING. -/
def issueCycle (l : Lane) (purpose : Purpose) (kind : CycleKind) (picked : Option Leave) (s : State) : State :=
  startWatchdog l (sendMessage l (.cycle kind)
    (modSup l (fun u =>
      { u with cycle := if purpose = .recovery then .recover else .cycling, foulPending := false,
               cycleRec := some { purpose := purpose, kind := kind, picked := picked, attempt := 1, latched := false } }) s))

/-! ### The arming decision (R51, R54, R124) -/

/-- Whether condition 5 of the decision asks for a credit: the home lane is in GAME mode and the current bowler is at frame
1, ball 1, with the charged-this-game flag clear (R51). -/
def needsCredit (s : State) (l : Lane) : Bool :=
  let q := s.squadOn l
  (s.acct q.home).mode == .game && q.round == 1 && q.ball == 1 &&
    (match q.currentBowler with
     | some b => !b.charged
     | none => false)

/-- The working entry in effect (R141). -/
def entryInEffect (s : State) : RateEntry := s.rates.working.getD s.rates.inEffect .absent

/-- Set the charged-this-game flag of a squad's current bowler (R12). -/
def chargeCurrent (q : Squad) : Squad :=
  match q.slot, q.currentBowler with
  | some k, some b => { q with order := setBowler q.order k { b with charged := true } }
  | _, _ => q

/-- A credit attempt that finds credit (R124), on the home lane `h` for the current bowler of squad `q`. -/
def takeCredit (h : Lane) (q : SquadId) (s : State) : State :=
  modSquad q chargeCurrent
    (modAcct h (fun a =>
      { a with gameCredit := a.gameCredit - 1, creditsTaken := a.creditsTaken + 1,
               gameCharges := a.gameCharges + (entryInEffect s).perGame }) s)

/-- A credit attempt that finds none (R124): CREDIT enters the hold set and CREDIT_OUT is raised. -/
def creditOut (h : Lane) (s : State) : State := raiseLane .creditOut h (addHold h .credit s)

/-- Conditions 1 to 4 of the arming decision (R51). -/
def armingConditions (s : State) (l : Lane) : Bool :=
  (s.lane l).state.plays && (s.squadOn l).slot.isSome && (s.sup l).power == .running && (s.lane l).holds.isEmpty

/-- The supervisor goes to ARMED, and the lane's reopen mark becomes absent (R51, R86); with no latched leave it runs the
alignment cycle instead (R54). -/
def armOrAlign (l : Lane) (s : State) : State :=
  if (s.sup l).latched.isNone then issueCycle l .align .reset none s
  else modLane l (fun r => { r with reopen := none, sup := { r.sup with cycle := .armed } }) s

/-- The arming decision (R51). -/
def arm (l : Lane) (s : State) : State :=
  if armingConditions s l then
    if needsCredit s l then
      if (s.acct (s.squadOn l).home).gameCredit = 0 then gate l (creditOut (s.squadOn l).home s)
      else armOrAlign l (takeCredit (s.squadOn l).home (s.lane l).squad s)
    else armOrAlign l s
  else gate l s

/-- The decision, where the supervisor stands in GATED or ARMED (R52). -/
def decide52 (l : Lane) (s : State) : State :=
  if (s.sup l).cycle = .gated ∨ (s.sup l).cycle = .armed then arm l s else s

/-- A change of current bowler not caused by a ball (R20, R52): in ARMED and GATED foul pending is cleared (R55) and the
decision is taken again. -/
def bowlerChanged (l : Lane) (s : State) : State :=
  if (s.sup l).cycle = .gated ∨ (s.sup l).cycle = .armed then arm l (modSup l (fun u => { u with foulPending := false }) s)
  else s

/-- A reason leaves a lane's hold set (R6, R8): when it was the last, a GATED supervisor takes the arming decision. -/
def removeHold (l : Lane) (h : Hold) (s : State) : State :=
  if (s.lane l).holds.has h then
    let t := dropHold l h s
    if (t.lane l).holds.isEmpty ∧ (s.sup l).cycle = .gated then arm l t else t
  else s

/-! ### Parking and entering CLOSED (R5, R158, R159) -/

/-- The squad record at the close of its lane (R23). -/
def Squad.closed (q : Squad) : Squad :=
  { q with state := .forming, round := 1, slot := none, ball := 1, game := 1, games := .count 1, order := [] }

/-- The supervisor with everything of a delivery, a cycle and a test dropped, in PARKED. -/
def Supervisor.parked (u : Supervisor) : Supervisor :=
  { u with cycle := .parked, foulPending := false, delivery := none, cycleRec := none, settleTimer := none,
           deckTimer := none, watchdogTimer := none, idleTimer := none, testMark := false }

/-- The lane enters CLOSED (R5): the hold set, the account and the squad current on the lane are cleared, the session
summary is kept (R136). -/
def enterClosed (l : Lane) (s : State) : State :=
  modSquad (s.lane l).squad Squad.closed
    (modLane l (fun r => { r with state := .closed, holds := .none, reopen := none, acct := .cleared, runTicks := 0 }) s)

/-- The supervisor reaches PARKED by the close sequence (R159); `faulted` when it parked from FAULT or from ENTRY with a
pending fault. -/
def park (l : Lane) (faulted : Bool) (s : State) : State :=
  enterClosed l (powerDown l
    (modLane l (fun r =>
      { r with latchedFault := r.latchedFault || faulted,
               sup := { r.sup.parked with latched := none, stale := false } }) s))

/-- A test ends in a CLOSED lane (R160): PARKED, the mark dropped and the machine powered down. The latched leave stays what
the last cycle left: after a test that latched, a full rack (R54). -/
def endTest (l : Lane) (faulted : Bool) (s : State) : State :=
  powerDown l
    (modLane l (fun r =>
      { r with latchedFault := r.latchedFault || faulted, sup := r.sup.parked }) s)

/-! ### RECOVER (R71) -/

/-- What the supervisor does in RECOVER without a cycle record, by the machine power state (R71); in a CLOSING lane with
the machine OFF it parks (R158). -/
def recoverActs (l : Lane) (s : State) : State :=
  match (s.sup l).power with
  | .running => issueCycle l .recovery .reset none s
  | .standby => wake l s
  | .warming => s
  | .off => if (s.lane l).state = .closing then park l false s else s

/-- Entry into RECOVER (R71). -/
def enterRecover (l : Lane) (s : State) : State :=
  recoverActs l (modSup l (fun u => { u with cycle := .recover, foulPending := false }) s)

/-- The closing cycle (R158): issued with the machine RUNNING; with it OFF the supervisor parks; otherwise it goes to
RECOVER. -/
def closingCycle (l : Lane) (s : State) : State :=
  match (s.sup l).power with
  | .running => issueCycle l .close .reset none s
  | .off => park l false s
  | _ => enterRecover l s

/-- The cycle of a recorded ball is issued (R58): RESPOT when the next ball is in the same frame and does not face a full
rack, else RESET; with the machine not RUNNING the supervisor goes to RECOVER. DEDUCED (log entry 43): the machine power state
is the one at the record (R71, R154), also after a SET_MACHINE OFF and ON during the delivery, of which R157 speaks. -/
def issueDelivery (l : Lane) (after : Leave) (sameFrame : Bool) (s : State) : State :=
  let t := modSup l (fun u => { u with delivery := none }) s
  if (s.sup l).power = .running then
    if sameFrame ∧ (s.sup l).nextDeck ≠ fullRack then issueCycle l .delivery .respot (some after) t
    else issueCycle l .delivery .reset none t
  else enterRecover l t

/-! ### Machine faults (R68) -/

/-- Record a fault: last fault, and the FAULT notice (R67, R68, R154). -/
def noteFault (l : Lane) (cause : FaultCause) (s : State) : State :=
  raiseLane .fault l (modSup l (fun u => { u with lastFault := some cause }) s)

/-- The supervisor in FAULT: the delivery is void, the cycle under way is discarded with the latched leave, timers stop,
and a test is dropped (R68). -/
def Supervisor.faulted (u : Supervisor) : Supervisor :=
  { u with cycle := .fault, foulPending := false, delivery := none, cycleRec := none, settleTimer := none,
           deckTimer := none, watchdogTimer := none, testMark := false,
           latched := if u.cycle = .cycling ∨ u.cycle = .recover then none else u.latched }

/-- Where a machine fault takes the cycle state (R68): ENTRY keeps it with a pending fault of the code given; PARKED, and
any state of a CLOSED lane, ends PARKED with the latched-fault flag set; every other state goes to FAULT, and in a CLOSING
lane on to PARKED (R158). MACHINE is added with FAULT and with ENTRY. -/
def faultMove (l : Lane) (code : Nat) (s : State) : State :=
  match (s.sup l).cycle with
  | .entry =>
      addHold l .machine
        (modSup l (fun u => { u with delivery := u.delivery.map fun d => { d with pendingFault := some code } }) s)
  | .parked =>
      if (s.sup l).testMark then endTest l true s else modLane l (fun r => { r with latchedFault := true }) s
  | _ =>
      let t := modSup l Supervisor.faulted s
      match (s.lane l).state with
      | .closed => endTest l true t
      | .closing => park l true (addHold l .machine t)
      | _ => addHold l .machine t

end Sys2Proof.Machine
end

