-- ==== Sys2Proof/Machine/Rotation.lean ====
section
/-! DEFINITION. The Scoring Unit over the state: recording a ball, rotation, the end of a frame round and of a game, and
cross-lane play (chapters 1, 2 and 5). -/

namespace Sys2Proof.Machine

/-! ### Small rewrites -/

/-- Make a lane's reopen mark absent, or set it (R86). -/
def setReopen (l : Lane) (m : Option ReopenMark) (s : State) : State := modLane l (fun r => { r with reopen := m }) s

/-- Set a lane's state. -/
def setLaneState (l : Lane) (st : LaneState) (s : State) : State := modLane l (fun r => { r with state := st }) s

/-- The squad's frame round becomes `k`, with its first ACTIVE bowler current on ball 1 (R21, R97, R102). -/
def Squad.toRound (q : Squad) (k : Nat) : Squad :=
  { q with state := .bowling, round := k, ball := 1, slot := firstActive q.order }

/-- The squad stands without a game: FORMING, no current bowler (R5, R21, R100). -/
def Squad.formed (q : Squad) : Squad := { q with state := .forming, slot := none }

/-- The squad record at the start of a game, with its game number given (R19). -/
def Squad.started (q : Squad) (game : Nat) : Squad :=
  { ({ q with order := q.order.map freshGame } : Squad).toRound 1 with game := game }

/-- A squad starts a game on its current lane (R19). -/
def startSquadGame (q : SquadId) (game : Nat) (s : State) : State :=
  let l := (s.squad q).current
  setReopen l none (writeNextDeck l fullRack (modSquad q (fun v => v.started game) s))

/-- CREDIT_SHORT at an automatic new game (R125). -/
def creditShort (l : Lane) (q : SquadId) (s : State) : State :=
  if (s.acct l).mode = .game ∧ (s.acct l).gameCredit < activeCount (s.squad q).order then raiseLane .creditShort l s
  else s

/-- The totals of a completed game are stored (R44). -/
def storeTotals (q : SquadId) (s : State) : State := modSquad q (fun v => { v with order := v.order.map completeGame }) s

/-- The WAITING bowlers of a squad are converted (R21, R100). -/
def convertSquad (q : SquadId) (s : State) : State := modSquad q (fun v => { v with order := v.order.map convertWaiting }) s

/-! ### The end of a game in SINGLE (R21) -/

/-- What follows a completed game on lane `l`: a new game at once while the lane is PLAYING, games remain and an ACTIVE
bowler is there; otherwise the squad is FORMING and the lane OPEN (R21, R102). -/
def afterGame (q : SquadId) (l : Lane) (s : State) : State :=
  let v := s.squad q
  if (s.lane l).state = .playing ∧ moreGames v.games v.game ∧ (firstActive v.order).isSome then
    creditShort l q (startSquadGame q (saturate 255 v.game) s)
  else setLaneState l .opened (modSquad q Squad.formed s)

/-! ### Cross-lane play -/

/-- The two squads exchange current lanes, and the lanes their current squads (R97, step 1). -/
def exchangeLanes (s : State) : State :=
  let t := modSquad .a (fun v => { v with current := v.current.other }) (modSquad .b (fun v => { v with current := v.current.other }) s)
  modLane .a (fun r => { r with squad := r.squad.other }) (modLane .b (fun r => { r with squad := r.squad.other }) t)

/-- Both squads return to their home lanes (R100, step 2). -/
def returnHome (s : State) : State :=
  let t := modSquad .a (fun v => { v with current := v.home }) (modSquad .b (fun v => { v with current := v.home }) s)
  modLane .a (fun r => { r with squad := .a }) (modLane .b (fun r => { r with squad := .b }) t)

/-- The SWAP hold is taken out of both lanes (R97, R100, R102); the decisions that follow are taken by the caller. -/
def dropSwapHolds (s : State) : State := dropHold .a .swap (dropHold .b .swap s)

/-- Both lanes' reopen marks become absent (R86). -/
def clearReopens (s : State) : State := setReopen .a none (setReopen .b none s)

/-- Both lanes' supervisors take their new current bowlers (R52, R8). -/
def bothChanged (s : State) : State := bowlerChanged .b (bowlerChanged .a s)

/-- The swap after frame round `f` (R97). -/
def swapSquads (f : Nat) (s : State) : State :=
  let t := exchangeLanes s
  let t := modSquad .a (fun v => v.toRound (f + 1)) (modSquad .b (fun v => v.toRound (f + 1)) t)
  let t := writeNextDeck .a fullRack (writeNextDeck .b fullRack t)
  bothChanged (clearReopens (dropSwapHolds t))

/-- The squad waits for the other (R98). -/
def waitForSwap (q : SquadId) (l : Lane) (s : State) : State :=
  addHold l .swap (modSquad q (fun v => { v with state := .swapWait, ball := 1, slot := none }) s)

/-- The pair's game ends (R100); `q` is the squad that ended it. -/
def endPairGame (q : SquadId) (s : State) : State :=
  let t := clearReopens (dropSwapHolds (returnHome (convertSquad .a (convertSquad .b s))))
  let v := t.squad q
  if moreGames v.games v.game ∧ (firstActive (t.squad .a).order).isSome ∧ (firstActive (t.squad .b).order).isSome then
    bothChanged
      (creditShort .b .b (creditShort .a .a
        (startSquadGame .b (saturate 255 (t.squad .b).game) (startSquadGame .a (saturate 255 (t.squad .a).game) t))))
  else
    bothChanged (setLaneState .a .opened (setLaneState .b .opened (modSquad .a Squad.formed (modSquad .b Squad.formed t))))

/-- A squad reaches GAME_DONE (R99). -/
def reachGameDone (q : SquadId) (l : Lane) (s : State) : State :=
  let t := raiseLane .game l (modSquad q (fun v => { v with state := .gameDone, slot := none }) (storeTotals q s))
  if (s.squad q.other).state = .gameDone then endPairGame q t else addHold l .swap t

/-! ### The end of a frame round (R21, R96) -/

/-- The Billing Unit is told that a round is complete: in GRACE it adds the TIME hold (R131). -/
def reportRound (l : Lane) (s : State) : State := if (s.lane l).state = .grace then addHold l .time s else s

/-- A frame round completes in SINGLE (R21), after FRAME and the report. -/
def roundDoneSingle (q : SquadId) (l : Lane) (s : State) : State :=
  if (s.squad q).round < 10 then modSquad q (fun v => v.toRound (v.round + 1)) s
  else afterGame q l (raiseLane .game l (convertSquad q (storeTotals q s)))

/-- A frame round completes in CROSS (R96), after FRAME and the report. -/
def roundDoneCross (q : SquadId) (l : Lane) (s : State) : State :=
  let f := (s.squad q).round
  let o := s.squad q.other
  if f < 10 then
    if o.state = .swapWait ∧ o.round = f then swapSquads f s else waitForSwap q l s
  else reachGameDone q l s

/-- A squad's frame round completes on lane `l` (R21, R96). -/
def roundDone (q : SquadId) (l : Lane) (s : State) : State :=
  let t := reportRound l (raiseLane .frame l s)
  match t.pairMode with
  | .single => roundDoneSingle q l t
  | .cross => roundDoneCross q l t

/-- The next bowler is chosen after the current bowler's frame is complete, or after that bowler stopped being ACTIVE (R20):
the Next Deck becomes a full rack, and a round without a bowler lacking the frame is complete. -/
def chooseNext (q : SquadId) (l : Lane) (s : State) : State :=
  let t := writeNextDeck l fullRack s
  match firstLacking (s.squad q).round (s.squad q).order with
  | some k => modSquad q (fun v => { v with slot := some k, ball := 1 }) t
  | none => roundDone q l t

/-! ### Recording a ball (R28, R29) -/

/-- What a record hands back to the supervisor (R28): the recorded leave after, and whether the next ball is in the same
frame. -/
structure Recorded where
  after : Leave
  sameFrame : Bool
deriving DecidableEq, Repr

/-- The bowler's record after a ball of frame `k` (R28, steps 1 to 6). -/
def bowlerWithBall (k : Nat) (e : BallEntry) (b : Bowler) : Bowler :=
  { b with sheet := (scoreBall k e b.sheet b.pending).1, pending := (scoreBall k e b.sheet b.pending).2 }

/-- The entry a record builds for the current ball of squad `v`, against the leave faced `faced` (R29). -/
def recordedEntry (v : Squad) (faced leave : Leave) (foul : Bool) (source : Source) : BallEntry :=
  makeEntry v.round v.ball faced (leave &&& faced) foul source (!leaveWithin leave faced)

/-- A sensed ball with pins dropped by the clamp raises the lane's mismatch counter (R29). -/
def countMismatch (l : Lane) (e : BallEntry) (s : State) : State :=
  if e.source = .sensed ∧ e.mismatch then modCounters l (fun c => { c with mismatch := c.mismatch.raise }) s else s

/-- The reopen mark after a record or correction that left frame `k` of the bowler at slot `n` complete (R86): a strike of
frames 1 to 9 that did not complete the round is marked. -/
def markAfterStrike (q : SquadId) (n k : Nat) (strike roundOpen : Bool) : Option ReopenMark :=
  if k ≤ 9 ∧ strike ∧ roundOpen then some { squad := q, slot := n, frame := k } else none

/-- Recording a ball on lane `l` (R28): steps 1 to 8. With no current bowler there is nothing to record. -/
def recordBall (l : Lane) (leave : Leave) (foul : Bool) (source : Source) (s : State) : State × Recorded :=
  let q := (s.lane l).squad
  let v := s.squad q
  let faced := (s.sup l).nextDeck
  match v.slot, v.currentBowler with
  | some n, some b =>
      let e := recordedEntry v faced leave foul source
      let b' := bowlerWithBall v.round e b
      let t := countMismatch l e (modSquad q (fun v => { v with order := setBowler v.order n b' }) s)
      let balls := (frameAt b'.sheet v.round).balls
      if ballsComplete v.round balls then
        let roundOpen := (firstLacking v.round (t.squad q).order).isSome
        let t := chooseNext q l (setReopen l (markAfterStrike q n v.round (firstIsStrike balls) roundOpen) t)
        (raiseLane .ball l t, { after := e.after, sameFrame := false })
      else
        let t := modSquad q (fun v => { v with ball := v.ball + 1 }) (setReopen l none t)
        (raiseLane .ball l (writeNextDeck l (nextLeave v.round balls) t), { after := e.after, sameFrame := true })
  | _, _ => (s, { after := leave &&& faced, sameFrame := false })

/-! ### Leaving cross-lane play (R102) -/

/-- The squads renamed when they stand on the other lanes (R102): the two records exchange ids, and a reopen mark names its
squad by the new id. -/
def renameSquads (s : State) : State :=
  if (s.squad .a).current = .a then s
  else
    let t := { s with squads := { a := { s.squads.b with home := .a, current := .a },
                                  b := { s.squads.a with home := .b, current := .b } } }
    let fix (r : LaneRec) (q : SquadId) : LaneRec :=
      { r with squad := q, reopen := r.reopen.map fun m => { m with squad := m.squad.other } }
    { t with lanes := { a := fix t.lanes.a .a, b := fix t.lanes.b .b } }

/-- Where a forced split leaves one squad (R102's table of squad states). -/
def splitSquad (q : SquadId) (s : State) : State :=
  let l := (s.squad q).current
  match (s.squad q).state with
  | .swapWait => writeNextDeck l fullRack (modSquad q (fun v => v.toRound (v.round + 1)) s)
  | .gameDone => afterGame q l (convertSquad q s)
  | _ => s

/-- The records of a forced split (R102, steps 1 to 5); the decisions that follow are taken by the caller. -/
def splitRecords (s : State) : State :=
  splitSquad .b (splitSquad .a (dropSwapHolds (renameSquads { s with pairMode := .single })))

end Sys2Proof.Machine
end

