-- ==== Sys2Proof/Machine/Ports.lean ====
section
/-! DEFINITION. The ports (chapter 11): how a request is heard, taken, checked and answered; what every event ends with;
and the console's, desk's and service port's own states. -/

namespace Sys2Proof.Machine

/-! ### What every event ends with -/

/-- The idle standby timer of a lane after an event (R155): it starts when its condition begins to hold and stops when the
condition does not hold. DESIGN CHOICE (log entry 48): a setting of 0 stops a timer that runs at once, against R73's 'at its
next restart'. -/
def syncIdle (l : Lane) (s : State) : State :=
  let u := s.sup l
  if idleRuns u then
    (if u.idleTimer.isSome then s else modSup l (fun u => { u with idleTimer := startTimer s (6000 * u.timing.idle) }) s)
  else modSup l (fun u => { u with idleTimer := none }) s

/-- What READ_SHEET reports for a lane (R46, R186), beside the serial itself. -/
structure SheetView where
  state : LaneState
  holds : HoldSet
  squadId : SquadId
  foulDetect : Bool
  latchedFault : Bool
  pairMode : PairMode
  squad : Squad
deriving DecidableEq, Repr

/-- The view of a lane. -/
def sheetView (s : State) (l : Lane) : SheetView :=
  { state := (s.lane l).state, holds := (s.lane l).holds, squadId := (s.lane l).squad, foulDetect := (s.lane l).foulDetect,
    latchedFault := (s.lane l).latchedFault, pairMode := s.pairMode, squad := s.squadOn l }

/-- The sheet serial of a lane rises by 1, wrapping from 65,535 to 0, when the event changed a field that READ_SHEET
reports for the lane (R186); `s` is the state before the event. -/
def bumpSerial (s : State) (l : Lane) (t : State) : State :=
  if sheetView s l = sheetView t l then t
  else modLane l (fun r => { r with serial := (r.serial + 1) % 65536 }) t

/-- The end of an event that led from `s` to `t`: the idle standby timers and the sheet serials of both lanes. -/
def settle (s t : State) : State := bumpSerial s .b (bumpSerial s .a (syncIdle .b (syncIdle .a t)))

/-! ### Requests -/

/-- How a request's own checks end: answered at once with a status and the bytes after it, or later (RATE_STORE). -/
inductive Answer where
  | now (status : Status) (body : List Byte) (s : State)
  | later (s : State)
deriving DecidableEq, Repr

/-- The state after a request's own part. -/
def Answer.state : Answer → State
  | .now _ _ s => s
  | .later s => s

/-- A request refused by its own checks, which changes nothing. -/
def refuse (st : Status) (s : State) : Answer := .now st [] s

/-- A request taken as sent, with nothing to report. -/
def done (s : State) : Answer := .now .ok [] s

/-- OK, or LIMITED when a value was clamped (R178). -/
def okOrLimited (limited : Bool) : Status := if limited then .limited else .ok

/-- A request goes into execution on a port (R178); the console port asserts HOLD (R176). -/
def beginRequest (p : Port) (code tag : Byte) (s : State) : State :=
  modPort p (fun v =>
    { v with request := some { code := code, tag := tag },
             phase := if p = .console then .executing else v.phase }) s

/-- A reply is ready on a port. -/
def queueReply (p : Port) (r : Reply) (s : State) : State := modPort p (fun v => { v with outgoing := v.outgoing ++ [r] }) s

/-- The reply of the request in execution on a port. -/
def answerRequest (p : Port) (status : Status) (body : List Byte) (s : State) : State :=
  match (s.port p).request with
  | some x => queueReply p { code := x.code, tag := x.tag, status := status, body := body, own := true } s
  | none => s

/-- Whether a port can take a request (R176, R178). -/
def portFree (s : State) (p : Port) : Bool :=
  match p with
  | .console => s.console.phase == .free
  | _ => (s.port p).request.isNone

/-- The reply of the console's request becomes BUSY, its status alone (R176, R184). -/
def consoleBusy (s : State) : State :=
  modPort .console (fun v => { v with outgoing := v.outgoing.map fun r => { r with status := .busy, body := [] } }) s

/-- The rise of SELECT that ends the console's reply (R176): the rest of it is lost, and the port is free. -/
def endConsoleReply (s : State) : State :=
  modPort .console (fun v => { v with request := none, outgoing := [], phase := .free }) s

/-- The replies waiting with a BUSY reply among them (R178): it stands behind the BUSY replies already there and before the
earlier request's own reply, which follows it. -/
def insertBusy (busy : Reply) : List Reply → List Reply
  | [] => [busy]
  | r :: rest => if r.own then busy :: r :: rest else r :: insertBusy busy rest

/-- A port with a BUSY reply to send (R178). DESIGN CHOICE (log entry 46): a reply whose bytes are being sent stays first. -/
def PortState.withBusy (busy : Reply) (v : PortState) : PortState :=
  { v with outgoing := match v.transmitting, v.outgoing with
      | true, r :: rest => r :: insertBusy busy rest
      | _, rs => insertBusy busy rs }

/-- A frame that comes to a port that holds a request (R176, R178): BUSY on the desk and service ports; on the console port
the bytes are discarded, which under HOLD turns the reply into BUSY, and the rise of SELECT ends a reply that was ready. -/
def portBusy (e : Envelope) (code : Byte) (s : State) : State :=
  match e.port with
  | .console => if s.console.phase = .executing then consoleBusy s else endConsoleReply s
  | p => modPort p (PortState.withBusy { code := code, tag := e.tag, status := .busy, body := [], own := false }) s

/-- A frame addressed to the whole centre: address 0 on the desk line (R174, R175). -/
def isBroadcast (e : Envelope) : Bool := e.port == .desk && e.address == 0

/-- A frame on the desk line for another pair, discarded without effect (R174). The other ports do not check the field. -/
def forAnotherPair (e : Envelope) (s : State) : Bool := e.port == .desk && e.address != 0 && e.address != s.address

/-- How an addressed request on a free port is taken (R178): DENIED, then LENGTH, then its own checks and effects. -/
def answerOf (allowed fits : Bool) (body : State → Answer) (s : State) : Answer :=
  if !allowed then refuse .denied s else if !fits then refuse .length s else body s

/-- The reply of an answer given at once goes to its port. -/
def deliver (p : Port) (a : Answer) : State :=
  match a with
  | .now st bytes t => answerRequest p st bytes t
  | .later t => t

/-- An addressed request taken on a free port. -/
def serve (e : Envelope) (code : Byte) (allowed fits : Bool) (body : State → Answer) (s : State) : State :=
  deliver e.port (answerOf allowed fits body (beginRequest e.port code e.tag s))

/-- A request frame reaches a part whose core runs. A broadcast is taken only where its request allows it, under its own
checks and without a reply (R175); a frame for another pair is discarded (R174). -/
def heardRequest (e : Envelope) (code : Byte) (allowed broadcastOk fits : Bool) (body : State → Answer) (s : State) : State :=
  if isBroadcast e then (if broadcastOk && fits then (body s).state else s)
  else if forAnotherPair e s then s
  else if portFree s e.port then serve e code allowed fits body s
  else portBusy e code s

/-- The meaning of an event row that the core must run to hear (R168): with the core stopped nothing is heard; otherwise the
event is settled. -/
def coreEvent (f : State → State) (s : State) : Host.Outcome State Fault Refusal :=
  .next (if coreOn s then settle s (f s) else s)

/-- The meaning of a request row: its frame is heard. -/
def request (e : Envelope) (code : Byte) (allowed broadcastOk : Bool) (len : Nat) (body : State → Answer) (s : State) :
    Host.Outcome State Fault Refusal :=
  coreEvent (heardRequest e code allowed broadcastOk (e.bodyLen == len) body) s

/-- A request's own checks where a lane code that names no lane is refused RANGE (R178, R185). -/
def withLane (c : Coded Lane) (f : Lane → State → Answer) (s : State) : Answer :=
  match c with
  | .val l => f l s
  | .bad _ => refuse .range s

/-- A request's own checks where a selector byte that names none of its values is refused RANGE (R178, R185; log entry 28). -/
def withSelector (stray : Option Byte) (f : State → Answer) (s : State) : Answer :=
  match stray with
  | none => f s
  | some _ => refuse .range s

/-! ### Who may send what (R179) -/

/-- The desk alone. -/
def deskOnly (e : Envelope) : Bool := e.port == .desk
/-- The console alone. -/
def consoleOnly (e : Envelope) : Bool := e.port == .console
/-- The service port alone. -/
def serviceOnly (e : Envelope) : Bool := e.port == .service
/-- The desk and the console. -/
def deskOrConsole (e : Envelope) : Bool := e.port == .desk || e.port == .console
/-- The desk and the service port. -/
def deskOrService (e : Envelope) : Bool := e.port == .desk || e.port == .service

/-! ### The reply frame (R174, R175, R177, R184) -/

/-- Whether a reply carries its fields: status OK, LIMITED or KEY_LOST (R184). -/
def Status.carriesFields : Status → Bool
  | .ok => true
  | .limited => true
  | .keyLost => true
  | _ => false

/-- The body of a reply frame: the status byte, and the fields where the status carries them. -/
def Reply.frameBody (r : Reply) : List Byte :=
  BitVec.ofNat 8 (statusCode r.status) :: (if r.status.carriesFields then r.body else [])

/-- The frame a reply is sent in: the pair's own address, on every port (R175, R177), and the code and tag of the request it
answers (R174). -/
def replyFrame (s : State) (r : Reply) : Frame :=
  { address := BitVec.ofNat 8 s.address, code := r.code, tag := r.tag, body := r.frameBody }

/-- The reply frame a port is giving: on the desk and service ports the one that its line carries (R175, R177), on the console
port the one that the console clocks out once HOLD is released (R176). -/
def sendingFrame (s : State) (p : Port) : Option Frame :=
  match p with
  | .console => if s.console.phase = .replyReady then s.console.outgoing.head?.map (replyFrame s) else none
  | p => if (s.port p).transmitting then (s.port p).outgoing.head?.map (replyFrame s) else none

end Sys2Proof.Machine
end

