-- ==== Sys2Proof/Machine/Replies.lean ====
section
/-! DEFINITION. The bytes of the replies (R184 to R188): the tabulated layouts as their tables give them, and every other
reply with its fields in the order its owning rule lists them (R185). -/

namespace Sys2Proof.Machine

/-! ### The lane record and the sheet (R186) -/

/-- The hold set's two bytes: bit 0 DESK to bit 8 SERVICE. -/
def holdBytes (h : HoldSet) : List Byte :=
  be2 (flagBits [h.desk, h.credit, h.time, h.ret, h.machine, h.entry, h.swap, h.power, h.service])

/-- The lane record in five bytes. -/
def laneRecordBytes (r : LaneRec) : List Byte :=
  be1 (laneStateCode r.state) ++ holdBytes r.holds ++ be1 (sideCode r.squad)
    ++ be1 (flagBits [r.foulDetect, r.latchedFault])

/-- A squad in nine bytes. -/
def squadBytes (id : SquadId) (q : Squad) : List Byte :=
  be1 (sideCode id) ++ be1 (sideCode q.home) ++ be1 (sideCode q.current) ++ be1 (squadStateCode q.state)
    ++ be1 q.round ++ be1 (q.slot.getD 0) ++ be1 q.ball ++ be1 q.game ++ be1 (gamesCode q.games)

/-- A bowler's tag in twelve bytes, zeros after its characters (R185). -/
def nameBytes (n : List Byte) : List Byte := (n ++ List.replicate 12 0#8).take 12

/-- A bowler in 22 bytes and its games-completed and totals, as R186's part 0 gives it. -/
def bowlerBytes (b : Bowler) : List Byte :=
  nameBytes b.name ++ opt1 b.handicap ++ opt2 b.blind ++ be1 (bowlerStatusCode b.status) ++ be1 (flagBits [b.charged])
    ++ be1 b.completed ++ opt2 (b.last.map (·.plain)) ++ opt2 (b.last.map (·.handicapped))

/-- READ_SHEET part 0 (R186). -/
def sheetPart0 (s : State) (l : Lane) : List Byte :=
  let r := s.lane l
  let q := s.squadOn l
  be2 r.serial ++ be1 0 ++ laneRecordBytes r ++ be1 (pairModeCode s.pairMode) ++ squadBytes r.squad q
    ++ be1 q.order.length ++ q.order.flatMap bowlerBytes

/-- A ball entry in seven bytes, with its mark (R186). -/
def ballBytes (e : BallEntry) (mark : Byte) : List Byte :=
  be1 e.count ++ leaveBytes e.faced ++ leaveBytes e.after
    ++ be1 (flagBits [e.foul, e.split, e.mismatch] + 8 * sourceCode e.source) ++ [mark]

/-- The marks of frame `k` (R41). -/
def marksOf (k : Nat) (balls : List BallEntry) : List Byte := frameMarks (k == 10) true balls

/-- A frame record (R186). -/
def frameBytes (k : Nat) (f : FrameRec) : List Byte :=
  be1 f.balls.length ++ be1 f.base ++ be1 f.bonus ++ be1 f.owed ++ opt2 f.total
    ++ (f.balls.zip (marksOf k f.balls)).flatMap fun x => ballBytes x.1 x.2

/-- The ten frame records of a sheet, from frame `k` on. -/
def framesBytes : Nat → List FrameRec → List Byte
  | _, [] => []
  | k, f :: rest => frameBytes k f ++ framesBytes (k + 1) rest

/-- The pending list: a count byte, then (frame, owed) pairs (R186). -/
def pendingBytes (b : Bowler) : List Byte :=
  be1 b.pending.length ++ b.pending.flatMap fun k => be1 k ++ be1 (frameAt b.sheet k).owed

/-- READ_SHEET part `k`, for `k` of 1 to 8: slot 0 and nothing after it when the slot holds no bowler (R186). -/
def sheetPart (s : State) (l : Lane) (k : Nat) : List Byte :=
  be2 (s.lane l).serial ++ be1 k ++
    (match bowlerAt (s.squadOn l).order k with
     | some b => be1 k ++ framesBytes 1 b.sheet ++ pendingBytes b
     | none => be1 0)

/-- READ_SHEET (R46, R186). -/
def sheetReply (s : State) (l : Lane) (part : Nat) : List Byte :=
  if part = 0 then sheetPart0 s l else sheetPart s l part

/-- CORRECT_BALL's reply (R77): ball `n` of frame `k` of the bowler at a slot as it stands, then the squad's current bowler
slot, frame round and ball number. -/
def correctionReply (q : Squad) (order : List Bowler) (slot k n : Nat) : List Byte :=
  (match bowlerAt order slot with
   | some b =>
       let balls := (frameAt b.sheet k).balls
       (match balls[n - 1]?, (marksOf k balls)[n - 1]? with
        | some e, some m => ballBytes e m
        | _, _ => [])
   | none => [])
    ++ be1 (q.slot.getD 0) ++ be1 q.round ++ be1 q.ball

/-! ### Account and summary (R187) -/

/-- The account as OPEN_LANE's reply carries it (R122). DESIGN CHOICE (log entry 50): its fields stand in the order of R121,
which defines the account, with the mode first, and not in the order of R122's table, which has no mode. -/
def accountBytes (a : Account) : List Byte :=
  be1 (accountModeCode a.mode) ++ be1 a.gameCredit ++ be2 a.creditsLoaded ++ be2 a.creditsTaken ++ be2 a.timeCredit
    ++ be4 a.minutesLoaded ++ be4 a.minutesMetered ++ be1 a.phase ++ be4 a.centMinutes ++ be4 a.gameCharges
    ++ be1 a.warn ++ flagByte a.warned ++ readingBytes a.openTime

/-- READ_ACCOUNT (R187). -/
def accountReply (s : State) (l : Lane) : List Byte :=
  let r := s.lane l
  let a := r.acct
  laneRecordBytes r ++ be1 (accountModeCode a.mode) ++ be1 a.gameCredit ++ be2 a.creditsLoaded ++ be2 a.creditsTaken
    ++ be2 a.timeCredit ++ be4 a.minutesLoaded ++ be4 a.minutesMetered ++ be1 a.phase ++ be4 a.centMinutes
    ++ be4 a.gameCharges ++ be1 a.warn ++ be1 (flagBits [a.warned, meterRunning r, chargeSaturated a])
    ++ readingBytes a.openTime ++ be4 (timePart a) ++ be4 (sessionCharge a) ++ be1 s.rates.inEffect
    ++ be2 (entryInEffect s).perGame ++ be4 (entryInEffect s).perHour

/-- READ_SESSION (R187). -/
def summaryBytes (m : Summary) : List Byte :=
  be1 (sideCode m.lane) ++ be1 (accountModeCode m.mode) ++ readingBytes m.openTime ++ readingBytes m.closeTime
    ++ be2 m.creditsLoaded ++ be2 m.creditsTaken ++ be1 m.creditsRemaining ++ be4 m.minutesLoaded ++ be4 m.minutesMetered
    ++ be2 m.timeRemaining ++ be4 m.gameCharges ++ be4 m.timePart ++ be4 m.total ++ be1 (flagBits [m.saturated])

/-! ### Rate entries (R188) -/

/-- A rate entry in twelve bytes; an absent one is zeros, with the present bit clear. -/
def rateBytes (r : RateEntry) : List Byte :=
  if r.present then
    be1 128 ++ be1 ((r.weekdays.map BitVec.toNat).getD 0) ++ be2 r.start ++ be2 r.stop ++ be2 r.perGame ++ be4 r.perHour
  else List.replicate 12 0#8

/-- RATE_READ WORKING (R145, R188). -/
def workingReply (s : State) : List Byte :=
  s.rates.working.flatMap rateBytes ++ be1 s.rates.inEffect ++ flagByte s.clock.valid
    ++ opt1 (s.rates.programming.map (·.entry))

/-- A stored entry (R145, R188): the value only in state GOOD. -/
def storedBytes (x : StoredEntry) : List Byte :=
  be1 (storeStateCode x.state) ++ be1 x.writes
    ++ rateBytes (if x.state = .good then x.value else .absent)

/-- RATE_READ STORED (R145, R188). -/
def storedReply (s : State) : List Byte := s.rates.store.flatMap storedBytes

/-- RATE_STORE's answers OK and KEY_LOST: entry number, state, write count (R148, R149). -/
def storeReply (s : State) (entry : Nat) : List Byte :=
  let x := s.rates.store.getD entry .blank
  be1 entry ++ be1 (storeStateCode x.state) ++ be1 x.writes

/-! ### Clock, supply, return, machine, notices -/

/-- The Centre Clock in the order of R164: the four fields, the valid flag, the crystal status. -/
def clockBytes (c : Clock) : List Byte :=
  be1 c.weekday ++ be1 c.hour ++ be1 c.minute ++ be1 c.second ++ flagByte c.valid ++ be1 (if c.crystal then 0 else 1)

/-- READ_SUPPLY (R172). -/
def supplyReply (s : State) : List Byte :=
  be1 (supplyStateCode s.supply.state) ++ flagByte s.supply.batteryLow ++ be1 (startKindCode s.supply.lastStart)
    ++ be2 s.supply.failures ++ readingBytes s.supply.lastFailure ++ clockBytes s.clock

/-- A queue entry with its age, 0 to 65,535 ticks, saturating (R119). -/
def queueEntryBytes (now : Nat) (x : ReturnEntry) : List Byte :=
  be1 (sideCode x.origin) ++ be2 (min 65535 (ticksSince now x.exitTime))

/-- READ_RETURN (R119). DESIGN CHOICE (log entry 47): the run-on is a flag byte, 1 for running. -/
def returnReply (s : State) : List Byte :=
  let m := s.ret
  be1 (returnStateCode m.state) ++ opt1 (if m.sensorFault then some 0 else none) ++ be1 m.queue.length
    ++ m.queue.flatMap (queueEntryBytes s.tick) ++ be1 m.attempt ++ opt1 (m.phase.map clearPhaseCode)
    ++ be1 (liftCode m.lift) ++ flagByte m.runOn ++ be1 m.limit ++ be1 m.jam.value ++ flagByte m.jam.full
    ++ flagByte m.stray

/-- The four timing settings (R73). -/
def timingBytes (t : Timing) : List Byte := be1 t.settle ++ be1 t.watchdog ++ be1 t.warmUp ++ be1 t.idle

/-- A counter with its full flag. -/
def counterBytes (c : Counter) : List Byte := be1 c.value ++ flagByte c.full

/-- The delivery record: a presence byte, then its fields when it is present (R74). -/
def deliveryBytes : Option Delivery → List Byte
  | none => flagByte false
  | some d => flagByte true ++ flagByte d.foul ++ be1 d.attempt ++ opt2 d.pendingFault

/-- The cycle record: a presence byte, then its fields when it is present (R74). DESIGN CHOICE (log entry 47): latched in
this attempt (R62) is a flag byte, 1 for yes. -/
def cycleBytes : Option CycleRec → List Byte
  | none => flagByte false
  | some c => flagByte true ++ be1 (purposeCode c.purpose) ++ be1 (cycleKindCode c.kind) ++ be1 c.attempt ++ flagByte c.latched

/-- Last fault: cause MESSAGE, WATCHDOG or WARMUP, then its code (R48). -/
def lastFaultBytes : Option FaultCause → List Byte
  | none => opt1 none ++ opt2 none
  | some (.message code) => be1 0 ++ opt2 (some code)
  | some .watchdog => be1 1 ++ opt2 none
  | some .warmUp => be1 2 ++ opt2 none

/-- READ_MACHINE (R74), in the order of its list. -/
def machineReply (s : State) (l : Lane) : List Byte :=
  let r := s.lane l
  let u := r.sup
  be1 (cycleStateCode u.cycle) ++ be1 (powerCode u.power) ++ leaveBytes u.nextDeck ++ optLeaveBytes u.latched
    ++ flagByte u.stale ++ deliveryBytes u.delivery ++ cycleBytes u.cycleRec ++ lastFaultBytes u.lastFault
    ++ timingBytes u.timing ++ be4 u.counters.cycles ++ be4 u.counters.sinceService ++ counterBytes u.counters.timeout
    ++ counterBytes u.counters.fault ++ counterBytes u.counters.deckFail ++ counterBytes u.counters.mismatch
    ++ flagByte r.latchedFault ++ be4 u.maintInterval ++ flagByte u.maintDue

/-- A notice in two bytes (R188). -/
def noticeBytes (n : Notice) : List Byte := be1 n.kind.code ++ be1 n.scope.code

/-- READ_NOTICES (R181, R188). -/
def noticesReply (v : PortState) : List Byte :=
  be4 v.mask.toNat ++ be1 (attentionModeCode v.mode) ++ be1 v.notices.length ++ v.notices.flatMap noticeBytes

end Sys2Proof.Machine
end

