-- ==== Sys2Proof/Machine/Billing.lean ====
section
/-! DEFINITION. The Billing Unit's requests and its running second (chapter 7), with OPEN_LANE and CLOSE_LANE (R2, R5). -/

namespace Sys2Proof.Machine

/-! ### OPEN_LANE -/

/-- The Centre Clock as a reading, when it is valid (R122, R135, R172). -/
def clockReading (c : Clock) : Option ClockReading :=
  if c.valid then some { weekday := c.weekday, hour := c.hour, minute := c.minute, second := c.second } else none

/-- The account as OPEN_LANE loads it (R122). -/
def loadedAccount (mode : AccountMode) (credit warn : Nat) (now : Option ClockReading) : Account :=
  match mode with
  | .game => { Account.cleared with mode := .game, gameCredit := min 99 credit, creditsLoaded := min 99 credit,
                                    warn := min 30 warn, openTime := now }
  | .time => { Account.cleared with mode := .time, timeCredit := min 720 credit, minutesLoaded := min 720 credit,
                                    warn := min 30 warn, openTime := now }

/-- Whether OPEN_LANE clamped the initial credit or the warn threshold (R122). -/
def openLimited (mode : AccountMode) (credit warn : Nat) : Bool :=
  (match mode with
   | .game => decide (99 < credit)
   | .time => decide (720 < credit)) || decide (30 < warn)

/-- The hold set OPEN_LANE fills with the reasons that stand against the lane (R2). -/
def openHolds (s : State) (r : LaneRec) (acct : Account) : HoldSet :=
  { HoldSet.none with
    machine := r.latchedFault
    service := r.sup.power == .off
    ret := s.ret.state == .jammed || s.ret.state == .fault
    time := acct.mode == .time && acct.timeCredit == 0 }

/-- Where OPEN_LANE leaves the supervisor: a PARKED one goes to GATED, or to FAULT when the latched-fault flag was set, and
drops a pending test; one whose test cycle runs stays with it (R2, R52, R160). -/
def openSupervisor (latched : Bool) (u : Supervisor) : Supervisor :=
  if u.cycle = .parked then { u with cycle := if latched then .fault else .gated, testMark := false } else u

/-- OPEN_LANE's effect (R2, R122). -/
def openEffect (l : Lane) (mode : AccountMode) (credit warn : Nat) (s : State) : State :=
  let acct := loadedAccount mode credit warn (clockReading s.clock)
  wake l (modLane l (fun r =>
    { r with state := .opened, holds := openHolds s r acct, latchedFault := false, acct := acct, runTicks := 0,
             summary := none, sup := openSupervisor r.latchedFault r.sup }) s)

/-- OPEN_LANE's own checks (R122). -/
def openBody (mode : Coded AccountMode) (credit : BitVec 16) (warn : Option (BitVec 16)) (l : Lane) (s : State) : Answer :=
  match mode with
  | .bad _ => refuse .range s
  | .val m =>
      if (s.lane l).state ≠ .closed then refuse .state s
      else
        let w := (warn.map BitVec.toNat).getD 5
        let t := openEffect l m credit.toNat w s
        .now (okOrLimited (openLimited m credit.toNat w)) (accountBytes (t.acct l)) t

/-- OPEN_LANE (R2, R122). -/
def execOpenLane (e : Envelope) (lane : Coded Lane) (mode : Coded AccountMode) (credit : BitVec 16)
    (warn : Option (BitVec 16)) (s : State) : Host.Outcome State Fault Refusal :=
  request e 1 (deskOnly e) false 6 (withLane lane (openBody mode credit warn)) s

/-! ### CLOSE_LANE -/

/-- The account frozen into a session summary (R135). -/
def frozenSummary (l : Lane) (a : Account) (now : Option ClockReading) : Summary :=
  { lane := l, mode := a.mode, openTime := a.openTime, closeTime := now,
    creditsLoaded := if a.mode = .game then a.creditsLoaded else 0,
    creditsTaken := if a.mode = .game then a.creditsTaken else 0,
    creditsRemaining := if a.mode = .game then a.gameCredit else 0,
    minutesLoaded := if a.mode = .time then a.minutesLoaded else 0,
    minutesMetered := if a.mode = .time then a.minutesMetered else 0,
    timeRemaining := if a.mode = .time then a.timeCredit else 0,
    gameCharges := a.gameCharges, timePart := timePart a, total := sessionCharge a, saturated := chargeSaturated a }

/-- The account is frozen and CLOSED is raised (R135); the lane-second phase and the running second are discarded. -/
def freezeSession (l : Lane) (s : State) : State :=
  raiseLane .closed l (modLane l (fun r =>
    { r with summary := some (frozenSummary l r.acct (clockReading s.clock)), runTicks := 0,
             acct := { r.acct with phase := 0 } }) s)

/-- The squad current on the lane abandons its game, and a full rack is written as the Next Deck (R5, step 4; R63). -/
def abandonGame (l : Lane) (s : State) : State :=
  writeNextDeck l fullRack (modSquad (s.lane l).squad Squad.formed s)

/-- The delivery is abandoned: its timers stop and its record is discarded (R158). -/
def abandonDelivery (l : Lane) (s : State) : State :=
  modSup l (fun u => { u with delivery := none, settleTimer := none, deckTimer := none }) s

/-- Whether the delivery record holds a pending fault. -/
def hasPendingFault (u : Supervisor) : Bool :=
  match u.delivery with
  | some d => d.pendingFault.isSome
  | none => false

/-- The close sequence from the supervisor's cycle state (R158). -/
def closeSequence (l : Lane) (s : State) : State :=
  match (s.sup l).cycle with
  | .armed => park l false s
  | .gated => park l false s
  | .parked => park l false s
  | .ballIn => closingCycle l (abandonDelivery l s)
  | .reading => closingCycle l (abandonDelivery l s)
  | .entry => if hasPendingFault (s.sup l) then park l true s else closingCycle l (abandonDelivery l s)
  | .cycling => s
  | .recover => if (s.sup l).power = .off ∧ (s.sup l).cycleRec.isNone then park l false s else s
  | .fault => park l true s

/-- CLOSE_LANE's effect (R5, R103): the forced split's records first in CROSS, then steps 2 to 5 on the lane, and last the
decision a split leaves to the other lane. The closing lane takes none, so no credit is taken for it. -/
def closeEffect (l : Lane) (s : State) : State :=
  match s.pairMode with
  | .single => closeSequence l (abandonGame l (freezeSession l (setLaneState l .closing s)))
  | .cross =>
      decide52 l.other (closeSequence l (abandonGame l (freezeSession l (setLaneState l .closing (splitRecords s)))))

/-- CLOSE_LANE's own checks (R5). -/
def closeBody (l : Lane) (s : State) : Answer :=
  if (s.lane l).state.inSession then done (closeEffect l s) else refuse .state s

/-- CLOSE_LANE (R5). -/
def execCloseLane (e : Envelope) (lane : Coded Lane) (s : State) : Host.Outcome State Fault Refusal :=
  request e 2 (deskOnly e) false 1 (withLane lane closeBody) s

/-! ### The desk's hold -/

/-- PAUSE_LANE's own part (R9). -/
def pauseBody (l : Lane) (s : State) : Answer :=
  if (s.lane l).state.inSession then done (addHold l .desk s) else refuse .state s

/-- PAUSE_LANE (R9). -/
def execPauseLane (e : Envelope) (lane : Coded Lane) (s : State) : Host.Outcome State Fault Refusal :=
  request e 3 (deskOnly e) false 1 (withLane lane pauseBody) s

/-- RESUME_LANE's own part: the desk removes DESK and POWER, the console POWER alone (R9). -/
def resumeBody (fromDesk : Bool) (l : Lane) (s : State) : Answer :=
  if (s.lane l).state = .closed then refuse .state s
  else
    let t := removeHold l .power s
    done (if fromDesk then removeHold l .desk t else t)

/-- RESUME_LANE (R9). -/
def execResumeLane (e : Envelope) (lane : Coded Lane) (s : State) : Host.Outcome State Fault Refusal :=
  request e 4 (deskOrConsole e) false 1 (withLane lane (resumeBody (e.port == .desk))) s

/-! ### Adding credit -/

/-- The game credit ADD_CREDIT actually adds (R123). -/
def creditAdded (a : Account) (amount : Nat) : Nat := min amount (min (99 - a.gameCredit) (9999 - a.creditsLoaded))

/-- ADD_CREDIT's effect (R123). -/
def addCreditEffect (l : Lane) (n : Nat) (s : State) : State :=
  let t := modAcct l (fun a => { a with gameCredit := a.gameCredit + n, creditsLoaded := a.creditsLoaded + n }) s
  if (s.acct l).gameCredit = 0 ∧ 1 ≤ n then removeHold l .credit t else t

/-- ADD_CREDIT's own part (R123). The reply gives the game credit held at the end of the event, after a decision that the
request leads to has taken one (log entry 12). -/
def addCreditBody (amount : BitVec 16) (l : Lane) (s : State) : Answer :=
  if amount = 0#16 then refuse .range s
  else if !(s.lane l).state.inSession then refuse .state s
  else if (s.acct l).mode = .time then refuse .mode s
  else
    let n := creditAdded (s.acct l) amount.toNat
    let t := addCreditEffect l n s
    .now (okOrLimited (decide (n < amount.toNat))) (be1 n ++ be1 (t.acct l).gameCredit) t

/-- ADD_CREDIT (R123). -/
def execAddCredit (e : Envelope) (lane : Coded Lane) (amount : BitVec 16) (s : State) : Host.Outcome State Fault Refusal :=
  request e 5 (deskOnly e) false 3 (withLane lane (addCreditBody amount)) s

/-- The minutes ADD_TIME actually adds (R126). -/
def minutesAdded (a : Account) (amount : Nat) : Nat := min amount (min (720 - a.timeCredit) (99999 - a.minutesLoaded))

/-- ADD_TIME's effect (R126): the account, then GRACE gives way to PLAYING and the TIME hold is removed. -/
def addTimeEffect (l : Lane) (n : Nat) (s : State) : State :=
  let t := modAcct l (fun a =>
    { a with timeCredit := a.timeCredit + n, minutesLoaded := a.minutesLoaded + n,
             warned := if 1 ≤ n ∧ a.warn < a.timeCredit + n then false else a.warned }) s
  if 1 ≤ n then
    removeHold l .time (if (s.lane l).state = .grace then setLaneState l .playing t else t)
  else t

/-- ADD_TIME's own part (R126). -/
def addTimeBody (amount : BitVec 16) (l : Lane) (s : State) : Answer :=
  if amount = 0#16 then refuse .range s
  else if !(s.lane l).state.inSession then refuse .state s
  else if (s.acct l).mode = .game then refuse .mode s
  else
    let n := minutesAdded (s.acct l) amount.toNat
    let t := addTimeEffect l n s
    .now (okOrLimited (decide (n < amount.toNat))) (be2 n ++ be2 (t.acct l).timeCredit) t

/-- ADD_TIME (R126). -/
def execAddTime (e : Envelope) (lane : Coded Lane) (amount : BitVec 16) (s : State) : Host.Outcome State Fault Refusal :=
  request e 6 (deskOnly e) false 3 (withLane lane (addTimeBody amount)) s

/-! ### Reading the account and the summary -/

/-- READ_ACCOUNT (R136, R187). -/
def execReadAccount (e : Envelope) (lane : Coded Lane) (s : State) : Host.Outcome State Fault Refusal :=
  request e 7 (deskOrConsole e) false 1 (withLane lane fun l s => .now .ok (accountReply s l) s) s

/-- READ_SESSION's own part (R137). -/
def readSessionBody (l : Lane) (s : State) : Answer :=
  match (s.lane l).summary with
  | some m => .now .ok (summaryBytes m) s
  | none => refuse .absent s

/-- READ_SESSION (R137, R187). -/
def execReadSession (e : Envelope) (lane : Coded Lane) (s : State) : Host.Outcome State Fault Refusal :=
  request e 8 (deskOnly e) false 1 (withLane lane readSessionBody) s

/-! ### The running second (R128 to R130) -/

/-- The account at the completion of a lane-minute, priced at `price` per hour (R128). -/
def meterMinute (price : Nat) (a : Account) : Account :=
  { a with phase := 0, timeCredit := a.timeCredit - 1, minutesMetered := a.minutesMetered + 1,
           centMinutes := min 599999999 (a.centMinutes + price) }

/-- The warning at a lane-minute completion (R129). -/
def warnMinute (l : Lane) (s : State) : State :=
  let a := s.acct l
  if 1 ≤ a.timeCredit ∧ a.timeCredit ≤ a.warn ∧ ¬a.warned then
    raiseLane .timeWarn l (modAcct l (fun a => { a with warned := true }) s)
  else s

/-- The exhaustion at a lane-minute completion (R130). -/
def exhaustMinute (l : Lane) (s : State) : State :=
  if (s.acct l).timeCredit = 0 then
    let t := raiseLane .timeOut l s
    match (s.lane l).state with
    | .playing => setLaneState l .grace t
    | _ => addHold l .time t
  else s

/-- A running second of a lane's meter (R128). -/
def runSecond (l : Lane) (s : State) : State :=
  if meterRunning (s.lane l) then
    let t := modLane l (fun r => { r with runTicks := 0 }) s
    if (s.acct l).phase + 1 < 60 then modAcct l (fun a => { a with phase := a.phase + 1 }) t
    else exhaustMinute l (warnMinute l (modAcct l (meterMinute (entryInEffect s).perHour) t))
  else s

/-- RUNNING_SECOND (R128): a second of a meter that does not run is no running second, and changes nothing (R127). -/
def execRunningSecond (lane : Lane) (s : State) : Host.Outcome State Fault Refusal := coreEvent (runSecond lane) s

end Sys2Proof.Machine
end

