-- ==== Sys2Proof/Machine/Play.lean ====
section
/-! DEFINITION. The console's requests about play and the rosters (R3, R10, R13 to R18, R72, R95, R155). -/

namespace Sys2Proof.Machine

/-! ### START_GAME -/

/-- Whether a squad holds an ACTIVE bowler. -/
def hasActive (q : Squad) : Bool := (firstActive q.order).isSome

/-- A squad takes the games-to-play value of START_GAME and starts game 1 (R3, R95). -/
def beginGames (q : SquadId) (g : Games) (s : State) : State :=
  startSquadGame q 1 (modSquad q (fun v => { v with games := g }) s)

/-- START_GAME in SINGLE (R3). -/
def startSingle (g : Games) (l : Lane) (s : State) : Answer :=
  if (s.lane l).state ≠ .opened then refuse .state s
  else if !hasActive (s.squadOn l) then refuse .state s
  else done (decide52 l (setLaneState l .playing (beginGames (s.lane l).squad g s)))

/-- START_GAME in CROSS (R95): both squads, on their home lanes. -/
def startCross (g : Games) (s : State) : Answer :=
  if (s.lane .a).state ≠ .opened ∨ (s.lane .b).state ≠ .opened then refuse .state s
  else if !hasActive (s.squad .a) || !hasActive (s.squad .b) then refuse .state s
  else
    done (decide52 .b (decide52 .a
      (setLaneState .b .playing (setLaneState .a .playing (beginGames .b g (beginGames .a g s))))))

/-- START_GAME's own part (R3, R95). -/
def startBody (games : Byte) (l : Lane) (s : State) : Answer :=
  match gamesOf games with
  | none => refuse .range s
  | some g =>
      match s.pairMode with
      | .single => startSingle g l s
      | .cross => startCross g s

/-- START_GAME (R3, R95). -/
def execStartGame (e : Envelope) (lane : Coded Lane) (games : Byte) (s : State) : Host.Outcome State Fault Refusal :=
  request e 9 (consoleOnly e) false 2 (withLane lane (startBody games)) s

/-! ### BOWLER_READY, FOUL_DETECT, RESET_DECK -/

/-- BOWLER_READY's own part (R155). -/
def bowlerReadyBody (l : Lane) (s : State) : Answer :=
  if !(s.lane l).state.inSession then refuse .state s
  else if (s.sup l).power = .off then refuse .state s
  else
    let t := restartIdle l (wake l s)
    .now .ok (be1 (powerCode (t.sup l).power)) t

/-- BOWLER_READY (R155). -/
def execBowlerReady (e : Envelope) (lane : Coded Lane) (s : State) : Host.Outcome State Fault Refusal :=
  request e 10 (consoleOnly e) false 1 (withLane lane bowlerReadyBody) s

/-- FOUL_DETECT's effect (R10): turned off, it drops a foul pending for the coming delivery. -/
def setFoulDetect (l : Lane) (on : Bool) (s : State) : State :=
  modLane l (fun r =>
    { r with foulDetect := on, sup := { r.sup with foulPending := if on then r.sup.foulPending else false } }) s

/-- FOUL_DETECT's own part (R10). -/
def foulDetectBody (enable : Coded OnOff) (l : Lane) (s : State) : Answer :=
  match enable with
  | .val v => done (setFoulDetect l (v == .on) s)
  | .bad _ => refuse .range s

/-- FOUL_DETECT (R10). -/
def execFoulDetect (e : Envelope) (lane : Coded Lane) (enable : Coded OnOff) (s : State) :
    Host.Outcome State Fault Refusal :=
  request e 11 (consoleOnly e) false 2 (withLane lane (foulDetectBody enable)) s

/-- RESET_DECK's own part (R72). -/
def resetDeckBody (l : Lane) (s : State) : Answer :=
  if ((s.sup l).cycle = .armed ∨ (s.sup l).cycle = .gated) ∧ (s.sup l).power = .running then
    done (issueCycle l .resetDeck .reset none s)
  else refuse .state s

/-- RESET_DECK (R72). -/
def execResetDeck (e : Envelope) (lane : Coded Lane) (s : State) : Host.Outcome State Fault Refusal :=
  request e 12 (consoleOnly e) false 1 (withLane lane resetDeckBody) s

/-! ### The rosters (section 1.4) -/

/-- Whether the squad's current bowler has a ball in hand (R13). -/
def ballInHand (s : State) (q : SquadId) : Bool :=
  let v := s.squad q
  match v.currentBowler with
  | some b => !(frameAt b.sheet v.round).balls.isEmpty || (s.sup v.current).cycle.delivering
  | none => false

/-- Whether the bowler at a slot is ACTIVE and the squad's only ACTIVE bowler (R15, R17). -/
def lastActive (v : Squad) (slot : Nat) : Bool :=
  (match bowlerAt v.order slot with
   | some b => b.isActive
   | none => false) && activeCount v.order == 1

/-- The conditions of every roster request (R13): the squad is named, its home lane is in session, and each slot named as
the place of a bowler holds one. -/
def withRoster (c : Coded SquadId) (slots : List Nat) (f : SquadId → State → Answer) (s : State) : Answer :=
  match c with
  | .bad _ => refuse .range s
  | .val q =>
      if !(s.lane (s.squad q).home).state.inSession then refuse .state s
      else if slots.any (fun k => (bowlerAt (s.squad q).order k).isNone) then refuse .absent s
      else f q s

/-- Rewrite the reopen marks of both lanes (R86). -/
def mapReopens (f : ReopenMark → Option ReopenMark) (s : State) : State :=
  modLane .a (fun r => { r with reopen := r.reopen.bind f }) (modLane .b (fun r => { r with reopen := r.reopen.bind f }) s)

/-- The reopen marks once the bowler at a slot has left or become absent: a mark of that bowler is dropped (R86), and a
mark of a bowler behind follows that bowler when the slots are renumbered (R11). -/
def unmarkBowler (q : SquadId) (slot : Nat) (renumber : Nat → Nat) (s : State) : State :=
  mapReopens (fun m => if m.squad = q then (if m.slot = slot then none else some { m with slot := renumber m.slot })
    else some m) s

/-- The choice after the current bowler stopped being ACTIVE without a ball (R15, R17, R20), and the supervisor's decision
on the squad's lane (R52); the lane's reopen mark becomes absent (R86). -/
def replaceCurrent (q : SquadId) (s : State) : State :=
  let l := (s.squad q).current
  bowlerChanged l (chooseNext q l (setReopen l none s))

/-- The new record of ADD_BOWLER (R14). -/
def newBowler (name : List Byte) (handicap blind : Option Nat) (forming : Bool) : Bowler :=
  { name := name, handicap := handicap, blind := blind,
    status := if forming then (if blind.isSome then .absent else .active) else .waiting,
    charged := false, completed := 0, last := none, sheet := emptySheet, pending := [] }

/-- ADD_BOWLER's own part (R14). -/
def addBowlerBody (name : List Byte) (handicap : Option Byte) (blind : Option (BitVec 16)) (q : SquadId) (s : State) :
    Answer :=
  if 8 ≤ (s.squad q).order.length then refuse .full s
  else
    match nameOf name, handicapOf handicap, optionalBlindOf blind with
    | some n, some h, some b =>
        done (modSquad q (fun v => { v with order := v.order ++ [newBowler n h b (!v.inGame)] }) s)
    | _, _, _ => refuse .range s

/-- ADD_BOWLER (R14). -/
def execAddBowler (e : Envelope) (squad : Coded SquadId) (name : List Byte) (handicap : Option Byte)
    (blind : Option (BitVec 16)) (s : State) : Host.Outcome State Fault Refusal :=
  request e 13 (consoleOnly e) false 16 (withRoster squad [] (addBowlerBody name handicap blind)) s

/-- The squad with the bowler at a slot taken out (R15): the current slot follows its bowler. -/
def Squad.without (v : Squad) (slot : Nat) : Squad :=
  { v with order := v.order.eraseIdx (slot - 1), slot := v.slot.map (slotAfterRemoval slot) }

/-- REMOVE_BOWLER's own part (R15). -/
def removeBowlerBody (slot : Nat) (q : SquadId) (s : State) : Answer :=
  let v := s.squad q
  if v.inGame ∧ ((v.slot = some slot ∧ ballInHand s q) ∨ lastActive v slot) then refuse .state s
  else
    let t := unmarkBowler q slot (slotAfterRemoval slot) (modSquad q (fun v => v.without slot) s)
    done (if v.slot = some slot then replaceCurrent q t else t)

/-- REMOVE_BOWLER (R15). -/
def execRemoveBowler (e : Envelope) (squad : Coded SquadId) (slot : Byte) (s : State) : Host.Outcome State Fault Refusal :=
  request e 14 (consoleOnly e) false 2 (withRoster squad [slot.toNat] (removeBowlerBody slot.toNat)) s

/-- Whether slot `c` lies strictly between two slots (R16). -/
def strictlyBetween (i j c : Nat) : Bool := decide (i < c ∧ c < j) || decide (j < c ∧ c < i)

/-- Whether a move is refused while the current bowler has a ball in hand (R16). -/
def moveBlocked (s : State) (q : SquadId) (i j : Nat) : Bool :=
  match (s.squad q).slot with
  | some c => ballInHand s q && (c == i || strictlyBetween i j c)
  | none => false

/-- The squad with a bowler moved (R16). -/
def Squad.moved (v : Squad) (i j : Nat) : Squad :=
  { v with order := moveInOrder v.order i j, slot := v.slot.map (slotAfterMove i j) }

/-- MOVE_BOWLER's own part (R16): the reopen marks follow their bowlers. -/
def moveBowlerBody (i j : Nat) (q : SquadId) (s : State) : Answer :=
  if j = 0 ∨ (s.squad q).order.length < j then refuse .range s
  else if i = j then done s
  else if moveBlocked s q i j then refuse .state s
  else
    done (mapReopens (fun m => some (if m.squad = q then { m with slot := slotAfterMove i j m.slot } else m))
      (modSquad q (fun v => v.moved i j) s))

/-- MOVE_BOWLER (R16). -/
def execMoveBowler (e : Envelope) (squad : Coded SquadId) (slot newSlot : Byte) (s : State) :
    Host.Outcome State Fault Refusal :=
  request e 15 (consoleOnly e) false 3 (withRoster squad [slot.toNat] (moveBowlerBody slot.toNat newSlot.toNat)) s

/-- Rewrite the bowler at a slot of a squad. -/
def modBowler (q : SquadId) (slot : Nat) (f : Bowler → Bowler) (s : State) : State :=
  modSquad q (fun v =>
    match bowlerAt v.order slot with
    | some b => { v with order := setBowler v.order slot (f b) }
    | none => v) s

/-- MARK_ABSENT's rewrite of the bowler (R17). -/
def absentWith (blind : Nat) (b : Bowler) : Bowler :=
  { b with blind := some blind, status := if b.status = .active then .absent else b.status }

/-- MARK_ABSENT's own part (R17). -/
def markAbsentBody (slot : Nat) (blind : BitVec 16) (q : SquadId) (s : State) : Answer :=
  match blindOf blind with
  | none => refuse .range s
  | some b =>
      let v := s.squad q
      if v.slot = some slot ∧ ballInHand s q then refuse .state s
      else if v.inGame ∧ lastActive v slot then refuse .state s
      else
        let t := unmarkBowler q slot id (modBowler q slot (absentWith b) s)
        done (if v.slot = some slot then replaceCurrent q t else t)

/-- MARK_ABSENT (R17). -/
def execMarkAbsent (e : Envelope) (squad : Coded SquadId) (slot : Byte) (blind : BitVec 16) (s : State) :
    Host.Outcome State Fault Refusal :=
  request e 16 (consoleOnly e) false 4 (withRoster squad [slot.toNat] (markAbsentBody slot.toNat blind)) s

/-- MARK_PRESENT's rewrite of the bowler (R17): an ABSENT bowler becomes ACTIVE, or WAITING while a game is in progress, and
a WAITING bowler has an empty sheet and list (R12). -/
def presentAgain (inGame : Bool) (b : Bowler) : Bowler :=
  if b.status = .absent then
    (if inGame then { b with blind := none, status := .waiting, sheet := emptySheet, pending := [] }
     else { b with blind := none, status := .active })
  else { b with blind := none }

/-- MARK_PRESENT's own part (R17). -/
def markPresentBody (slot : Nat) (q : SquadId) (s : State) : Answer :=
  if (s.squad q).slot = some slot ∧ ballInHand s q then refuse .state s
  else done (modBowler q slot (presentAgain (s.squad q).inGame) s)

/-- MARK_PRESENT (R17); its body names the blind score as absent (R185), which makes it four bytes (log entry 14). -/
def execMarkPresent (e : Envelope) (squad : Coded SquadId) (slot : Byte) (s : State) : Host.Outcome State Fault Refusal :=
  request e 17 (consoleOnly e) false 4 (withRoster squad [slot.toNat] (markPresentBody slot.toNat)) s

/-- SET_HANDICAP's own part (R18). -/
def setHandicapBody (slot : Nat) (handicap : Option Byte) (q : SquadId) (s : State) : Answer :=
  match handicapOf handicap with
  | none => refuse .range s
  | some h => done (modBowler q slot (fun b => { b with handicap := h }) s)

/-- SET_HANDICAP (R18). -/
def execSetHandicap (e : Envelope) (squad : Coded SquadId) (slot : Byte) (handicap : Option Byte) (s : State) :
    Host.Outcome State Fault Refusal :=
  request e 18 (consoleOnly e) false 3 (withRoster squad [slot.toNat] (setHandicapBody slot.toNat handicap)) s

end Sys2Proof.Machine
end

