-- ==== Sys2Proof/Machine/Correct.lean ====
section
/-! DEFINITION. Reading the sheet, correcting and entering a ball, and the requests that change the pair mode (R46, R60,
chapter 4, R94, R101, R102). -/

namespace Sys2Proof.Machine

/-! ### READ_SHEET -/

/-- READ_SHEET's own part (R186). -/
def readSheetBody (part : Nat) (l : Lane) (s : State) : Answer :=
  if 8 < part then refuse .range s else .now .ok (sheetReply s l part) s

/-- READ_SHEET (R46, R186). -/
def execReadSheet (e : Envelope) (lane : Coded Lane) (part : Byte) (s : State) : Host.Outcome State Fault Refusal :=
  request e 19 (deskOrConsole e) false 2 (withLane lane (readSheetBody part.toNat)) s

/-! ### The new leave of a correction (R80) -/

/-- The `n` lowest-numbered pins of a leave, or all of it. -/
def lowestPins : Nat → Leave → Leave
  | 0, _ => clearDeck
  | n + 1, l => lowestPin l ||| lowestPins n (l &&& ~~~(lowestPin l))

/-- How the new result of a correction is given, once its fields are checked (R77, R78). -/
inductive Correction where
  | leave (l : Leave)
  | count (c : Nat)
deriving DecidableEq, Repr

/-- The leave after that form COUNT builds without a foul (R80): pins are put back or taken down, lowest-numbered first. -/
def leaveOfCount (faced after : Leave) (c : Nat) : Leave :=
  let d := leaveSize faced - leaveSize after
  if c ≤ d then after ||| lowestPins (d - c) (faced &&& ~~~after) else after &&& ~~~(lowestPins (c - d) after)

/-- The new leave after of the corrected entry (R80); `none` is the refusal RANGE. -/
def correctedLeave (e : BallEntry) (c : Correction) (foul : Bool) : Option Leave :=
  match c with
  | .leave l => if leaveWithin l e.faced then some l else none
  | .count n =>
      if foul then (if n = 0 then some e.after else none)
      else if leaveSize e.faced < n then none
      else some (leaveOfCount e.faced e.after n)

/-- The entries of a frame after the corrected one, derived again in order (R81): `earlier` are the entries before them.
`none` is the refusal RANGE. -/
def rederive (k : Nat) : List BallEntry → List BallEntry → Option (List BallEntry)
  | earlier, [] => some earlier
  | earlier, e :: rest =>
      let faced := nextLeave k earlier
      if leaveWithin e.after faced then
        rederive k (earlier ++ [makeEntry k (earlier.length + 1) faced e.after e.foul e.source e.mismatch]) rest
      else none

/-- The balls of frame `k` with ball `n` corrected (R80, R81): the entry becomes CORRECTED and loses its mismatch flag. -/
def correctedBalls (k n : Nat) (balls : List BallEntry) (e : BallEntry) (after : Leave) (foul : Bool) :
    Option (List BallEntry) :=
  rederive k (balls.take (n - 1) ++ [makeEntry k n e.faced after foul .corrected false]) (balls.drop n)

/-! ### The shape checks (R82, R83) -/

/-- The SHAPE check of frames 1 to 9 (R82): `marked` when the lane's reopen mark names this bowler and frame. -/
def shapeOpen (marked : Bool) (before after : List BallEntry) : Bool :=
  if !firstIsStrike before && firstIsStrike after then before.length == 1
  else if firstIsStrike before && !firstIsStrike after then marked
  else true

/-- The SHAPE check of frame 10 (R83). -/
def shapeTenth (before after : List BallEntry) : Bool :=
  if before.length == 3 || ballsComplete 10 before then thirdAllowed before == thirdAllowed after else true

/-- The SHAPE check: whether the correction keeps the shape of frame `k`. -/
def shapeKept (marked : Bool) (k : Nat) (before after : List BallEntry) : Bool :=
  if k ≤ 9 then shapeOpen marked before after else shapeTenth before after

/-! ### Taking the correction (R85 to R92) -/

/-- The completed game's totals after a correction (R91). -/
def replaceTotals (forming : Bool) (b : Bowler) : Bowler :=
  if forming ∧ frameComplete b.sheet 10 ∧ b.status ≠ .absent then
    { b with last := b.last.map fun t =>
        { plain := (frameAt b.sheet 10).total.getD 0,
          handicapped := (frameAt b.sheet 10).total.getD 0 + (t.handicapped - t.plain) } }
  else b

/-- The bowler with frame `k`'s balls rewritten and the sheet rebuilt (R85, steps 1 to 3). -/
def rebuiltBowler (k : Nat) (balls : List BallEntry) (b : Bowler) : Bowler :=
  let sheet := setFrame b.sheet k { frameAt b.sheet k with balls := balls }
  { b with sheet := (rebuild sheet).1, pending := (rebuild sheet).2 }

/-- The frame in play stays in play (R87), or becomes complete (R88), or a marked strike is reopened (R89), or rotation is
not touched. -/
inductive RotationCase where
  | inPlay
  | completed
  | reopened
  | untouched
deriving DecidableEq, Repr

/-- Which case a correction of frame `k` of slot `n` is, from the frame's balls before and after it (section 4.4). -/
def rotationCase (v : Squad) (n k : Nat) (before after : List BallEntry) : RotationCase :=
  if k ≤ 9 ∧ firstIsStrike before ∧ !firstIsStrike after then .reopened
  else if v.slot = some n ∧ v.round = k ∧ !ballsComplete k before then
    (if ballsComplete k after then .completed else .inPlay)
  else .untouched

/-- Rotation and the Next Deck after a correction (R87 to R89); the supervisor's decision is taken by the caller. -/
def rotateCorrected (q : SquadId) (l : Lane) (n k : Nat) (before after : List BallEntry) (s : State) : State :=
  match rotationCase (s.squad q) n k before after with
  | .inPlay => writeNextDeck l (nextLeave k after) s
  | .completed =>
      match markAfterStrike q n k (firstIsStrike after) (firstLacking (s.squad q).round (s.squad q).order).isSome with
      | some m => chooseNext q l (setReopen l (some m) s)
      | none => chooseNext q l s
  | .reopened =>
      setReopen l none (writeNextDeck l (nextLeave k after)
        (modSquad q (fun v => { v with slot := some n, round := k, ball := 2 }) s))
  | .untouched => s

/-- Whether a correction changes the current bowler (R88, R89), which the supervisor takes as a change not caused by a
ball. DESIGN CHOICE (log entry 49): a correction that completes the frame counts as a change also where the same bowler, the
only ACTIVE one, is current again for the next round or game. -/
def RotationCase.changesBowler : RotationCase → Bool
  | .completed => true
  | .reopened => true
  | _ => false

/-- Deck-stale after a correction (R90), given the Next Deck leave written before it. -/
def staleAfterCorrection (l : Lane) (before : Leave) (s : State) : State :=
  let u := s.sup l
  if u.nextDeck = before then s
  else
    match u.cycleRec, u.latched with
    | some c, some x => if !c.latched ∨ u.nextDeck = x then s else setStale l s
    | none, some x => if u.nextDeck = x then s else setStale l s
    | _, none => s

/-- The master that did not correct (R92). -/
def otherMaster : Port → Port
  | .desk => .console
  | _ => .desk

/-- A taken correction (R85), sent from port `p`: `b` is the bowler at slot `n`, `after` are the new balls of frame `k`.
DESIGN CHOICE (log entry 40): CORRECTED (R92) names the lane the squad was current on when the correction was taken, also
where rotation then moves the squad. -/
def takeCorrection (p : Port) (q : SquadId) (n k : Nat) (b : Bowler) (after : List BallEntry) (s : State) : State :=
  let v := s.squad q
  let l := v.current
  let before := (frameAt b.sheet k).balls
  let b' := replaceTotals (v.state == .forming || v.state == .gameDone) (rebuiltBowler k after b)
  let t := rotateCorrected q l n k before after (modSquad q (fun v => { v with order := setBowler v.order n b' }) s)
  let t := staleAfterCorrection l (s.sup l).nextDeck t
  let t := if (rotationCase v n k before after).changesBowler then bowlerChanged l t else t
  enterNotice (otherMaster p) { kind := .corrected, scope := scopeOfLane l } t

/-! ### The checks of CORRECT_BALL (R78) -/

/-- The form and result a request carries; `none` when the field of its form is missing or out of range (R78, check 2). -/
def correctionOf (c : CorrectFields) : Option Correction :=
  match c.form with
  | .bad _ => none
  | .val .leave => (c.newLeave.bind leaveOf).map .leave
  | .val .count => c.newCount.bind fun x => if x.toNat ≤ 10 then some (.count x.toNat) else none

/-- A leave or count that the chosen form does not use must still be in its range when present (R77). -/
def unusedFieldsOk (c : CorrectFields) : Bool :=
  (match c.newLeave with
   | some l => (leaveOf l).isSome
   | none => true) &&
  (match c.newCount with
   | some x => decide (x.toNat ≤ 10)
   | none => true)

/-- The field ranges of R77 (R78, check 2). -/
def correctFieldsOk (c : CorrectFields) : Bool :=
  decide (1 ≤ c.slot.toNat ∧ c.slot.toNat ≤ 8) && decide (1 ≤ c.frame.toNat ∧ c.frame.toNat ≤ 10)
    && decide (1 ≤ c.ball.toNat ∧ c.ball.toNat ≤ (if c.frame.toNat ≤ 9 then 2 else 3))
    && decide (c.expectedCount.toNat ≤ 10) && unusedFieldsOk c

/-- Whether the named ball belongs to a delivery under way (R78, check 5). -/
def underDelivery (s : State) (q : SquadId) (n k : Nat) : Bool :=
  (s.sup (s.squad q).current).cycle.delivering && (s.squad q).slot == some n && (s.squad q).round == k

/-- Whether the lane's reopen mark names a bowler and frame (R82). -/
def reopenNames (s : State) (q : SquadId) (n k : Nat) : Bool :=
  (s.lane (s.squad q).current).reopen == some { squad := q, slot := n, frame := k }

/-- The content and shape checks, and then the correction itself (R80 to R84). -/
def applyCorrection (p : Port) (q : SquadId) (n k j : Nat) (b : Bowler) (entry : BallEntry) (c : Correction) (foul : Bool)
    (s : State) : Answer :=
  let balls := (frameAt b.sheet k).balls
  match correctedLeave entry c foul with
  | none => refuse .range s
  | some after =>
      match correctedBalls k j balls entry after foul with
      | none => refuse .range s
      | some new =>
          if !shapeKept (reopenNames s q n k) k balls new then refuse .shape s
          else if entry.after = after ∧ entry.foul = foul ∧ balls.drop j = new.drop j then
            .now .ok (correctionReply (s.squad q) (s.squad q).order n k j) s
          else
            let t := takeCorrection p q n k b new s
            .now .ok (correctionReply (t.squad q) (setBowler (s.squad q).order n (rebuiltBowler k new b)) n k j) t

/-- CORRECT_BALL once its fields are in range: checks 3 to 6 of R78, then the content. -/
def correctChecked (p : Port) (q : SquadId) (c : CorrectFields) (x : Correction) (s : State) : Answer :=
  let n := c.slot.toNat
  let k := c.frame.toNat
  let j := c.ball.toNat
  if !(s.lane (s.squad q).current).state.inSession then refuse .state s
  else
    match bowlerAt (s.squad q).order n with
    | none => refuse .absent s
    | some b =>
        match (frameAt b.sheet k).balls[j - 1]? with
        | none => refuse .absent s
        | some entry =>
            if underDelivery s q n k then refuse .state s
            else if entry.count ≠ c.expectedCount.toNat ∨ entry.foul ≠ c.expectedFoul then refuse .stale s
            else applyCorrection p q n k j b entry x c.newFoul s

/-- CORRECT_BALL's own part (R78). -/
def correctBody (p : Port) (squad : Coded SquadId) (c : CorrectFields) (s : State) : Answer :=
  match squad with
  | .bad _ => refuse .range s
  | .val q =>
      match correctFieldsOk c, correctionOf c with
      | true, some x => correctChecked p q c x s
      | _, _ => refuse .range s

/-- CORRECT_BALL (R77). -/
def execCorrectBall (e : Envelope) (squad : Coded SquadId) (c : CorrectFields) (s : State) :
    Host.Outcome State Fault Refusal :=
  request e 20 (deskOrConsole e) false 11 (correctBody e.port squad c) s

/-! ### ENTER_BALL (R60) -/

/-- The supervisor after an entered ball: with a pending fault it goes to FAULT, otherwise the cycle is issued as for a
deck report (R58, R60). -/
def afterEntered (l : Lane) (r : Recorded) (s : State) : State :=
  match (s.sup l).delivery.bind (·.pendingFault) with
  | some _ => modSup l (fun u => { u with cycle := .fault, foulPending := false, delivery := none }) s
  | none => issueDelivery l r.after r.sameFrame s

/-- ENTER_BALL's effect (R60): the ball is recorded with source ENTERED, the ENTRY hold leaves, the supervisor goes on. -/
def enterBallEffect (l : Lane) (leave : Leave) (foul : Bool) (s : State) : State :=
  let r := recordBall l leave foul .entered s
  afterEntered l r.2 (removeHold l .entry r.1)

/-- ENTER_BALL's own part (R60). -/
def enterBallBody (leave : BitVec 16) (foul : Bool) (l : Lane) (s : State) : Answer :=
  match leaveOf leave with
  | none => refuse .range s
  | some x => if (s.sup l).cycle = .entry then done (enterBallEffect l x foul s) else refuse .state s

/-- ENTER_BALL (R60). -/
def execEnterBall (e : Envelope) (lane : Coded Lane) (leave : BitVec 16) (foul : Bool) (s : State) :
    Host.Outcome State Fault Refusal :=
  request e 21 (deskOrConsole e) false 4 (withLane lane (enterBallBody leave foul)) s

/-! ### Pair mode -/

/-- Whether a squad stands between games for SPLIT_PAIR (R101). -/
def SquadState.splittable : SquadState → Bool
  | .forming => true
  | .gameDone => true
  | _ => false

/-- SPLIT_PAIR without FORCE (R101). -/
def splitBody (s : State) : Answer :=
  match s.pairMode with
  | .single => done s
  | .cross =>
      if (s.squad .a).state.splittable && (s.squad .b).state.splittable then done { s with pairMode := .single }
      else refuse .state s

/-- SET_PAIR_MODE CROSS (R94). -/
def crossBody (s : State) : Answer :=
  match s.pairMode with
  | .cross => done s
  | .single =>
      if (s.lane .a).state ≠ .opened ∨ (s.lane .b).state ≠ .opened then refuse .state s
      else if (s.acct .a).mode = .time ∨ (s.acct .b).mode = .time then refuse .mode s
      else if !hasActive (s.squad .a) || !hasActive (s.squad .b) then refuse .state s
      else done { s with pairMode := .cross }

/-- SET_PAIR_MODE's own part (R94). -/
def pairModeBody (mode : Coded PairMode) (s : State) : Answer :=
  match mode with
  | .bad _ => refuse .range s
  | .val .single => splitBody s
  | .val .cross => crossBody s

/-- SET_PAIR_MODE (R94). -/
def execSetPairMode (e : Envelope) (mode : Coded PairMode) (s : State) : Host.Outcome State Fault Refusal :=
  request e 22 (deskOrConsole e) false 1 (pairModeBody mode) s

/-- SPLIT_PAIR (R101). -/
def execSplitPair (e : Envelope) (s : State) : Host.Outcome State Fault Refusal :=
  request e 23 (deskOrConsole e) false 1 splitBody s

/-- SPLIT_PAIR FORCE's own part (R102): the records, then the decision of each lane's supervisor. -/
def splitForceBody (s : State) : Answer :=
  match s.pairMode with
  | .single => done s
  | .cross => done (decide52 .b (decide52 .a (splitRecords s)))

/-- SPLIT_PAIR with FORCE (R102). -/
def execSplitPairForce (e : Envelope) (s : State) : Host.Outcome State Fault Refusal :=
  request e 23 (deskOnly e) false 1 splitForceBody s

end Sys2Proof.Machine
end

