-- ==== Sys2Proof/Machine/Delivery.lean ====
section
/-! DEFINITION. The events of a lane's machine and sensors, and the ends of the supervisor's timers (chapters 3 and 9). -/

namespace Sys2Proof.Machine

/-! ### Messages of the machine (R50) -/

/-- What the supervisor does once its machine runs (R154): GATED decides, RECOVER issues its cycle, PARKED with a test
pending issues the test cycle. -/
def runsNow (l : Lane) (s : State) : State :=
  match (s.sup l).cycle with
  | .gated => arm l s
  | .recover => if (s.sup l).cycleRec.isNone then issueCycle l .recovery .reset none s else s
  | .parked => if (s.sup l).testMark then issueCycle l .test .reset none s else s
  | _ => s

/-- A WARM (R154), discarded in every power state but WARMING (R50). -/
def takeWarm (l : Lane) (s : State) : State :=
  if (s.sup l).power = .warming then runsNow l (modSup l (fun u => { u with power := .running, warmUpTimer := none }) s)
  else s

/-- WARM (R50, R154). -/
def execWarm (lane : Lane) (s : State) : Host.Outcome State Fault Refusal := coreEvent (takeWarm lane) s

/-- The foul flag of the delivery under way. -/
def deliveryFoul (u : Supervisor) : Bool :=
  match u.delivery with
  | some d => d.foul
  | none => false

/-- A deck report (R58), discarded in every cycle state but READING (R50). -/
def takeDeck (l : Lane) (leave : Leave) (s : State) : State :=
  if (s.sup l).cycle = .reading then
    let r := recordBall l leave (deliveryFoul (s.sup l)) .sensed (modSup l (fun u => { u with deckTimer := none }) s)
    issueDelivery l r.2.after r.2.sameFrame r.1
  else s

/-- DECK (R58). -/
def execDeck (lane : Lane) (leave : Leave) (s : State) : Host.Outcome State Fault Refusal :=
  coreEvent (takeDeck lane leave) s

/-- Whether a cycle can be under way in a cycle state (R50). -/
def CycleState.runsCycle : CycleState → Bool
  | .cycling => true
  | .recover => true
  | _ => false

/-- The cycle record of a cycle under way (R50). -/
def cycleUnderWay (u : Supervisor) : Option CycleRec := if u.cycle.runsCycle then u.cycleRec else none

/-- The leave a latch spots (R64). -/
def spotLeave (c : CycleRec) (nextDeck : Leave) : Leave :=
  match c.kind, c.picked with
  | .respot, some p => nextDeck &&& p
  | _, _ => nextDeck

/-- The latch (R64), with deck-stale settled (R65). -/
def latch (l : Lane) (c : CycleRec) (s : State) : State :=
  let spot := spotLeave c (s.sup l).nextDeck
  let t := sendMessage l (.spot spot)
    (modSup l (fun u => { u with latched := some spot, cycleRec := some { c with latched := true } }) s)
  if spot = (s.sup l).nextDeck then modSup l (fun u => { u with stale := false }) t else setStale l t

/-- A RESPOT_POINT (R64), discarded without a cycle record that still has to latch (R50). -/
def takeRespot (l : Lane) (s : State) : State :=
  match cycleUnderWay (s.sup l) with
  | some c => if c.latched then s else latch l c s
  | none => s

/-- RESPOT_POINT (R64). -/
def execRespotPoint (lane : Lane) (s : State) : Host.Outcome State Fault Refusal := coreEvent (takeRespot lane) s

/-- The cycle is ended (R66, steps 1 to 4). -/
def endCycle (l : Lane) (c : CycleRec) (s : State) : State :=
  let t := countCycle l (modSup l (fun u => { u with watchdogTimer := none }) s)
  let t := if c.latched then t else setStale l (modSup l (fun u => { u with latched := none }) t)
  modSup l (fun u => { u with cycleRec := none }) t

/-- What follows a test cycle (R160): in a CLOSED lane the test ends; a lane opened meanwhile goes where OPEN_LANE would
have taken it. -/
def afterTest (l : Lane) (s : State) : State :=
  if (s.lane l).state = .closed then endTest l false s
  else
    let t := modSup l (fun u => { u with testMark := false }) s
    if (s.lane l).holds.machine then modSup l (fun u => { u with cycle := .fault, foulPending := false }) t else arm l t

/-- What follows the end of a cycle in a lane that is not CLOSING, by its purpose (R66, step 5). -/
def afterPurpose (l : Lane) (p : Purpose) (s : State) : State :=
  match p with
  | .delivery => arm l s
  | .align => arm l s
  | .resetDeck => arm l s
  | .recovery => arm l (dropHold l .service (dropHold l .machine s))
  | .close => park l false s
  | .test => afterTest l s

/-- Whether the cycle that ended spotted a full rack from the machine's rack (R158). -/
def closesDeck (c : CycleRec) (latched : Option Leave) : Bool := c.kind == .reset && c.latched && latched == some fullRack

/-- What follows the end of a cycle in a CLOSING lane (R158). -/
def afterClosing (l : Lane) (c : CycleRec) (s : State) : State :=
  if closesDeck c (s.sup l).latched then park l false s
  else closingCycle l (modSup l (fun u => { u with testMark := false }) s)

/-- A CYCLE_DONE (R66), discarded without a cycle under way (R50). -/
def takeCycleDone (l : Lane) (s : State) : State :=
  match cycleUnderWay (s.sup l) with
  | some c =>
      let t := endCycle l c s
      if (t.lane l).state = .closing then afterClosing l c t else afterPurpose l c.purpose t
  | none => s

/-- CYCLE_DONE (R66). -/
def execCycleDone (lane : Lane) (s : State) : Host.Outcome State Fault Refusal := coreEvent (takeCycleDone lane) s

/-- A lane's fault counter rises (R161). -/
def countFault (l : Lane) (s : State) : State := modCounters l (fun c => { c with fault := c.fault.raise }) s

/-- A MACHINE_FAULT (R68). -/
def takeMachineFault (l : Lane) (code : Byte) (s : State) : State :=
  faultMove l code.toNat (noteFault l (.message code.toNat) (countFault l s))

/-- MACHINE_FAULT (R68). -/
def execMachineFault (lane : Lane) (code : Byte) (s : State) : Host.Outcome State Fault Refusal :=
  coreEvent (takeMachineFault lane code) s

/-! ### The lane's sensors -/

/-- A live delivery starts (R56). -/
def startDelivery (l : Lane) (s : State) : State :=
  modSup l (fun u =>
    { u with cycle := .ballIn, foulPending := false, delivery := some { foul := u.foulPending, attempt := 1, pendingFault := none },
             settleTimer := startTimer s (10 * u.timing.settle) }) s

/-- A dead ball (R61): DEAD is raised, a machine in STANDBY is woken outside PARKED, the idle standby timer restarts. -/
def deadBall (l : Lane) (s : State) : State :=
  let t := raiseLane .dead l s
  if (s.sup l).cycle = .parked then t else restartIdle l (wake l t)

/-- A ball detection (R56, R61). -/
def takeDetection (l : Lane) (s : State) : State :=
  if (s.sup l).cycle = .armed then startDelivery l s else deadBall l s

/-- BALL_DETECTION (R56, R61). -/
def execBallDetection (lane : Lane) (s : State) : Host.Outcome State Fault Refusal := coreEvent (takeDetection lane) s

/-- A foul event (R10, R55). -/
def takeFoul (l : Lane) (s : State) : State :=
  if (s.lane l).foulDetect then
    match (s.sup l).cycle with
    | .armed => modSup l (fun u => { u with foulPending := true }) s
    | .ballIn => modSup l (fun u => { u with delivery := u.delivery.map fun d => { d with foul := true } }) s
    | _ => s
  else s

/-- FOUL_EVENT (R55). -/
def execFoulEvent (lane : Lane) (s : State) : Host.Outcome State Fault Refusal := coreEvent (takeFoul lane) s

/-! ### The ends of the supervisor's timers -/

/-- READ_DECK is sent to a machine that runs (R57, R59). -/
def readDeck (l : Lane) (s : State) : State := if (s.sup l).power = .running then sendMessage l .readDeck s else s

/-- Settle expiry in BALL_IN (R57). -/
def takeSettle (l : Lane) (s : State) : State :=
  if (s.sup l).cycle = .ballIn then
    readDeck l (modSup l (fun u =>
      { u with cycle := .reading, settleTimer := none, deckTimer := startTimer s deckLimitTicks }) s)
  else s

/-- SETTLE_EXPIRY (R57). -/
def execSettleExpiry (lane : Lane) (s : State) : Host.Outcome State Fault Refusal := coreEvent (takeSettle lane) s

/-- The first deck limit expiry of a delivery (R59). -/
def secondRead (l : Lane) (s : State) : State :=
  readDeck l (modSup l (fun u =>
    { u with delivery := u.delivery.map fun d => { d with attempt := 2 }, deckTimer := startTimer s deckLimitTicks }) s)

/-- The second deck limit expiry of a delivery (R59): ENTRY. -/
def enterEntry (l : Lane) (s : State) : State :=
  modCounters l (fun c => { c with deckFail := c.deckFail.raise })
    (raiseLane .entry l (addHold l .entry (modSup l (fun u => { u with cycle := .entry, deckTimer := none }) s)))

/-- Whether the delivery under way is at its first deck read. -/
def firstAttempt (u : Supervisor) : Bool :=
  match u.delivery with
  | some d => d.attempt == 1
  | none => false

/-- Deck limit expiry in READING (R59). -/
def takeDeckLimit (l : Lane) (s : State) : State :=
  if (s.sup l).cycle = .reading then (if firstAttempt (s.sup l) then secondRead l s else enterEntry l s) else s

/-- DECK_LIMIT_EXPIRY (R59). -/
def execDeckLimitExpiry (lane : Lane) (s : State) : Host.Outcome State Fault Refusal := coreEvent (takeDeckLimit lane) s

/-- The watchdog's retry (R67, attempt 1). -/
def retryCycle (l : Lane) (c : CycleRec) (s : State) : State :=
  startWatchdog l (sendMessage l (.cycle .reset) (modSup l (fun u =>
    { u with latched := none,
             cycleRec := some { purpose := c.purpose, kind := .reset, picked := none, attempt := 2, latched := false } })
    (sendMessage l .stop s)))

/-- The watchdog's second expiry (R67, attempt 2). -/
def watchdogFault (l : Lane) (s : State) : State :=
  faultMove l 0 (noteFault l .watchdog (modCounters l (fun c => { c with timeout := c.timeout.raise })
    (modSup l (fun u => { u with cycleRec := none, latched := none, watchdogTimer := none }) (sendMessage l .stop s))))

/-- Cycle watchdog expiry (R67). -/
def takeWatchdog (l : Lane) (s : State) : State :=
  match cycleUnderWay (s.sup l) with
  | some c => if c.attempt = 1 then retryCycle l c s else watchdogFault l s
  | none => s

/-- CYCLE_WATCHDOG_EXPIRY (R67). -/
def execCycleWatchdogExpiry (lane : Lane) (s : State) : Host.Outcome State Fault Refusal :=
  coreEvent (takeWatchdog lane) s

/-- Warm-up limit expiry in WARMING (R154), handled as a machine fault (R68). The code that a pending fault then holds is
free (`Config.warmUpCode`): the spec gives the expiry none. -/
def takeWarmUp (l : Lane) (s : State) : State :=
  if (s.sup l).power = .warming then
    let t := sendMessage l .powerOff (modSup l (fun u => { u with power := .standby, warmUpTimer := none }) s)
    faultMove l ((Config.warmUpCode s.free).val + 1) { noteFault l .warmUp (countFault l t) with free := s.free + 1 }
  else s

/-- WARM_UP_EXPIRY (R154). -/
def execWarmUpExpiry (lane : Lane) (s : State) : Host.Outcome State Fault Refusal := coreEvent (takeWarmUp lane) s

/-- Idle standby expiry (R155): taken while the timer runs. -/
def takeIdle (l : Lane) (s : State) : State :=
  if idleRuns (s.sup l) && (s.sup l).idleTimer.isSome then
    let t := sendMessage l .powerOff (modSup l (fun u => { u with power := .standby, idleTimer := none }) s)
    if (s.sup l).cycle = .armed then gate l t else t
  else s

/-- IDLE_STANDBY_EXPIRY (R155). -/
def execIdleStandbyExpiry (lane : Lane) (s : State) : Host.Outcome State Fault Refusal := coreEvent (takeIdle lane) s

end Sys2Proof.Machine
end

