-- ==== Sys2Proof/Machine/Return.lean ====
section
/-! DEFINITION. The Ball Return Monitor (chapter 6): its sensors, the ends of its timers, and the service requests that work
it. -/

namespace Sys2Proof.Machine

/-- Rewrite the monitor record. -/
def modReturn (f : ReturnMonitor → ReturnMonitor) (s : State) : State := { s with ret := f s.ret }

/-- The RETURN hold is added to both lanes (R116). -/
def addReturnHolds (s : State) : State := addHold .b .ret (addHold .a .ret s)

/-- The RETURN hold is removed from both lanes (R116). -/
def removeReturnHolds (s : State) : State := removeHold .b .ret (removeHold .a .ret s)

/-- The return queue's capacity (R106). -/
def queueCapacity : Nat := 10

/-! ### Pit exits (R108, R115) -/

/-- The entry of a pit exit taken now (R106). -/
def exitEntry (l : Lane) (s : State) : ReturnEntry := { origin := l, exitTime := s.tick }

/-- The sensor fault (R115). -/
def sensorFault (s : State) : State :=
  raisePair .returnJam (addReturnHolds (modReturn (fun m =>
    { m with state := .fault, sensorFault := true, runOn := false, attempt := 0, phase := none, lift := .off }) s))

/-- A pit exit joins the queue (R108), or is the sensor fault when the queue is full. -/
def joinQueue (l : Lane) (s : State) : State :=
  if s.ret.queue.length < queueCapacity then
    modReturn (fun m =>
      { m with queue := m.queue ++ [exitEntry l s], runOn := if m.state = .carrying then false else m.runOn }) s
  else sensorFault s

/-- A pit exit (R108). -/
def takePitExit (l : Lane) (s : State) : State :=
  match s.ret.state with
  | .idle =>
      modReturn (fun m => { m with queue := m.queue ++ [exitEntry l s], lift := .forward, state := .carrying }) s
  | .carrying => joinQueue l s
  | .clearing => joinQueue l s
  | .jammed => joinQueue l s
  | .fault => s
  | .off => s

/-- PIT_EXIT (R108, R115). -/
def execPitExit (lane : Lane) (s : State) : Host.Outcome State Fault Refusal := coreEvent (takePitExit lane) s

/-! ### Arrivals (R109, R114) -/

/-- The stray-arrival flag is set (R109). -/
def strayArrival (s : State) : State := modReturn (fun m => { m with stray := true }) s

/-- An arrival takes the head entry and leaves the monitor in CARRYING (R109, R110, R114): age base is set, a clearing
attempt ends, and the run-on starts when the queue is now empty. -/
def headArrives (s : State) : State :=
  modReturn (fun m =>
    { m with state := .carrying, queue := m.queue.tail, ageBase := some s.tick, runOn := m.queue.tail.isEmpty,
             attempt := 0, phase := none, lift := .forward }) s

/-- The jam is freed by an arrival (R114). -/
def jamFreed (s : State) : State := raisePair .returnOk (removeReturnHolds (headArrives s))

/-- An arrival (R109). -/
def takeArrival (s : State) : State :=
  match s.ret.state with
  | .idle => strayArrival s
  | .carrying => if s.ret.queue.isEmpty then strayArrival s else headArrives s
  | .clearing => headArrives s
  | .jammed => jamFreed s
  | .fault => s
  | .off => s

/-- ARRIVAL (R109, R114). -/
def execArrival (s : State) : Host.Outcome State Fault Refusal := coreEvent takeArrival s

/-! ### The ends of the timers (R110 to R113) -/

/-- Run-on expiry (R110). -/
def takeRunOn (s : State) : State :=
  if s.ret.runOn then modReturn (fun m => { m with runOn := false, lift := .off, ageBase := none, state := .idle }) s
  else s

/-- RUN_ON_EXPIRY (R110). -/
def execRunOnExpiry (s : State) : Host.Outcome State Fault Refusal := coreEvent takeRunOn s

/-- A clearing attempt starts (R112). -/
def startAttempt (n : Nat) (s : State) : State :=
  modReturn (fun m => { m with state := .clearing, attempt := n, phase := some .reverse, lift := .reverse }) s

/-- The transit age of an entry (R111): since the later of its exit and the age base. -/
def transitAge (s : State) (x : ReturnEntry) : Nat :=
  match s.ret.ageBase with
  | some b => min (ticksSince s.tick x.exitTime) (ticksSince s.tick b)
  | none => ticksSince s.tick x.exitTime

/-- Whether the head entry's transit age exceeds the limit held (R111). -/
def headOverdue (s : State) : Bool :=
  match s.ret.queue with
  | x :: _ => decide (100 * s.ret.limit < transitAge s x)
  | [] => false

/-- Transit expiry (R111): in CARRYING, with the head entry's transit age above the limit now held. Before that the age test
has not expired, and nothing changes. -/
def takeTransit (s : State) : State := if s.ret.state = .carrying ∧ headOverdue s then startAttempt 1 s else s

/-- TRANSIT_EXPIRY (R111). -/
def execTransitExpiry (s : State) : Host.Outcome State Fault Refusal := coreEvent takeTransit s

/-- The end of a reverse phase (R112). -/
def takeReverseEnd (s : State) : State :=
  if s.ret.phase = some .reverse then modReturn (fun m => { m with phase := some .forward, lift := .forward }) s else s

/-- REVERSE_PHASE_END (R112). -/
def execReversePhaseEnd (s : State) : Host.Outcome State Fault Refusal := coreEvent takeReverseEnd s

/-- The jam is declared (R113). -/
def declareJam (s : State) : State :=
  raisePair .returnJam (addReturnHolds (modReturn (fun m =>
    { m with state := .jammed, lift := .off, attempt := 0, phase := none, jam := m.jam.raise }) s))

/-- The end of a forward phase (R112): the next attempt, or after the third the jam. -/
def takeForwardEnd (s : State) : State :=
  if s.ret.phase = some .forward then (if s.ret.attempt < 3 then startAttempt (s.ret.attempt + 1) s else declareJam s)
  else s

/-- FORWARD_PHASE_END (R112, R113). -/
def execForwardPhaseEnd (s : State) : Host.Outcome State Fault Refusal := coreEvent takeForwardEnd s

/-! ### Service requests -/

/-- The monitor emptied, in a state given (R117, R118). -/
def ReturnMonitor.emptied (st : ReturnState) (m : ReturnMonitor) : ReturnMonitor :=
  { m with state := st, sensorFault := false, queue := [], ageBase := none, runOn := false, attempt := 0, phase := none,
           lift := .off }

/-- Whether a return state holds the lanes (R116). -/
def ReturnState.holdsLanes : ReturnState → Bool
  | .jammed => true
  | .fault => true
  | _ => false

/-- The track is emptied (R117, R118): leaving JAMMED or FAULT takes the RETURN hold with it and raises RETURN_OK. -/
def emptyReturn (st : ReturnState) (s : State) : State :=
  let t := modReturn (ReturnMonitor.emptied st) s
  if s.ret.state.holdsLanes then raisePair .returnOk (removeReturnHolds t) else t

/-- CLEAR_RETURN's own part (R117). -/
def clearReturnBody (s : State) : Answer :=
  if s.ret.state = .off then refuse .state s else done (emptyReturn .idle s)

/-- CLEAR_RETURN (R117). -/
def execClearReturn (e : Envelope) (s : State) : Host.Outcome State Fault Refusal :=
  request e 38 (serviceOnly e) false 0 clearReturnBody s

/-- The transit limit of SET_RETURN takes effect at once for the age test (R111, R118). -/
def setTransitLimit (limit : Nat) (s : State) : State :=
  takeTransit (modReturn (fun m => { m with limit := clamp 8 60 limit }) s)

/-- SET_RETURN's transit limit, when it is carried (R118). -/
def applyLimit (limit : Option Byte) (s : State) : State :=
  match limit with
  | some b => setTransitLimit b.toNat s
  | none => s

/-- SET_RETURN's power value, when it is carried (R118). -/
def applyPower (power : Option OnOff) (s : State) : State :=
  match power with
  | some .off => if s.ret.state = .off then s else emptyReturn .off s
  | some .on => if s.ret.state = .off then modReturn (fun m => { m with state := .idle }) s else s
  | none => s

/-- Whether SET_RETURN's transit limit was clamped (R118). -/
def limitClamped (limit : Option Byte) : Bool :=
  match limit with
  | some b => clamp 8 60 b.toNat != b.toNat
  | none => false

/-- SET_RETURN once its power value is known (R118). DESIGN CHOICE (log entry 41): in return state OFF, with power OFF, a
transit limit carried is still applied. -/
def setReturnChecked (power : Option OnOff) (limit : Option Byte) (s : State) : Answer :=
  if power = some .off ∧ s.ret.state = .fault then refuse .state s
  else
    let t := applyPower power (applyLimit limit s)
    .now (okOrLimited (limitClamped limit)) (be1 (returnStateCode t.ret.state) ++ be1 t.ret.limit) t

/-- SET_RETURN's own part (R118): a power code that is neither ON nor OFF is refused RANGE. -/
def setReturnBody (power : Option (Coded OnOff)) (limit : Option Byte) (s : State) : Answer :=
  match power with
  | none => setReturnChecked none limit s
  | some (.val v) => setReturnChecked (some v) limit s
  | some (.bad _) => refuse .range s

/-- SET_RETURN (R118). -/
def execSetReturn (e : Envelope) (power : Option (Coded OnOff)) (limit : Option Byte) (s : State) :
    Host.Outcome State Fault Refusal :=
  request e 39 (serviceOnly e) false 2 (setReturnBody power limit) s

/-- READ_RETURN's own part (R119): the record as it stood, then the clears. -/
def readReturnBody (clearStray clearJam : Bool) (s : State) : Answer :=
  .now .ok (returnReply s) (modReturn (fun m =>
    { m with stray := m.stray && !clearStray, jam := if clearJam then .zero else m.jam }) s)

/-- READ_RETURN (R119). -/
def execReadReturn (e : Envelope) (clearStray clearJam : Bool) (s : State) : Host.Outcome State Fault Refusal :=
  request e 40 (serviceOnly e) false 2 (readReturnBody clearStray clearJam) s

end Sys2Proof.Machine
end

