-- ==== Sys2Proof/Machine/Rates.lean ====
section
/-! DEFINITION. The Rate Card, the Rate Store and the Centre Clock (chapter 8, sections 10.1 and 10.2). -/

namespace Sys2Proof.Machine

/-! ### The entry in effect (R141, R142) -/

/-- Rewrite the Rate Card. -/
def modRates (f : RateCard → RateCard) (s : State) : State := { s with rates := f s.rates }

/-- The Rate Card chooses the entry in effect again (R142). -/
def reevaluate (s : State) : State :=
  let n := chosenEntry s.rates.working s.clock
  if n = s.rates.inEffect then s else raisePair .rateChange (modRates (fun r => { r with inEffect := n }) s)

/-- An absent entry 0 is the factory default (R139). -/
def entryOrFactory (n : Nat) (v : RateEntry) : RateEntry := if n = 0 ∧ ¬v.present then .factory else v

/-- Write one working entry (R143, R144, R148, R149). -/
def writeWorking (n : Nat) (v : RateEntry) (s : State) : State :=
  modRates (fun r => { r with working := r.working.set n (entryOrFactory n v) }) s

/-- A working entry. -/
def workingEntry (s : State) (n : Nat) : RateEntry := s.rates.working.getD n .absent

/-! ### RATE_SET and RATE_CLEAR -/

/-- RATE_SET's own part (R143). -/
def rateSetBody (entry : Byte) (value : RateFields) (s : State) : Answer :=
  if 15 < entry.toNat then refuse .range s
  else
    match rateEntryOf value with
    | none => refuse .range s
    | some v =>
        let t := writeWorking entry.toNat v s
        .now .ok (rateBytes (workingEntry t entry.toNat)) (reevaluate t)

/-- RATE_SET (R143). -/
def execRateSet (e : Envelope) (entry : Byte) (value : RateFields) (s : State) : Host.Outcome State Fault Refusal :=
  request e 24 (deskOnly e) true 13 (rateSetBody entry value) s

/-- RATE_CLEAR's own part (R144). -/
def rateClearBody (entry : Byte) (s : State) : Answer :=
  if 15 < entry.toNat then refuse .range s else done (reevaluate (writeWorking entry.toNat .absent s))

/-- RATE_CLEAR (R144). -/
def execRateClear (e : Envelope) (entry : Byte) (s : State) : Host.Outcome State Fault Refusal :=
  request e 25 (deskOnly e) true 1 (rateClearBody entry) s

/-! ### RATE_STORE and its programming (R147 to R149) -/

/-- The write count at which a stored entry is worn (R146). -/
def wornCount : Nat := 32

/-- A stored entry. -/
def storedEntry (s : State) (n : Nat) : StoredEntry := s.rates.store.getD n .blank

/-- Rewrite a stored entry. -/
def modStored (n : Nat) (f : StoredEntry → StoredEntry) (s : State) : State :=
  modRates (fun r => { r with store := r.store.set n (f (r.store.getD n .blank)) }) s

/-- A programming begins (R148). -/
def startProgramming (n : Nat) (v : RateEntry) (s : State) : State :=
  modRates (fun r => { r with programming := some { entry := n, value := v } })
    (modStored n (fun x => { x with state := .compromised, writes := x.writes + 1 }) s)

/-- RATE_STORE's own part (R147), with the manager key input at that moment. -/
def rateStoreBody (entry : Byte) (value : RateFields) (key : Bool) (s : State) : Answer :=
  let t : State := { s with key := key }
  if 15 < entry.toNat then refuse .range t
  else if !key then refuse .key t
  else if wornCount ≤ (storedEntry t entry.toNat).writes then refuse .worn t
  else
    match rateEntryOf value with
    | none => refuse .range t
    | some v => .later (startProgramming entry.toNat v t)

/-- RATE_STORE (R147). -/
def execRateStore (e : Envelope) (entry : Byte) (value : RateFields) (key : Bool) (s : State) :
    Host.Outcome State Fault Refusal :=
  request e 26 (deskOnly e) false 13 (rateStoreBody entry value key) s

/-- The end of a programming: none is under way, the desk is answered with the stored entry, and the entry in effect is
chosen again (R148, R149). -/
def endProgramming (n : Nat) (st : Status) (s : State) : State :=
  let t := modRates (fun r => { r with programming := none }) s
  reevaluate (answerRequest .desk st (storeReply t n) t)

/-- The programming completes (R148). DESIGN CHOICE (log entry 42): for entry 0 with the present flag clear the store holds
the value carried, whose present flag is clear, and the working entry is the factory default. -/
def takeCompletion (s : State) : State :=
  match s.rates.programming with
  | some p =>
      endProgramming p.entry .ok
        (writeWorking p.entry p.value (modStored p.entry (fun x => { x with state := .good, value := p.value }) s))
  | none => s

/-- PROGRAMMING_COMPLETE (R148). -/
def execProgrammingComplete (s : State) : Host.Outcome State Fault Refusal := coreEvent takeCompletion s

/-- The manager key is released (R149): a programming under way is interrupted. -/
def takeKeyRelease (s : State) : State :=
  let t : State := { s with key := false }
  match s.rates.programming with
  | some p => endProgramming p.entry .keyLost (writeWorking p.entry .absent t)
  | none => t

/-- KEY_RELEASE (R149). -/
def execKeyRelease (s : State) : Host.Outcome State Fault Refusal := coreEvent takeKeyRelease s

/-! ### RATE_READ -/

/-- RATE_READ WORKING (R145), or RATE_READ with a copy selector that names neither copy. -/
def execRateReadWorking (e : Selected Envelope) (s : State) : Host.Outcome State Fault Refusal :=
  request e.field 27 (deskOrService e.field) false 1 (withSelector e.stray fun s => .now .ok (workingReply s) s) s

/-- RATE_READ STORED's own part (R145, R151). -/
def readStoredBody (s : State) : Answer :=
  if s.rates.programming.isSome then refuse .storeBusy s else .now .ok (storedReply s) s

/-- RATE_READ STORED (R145). -/
def execRateReadStored (e : Envelope) (s : State) : Host.Outcome State Fault Refusal :=
  request e 27 (serviceOnly e) false 1 readStoredBody s

/-! ### The Centre Clock -/

/-- The ranges of R164. -/
def clockFieldsOk (weekday hour minute second : Nat) : Bool :=
  decide (1 ≤ weekday ∧ weekday ≤ 7) && decide (hour ≤ 23) && decide (minute ≤ 59) && decide (second ≤ 59)

/-- The clock as CLOCK_SET leaves it (R166). -/
def setClock (weekday hour minute second : Nat) (s : State) : State :=
  { s with clock := { s.clock with weekday := weekday, hour := hour, minute := minute, second := second, valid := true } }

/-- CLOCK_SET's own part (R166). -/
def clockSetBody (weekday hour minute second : Byte) (s : State) : Answer :=
  if !clockFieldsOk weekday.toNat hour.toNat minute.toNat second.toNat then refuse .range s
  else if !s.clock.crystal then refuse .state s
  else
    let t := setClock weekday.toNat hour.toNat minute.toNat second.toNat s
    .now .ok (clockBytes t.clock) (reevaluate t)

/-- CLOCK_SET (R166). -/
def execClockSet (e : Envelope) (weekday hour minute second : Byte) (s : State) : Host.Outcome State Fault Refusal :=
  request e 28 (deskOnly e) true 4 (clockSetBody weekday hour minute second) s

/-- CLOCK_READ (R167). -/
def execClockRead (e : Envelope) (s : State) : Host.Outcome State Fault Refusal :=
  request e 29 (deskOnly e) false 0 (fun s => .now .ok (clockBytes s.clock) s) s

/-- The clock one second later (R164). -/
def Clock.advance (c : Clock) : Clock :=
  if c.second < 59 then { c with second := c.second + 1 }
  else if c.minute < 59 then { c with second := 0, minute := c.minute + 1 }
  else if c.hour < 23 then { c with second := 0, minute := 0, hour := c.hour + 1 }
  else { c with second := 0, minute := 0, hour := 0, weekday := if c.weekday < 7 then c.weekday + 1 else 1 }

/-- A second of the clock (R164): a minute change makes a running Rate Card choose again (R142). -/
def takeClockSecond (s : State) : State :=
  if s.clock.crystal then
    let t : State := { s with clock := s.clock.advance }
    if ¬s.clock.second < 59 ∧ coreOn s then reevaluate t else t
  else s

/-- CLOCK_SECOND (R164): the clock runs with main present and absent, and with the core stopped. -/
def execClockSecond (s : State) : Host.Outcome State Fault Refusal := .next (takeClockSecond s)

/-- The crystal is found stopped (R165). -/
def takeCrystalStop (s : State) : State :=
  let t : State := { s with clock := { s.clock with crystal := false, valid := false } }
  if s.clock.valid ∧ coreOn s then raisePair .clock (reevaluate t) else t

/-- CRYSTAL_STOP (R165). -/
def execCrystalStop (s : State) : Host.Outcome State Fault Refusal := .next (takeCrystalStop s)

/-- CRYSTAL_RESTART (R165): the clock counts on, and stays invalid. -/
def execCrystalRestart (s : State) : Host.Outcome State Fault Refusal :=
  .next { s with clock := { s.clock with crystal := true } }

end Sys2Proof.Machine
end

