-- ==== Sys2Proof/Machine/Service.lean ====
section
/-! DEFINITION. The service terminal's requests about the machines (R70, R73, R74, R156, R157, R160 to R162) and
READ_SUPPLY (R172). -/

namespace Sys2Proof.Machine

/-- CLEAR_FAULT's own part (R70). -/
def clearFaultBody (l : Lane) (s : State) : Answer :=
  if (s.sup l).cycle ≠ .fault then refuse .state s
  else if (s.sup l).power = .off then refuse .state s
  else done (enterRecover l s)

/-- CLEAR_FAULT (R70). -/
def execClearFault (e : Envelope) (lane : Coded Lane) (s : State) : Host.Outcome State Fault Refusal :=
  request e 30 (serviceOnly e) false 1 (withLane lane clearFaultBody) s

/-- READ_MACHINE (R74). -/
def execReadMachine (e : Envelope) (lane : Coded Lane) (s : State) : Host.Outcome State Fault Refusal :=
  request e 31 (serviceOnly e) false 1 (withLane lane fun l s => .now .ok (machineReply s l) s) s

/-! ### SET_TIMING (R73) -/

/-- The idle standby setting clamped: any value that is neither 0 nor 1 to 60 is 60. -/
def clampIdle (v : Nat) : Nat := if v ≤ 60 then v else 60

/-- One setting as SET_TIMING leaves it. -/
def setOr (f : Nat → Nat) (new : Option Byte) (old : Nat) : Nat :=
  match new with
  | some b => f b.toNat
  | none => old

/-- Whether a clamp changed one carried setting. -/
def clampedBy (f : Nat → Nat) (new : Option Byte) : Bool :=
  match new with
  | some b => f b.toNat != b.toNat
  | none => false

/-- The settings of a lane after SET_TIMING. -/
def newTiming (f : TimingFields) (t : Timing) : Timing :=
  { settle := setOr (clamp 5 60) f.settle t.settle, watchdog := setOr (clamp 4 30) f.watchdog t.watchdog,
    warmUp := setOr (clamp 5 60) f.warmUp t.warmUp, idle := setOr clampIdle f.idle t.idle }

/-- Whether SET_TIMING clamped any value. -/
def timingLimited (f : TimingFields) : Bool :=
  clampedBy (clamp 5 60) f.settle || clampedBy (clamp 4 30) f.watchdog || clampedBy (clamp 5 60) f.warmUp
    || clampedBy clampIdle f.idle

/-- The settings of one lane are rewritten; a timer that runs keeps its length (R73). An idle standby set to 0, or
taken from 0, is acted on by `syncIdle` as the request ends (log entry 48). -/
def setTimingOf (f : TimingFields) (l : Lane) (s : State) : State :=
  modSup l (fun u => { u with timing := newTiming f u.timing }) s

/-- SET_TIMING's own part (R73). -/
def setTimingBody (lanes : Coded LaneChoice) (f : TimingFields) (s : State) : Answer :=
  match lanes with
  | .bad _ => refuse .range s
  | .val c =>
      let t := (lanesOf c).foldl (fun t l => setTimingOf f l t) s
      .now (okOrLimited (timingLimited f)) ((lanesOf c).flatMap fun l => timingBytes (t.sup l).timing) t

/-- SET_TIMING (R73). -/
def execSetTiming (e : Envelope) (lanes : Coded LaneChoice) (settings : TimingFields) (s : State) :
    Host.Outcome State Fault Refusal :=
  request e 32 (serviceOnly e) false 5 (setTimingBody lanes settings) s

/-! ### SET_MACHINE (R156, R157) -/

/-- Step 1 of SET_MACHINE OFF (R156): the cycle under way is stopped. -/
def stopCycle (l : Lane) (s : State) : State :=
  if (s.sup l).cycleRec.isSome then
    sendMessage l .stop (modSup l (fun u => { u with cycleRec := none, latched := none, watchdogTimer := none }) s)
  else s

/-- Step 5 of SET_MACHINE OFF (R156): the cycle state moves by its table. -/
def offMove (l : Lane) (s : State) : State :=
  match (s.sup l).cycle with
  | .armed => gate l s
  | .cycling =>
      if (s.lane l).state = .closed then modSup l Supervisor.parked s else enterRecover l s
  | .recover => recoverActs l s
  | _ => s

/-- SET_MACHINE OFF's effect on a machine that is not OFF (R156). -/
def machineOff (l : Lane) (s : State) : State :=
  offMove l (addHold l .service (sendMessage l .powerOff
    (modSup l (fun u => { u with power := .off, warmUpTimer := none, idleTimer := none, testMark := false })
      (stopCycle l s))))

/-- SET_MACHINE OFF's own part (R156). -/
def setOffBody (l : Lane) (s : State) : Answer :=
  let t := if (s.sup l).power = .off then s else machineOff l s
  .now .ok (be1 (powerCode (t.sup l).power)) t

/-- SET_MACHINE OFF (R156). -/
def execSetMachineOff (e : Envelope) (lane : Coded Lane) (s : State) : Host.Outcome State Fault Refusal :=
  request e 33 (serviceOnly e) false 2 (withLane lane setOffBody) s

/-- Where SET_MACHINE ON takes the cycle state of a lane that is not CLOSED (R157). -/
def onMove (l : Lane) (s : State) : State :=
  match (s.sup l).cycle with
  | .gated => enterRecover l s
  | .fault => enterRecover l s
  | _ => s

/-- SET_MACHINE ON's effect on a machine that is OFF (R157). -/
def machineOn (l : Lane) (s : State) : State :=
  let t := modSup l (fun u => { u with power := .standby }) s
  if (s.lane l).state = .closed then t else onMove l (wake l t)

/-- SET_MACHINE ON's own part (R157). -/
def setOnBody (l : Lane) (s : State) : Answer :=
  let t := if (s.sup l).power = .off then machineOn l s else s
  .now .ok (be1 (powerCode (t.sup l).power)) t

/-- SET_MACHINE ON (R157), or SET_MACHINE with a selector that is neither ON nor OFF. -/
def execSetMachineOn (e : Envelope) (lane : Selected (Coded Lane)) (s : State) : Host.Outcome State Fault Refusal :=
  request e 33 (serviceOnly e) false 2 (withSelector lane.stray (withLane lane.field setOnBody)) s

/-! ### TEST_CYCLE (R160) -/

/-- The test begins once it is taken: at once with the machine RUNNING, after its warm-up otherwise. -/
def beginTest (l : Lane) (s : State) : State :=
  let t := modSup l (fun u => { u with testMark := true }) s
  if (s.sup l).power = .running then issueCycle l .test .reset none t else wake l t

/-- TEST_CYCLE's own part (R160). -/
def testCycleBody (l : Lane) (s : State) : Answer :=
  if (s.lane l).state ≠ .closed then refuse .state s
  else if (s.sup l).cycle ≠ .parked ∨ (s.sup l).testMark then refuse .state s
  else if (s.sup l).power = .off then refuse .state s
  else done (beginTest l s)

/-- TEST_CYCLE (R160). -/
def execTestCycle (e : Envelope) (lane : Coded Lane) (s : State) : Host.Outcome State Fault Refusal :=
  request e 34 (serviceOnly e) false 1 (withLane lane testCycleBody) s

/-! ### Counters and maintenance (R161, R162) -/

/-- CLEAR_COUNTERS' own part (R161). -/
def clearCountersBody (l : Lane) (s : State) : Answer :=
  done (modCounters l (fun c => { c with timeout := .zero, fault := .zero, deckFail := .zero, mismatch := .zero }) s)

/-- CLEAR_COUNTERS (R161). -/
def execClearCounters (e : Envelope) (lane : Coded Lane) (s : State) : Host.Outcome State Fault Refusal :=
  request e 35 (serviceOnly e) false 1 (withLane lane clearCountersBody) s

/-- A maintenance interval clamped (R162). -/
def clampInterval (v : Nat) : Nat := if v = 0 then 0 else clamp 1000 500000 v

/-- SET_MAINT_INTERVAL's own part (R162): the flag is cleared, and the maintenance test applied. -/
def setIntervalBody (interval : BitVec 32) (l : Lane) (s : State) : Answer :=
  let n := clampInterval interval.toNat
  let t := maintTest l (modSup l (fun u => { u with maintInterval := n, maintDue := false }) s)
  .now (okOrLimited (n != interval.toNat)) (be4 n) t

/-- SET_MAINT_INTERVAL (R162). -/
def execSetMaintInterval (e : Envelope) (lane : Coded Lane) (interval : BitVec 32) (s : State) :
    Host.Outcome State Fault Refusal :=
  request e 36 (serviceOnly e) false 5 (withLane lane (setIntervalBody interval)) s

/-- MAINT_DONE's own part (R162). -/
def maintDoneBody (l : Lane) (s : State) : Answer :=
  done (modSup l (fun u => { u with maintDue := false, counters := { u.counters with sinceService := 0 } }) s)

/-- MAINT_DONE (R162). -/
def execMaintDone (e : Envelope) (lane : Coded Lane) (s : State) : Host.Outcome State Fault Refusal :=
  request e 37 (serviceOnly e) false 1 (withLane lane maintDoneBody) s

/-! ### READ_SUPPLY (R172) -/

/-- The main failure count and failure time are cleared (R172). -/
def clearFailures (s : State) : State := { s with supply := { s.supply with failures := 0, lastFailure := none } }

/-- READ_SUPPLY's own part (R172): the record as it stood, then the clear. -/
def readSupplyBody (clear : Bool) (s : State) : Answer := .now .ok (supplyReply s) (if clear then clearFailures s else s)

/-- READ_SUPPLY (R172). -/
def execReadSupply (e : Envelope) (clear : Bool) (s : State) : Host.Outcome State Fault Refusal :=
  request e 41 (serviceOnly e) false 1 (readSupplyBody clear) s

end Sys2Proof.Machine
end

