-- ==== Sys2Proof/Machine/Supply.lean ====
section
/-! DEFINITION. The Supply Monitor: main failure, the starts of the core, retention, battery low, the external reset input,
and RESET_PAIR (sections 10.3 to 10.6). -/

namespace Sys2Proof.Machine

/-! ### Loading the working copy (R152) -/

/-- The working entry that a stored entry loads as. -/
def loadedEntry (n : Nat) (x : StoredEntry) : RateEntry :=
  entryOrFactory n (if x.state = .good ∧ x.value.present then x.value else .absent)

/-- The working entries loaded from the stored entries numbered from `n` on. -/
def loadFrom : Nat → List StoredEntry → List RateEntry
  | _, [] => []
  | n, x :: rest => loadedEntry n x :: loadFrom (n + 1) rest

/-- The load of the Rate Card (R152): no programming is under way, and the entry in effect is chosen without a notice. -/
def loadRates (s : State) : State :=
  let working := loadFrom 0 s.rates.store
  modRates (fun r => { r with working := working, inEffect := chosenEntry working s.clock, programming := none }) s

/-! ### Cold-start values (R170) -/

/-- A supervisor at its cold-start values: the nonvolatile area stays (R163). -/
def coldSupervisor (u : Supervisor) : Supervisor :=
  { Supervisor.reset with
    counters := u.counters, maintInterval := u.maintInterval, maintDue := u.maintDue, link := u.link }

/-- What is held for a lane at its cold-start values (R22, R75, R138, R186). -/
def coldLane (l : Lane) (r : LaneRec) : LaneRec := { LaneRec.reset l with sup := coldSupervisor r.sup }

/-- The pair's records at their cold-start values (R22, R23, R75, R120, R138). -/
def coldPair (s : State) : State :=
  { s with lanes := { a := coldLane .a s.lanes.a, b := coldLane .b s.lanes.b }
           pairMode := .single
           squads := { a := .reset .a, b := .reset .b }
           ret := .reset }

/-- Every retained record, the clock and the power-event record at their cold-start values (R164, R170, R172). The crystal
status and battery-low status stay as their detectors have them. -/
def coldRecords (s : State) : State :=
  let t := coldPair s
  { t with clock := { Clock.reset with crystal := s.clock.crystal }
           supply := { t.supply with failures := 0, lastFailure := none } }

/-! ### A start of the core (R169) -/

/-- The hold set after a core restart (R22). -/
def restartHolds (st : LaneState) (h : HoldSet) : HoldSet :=
  { h with ret := false, entry := false, power := h.power || st.plays }

/-- The Next Deck leave derived from the scoring records of the squad on a lane (R76). -/
def derivedDeck (q : Squad) : Leave :=
  match q.currentBowler with
  | some b => if q.ball = 1 then fullRack else nextLeave q.round (frameAt b.sheet q.round).balls
  | none => fullRack

/-- A supervisor's core-domain fields at a restart (R75, R163), before its cycle state is taken. -/
def restartSupervisor (deck : Leave) (u : Supervisor) : Supervisor :=
  { u with cycle := .parked, power := if u.power = .off then .off else .standby, nextDeck := deck, latched := none,
           stale := false, foulPending := false, delivery := none, cycleRec := none, settleTimer := none,
           deckTimer := none, watchdogTimer := none, warmUpTimer := none, idleTimer := none, testMark := false }

/-- What is held for a lane at a restart (R22, R86, R138). -/
def restartLane (l : Lane) (s : State) : State :=
  modLane l (fun r =>
    { r with holds := if r.state = .closed then r.holds else restartHolds r.state r.holds, reopen := none, runTicks := 0,
             sup := restartSupervisor (derivedDeck (s.squadOn l)) r.sup }) s

/-- The cycle state after a restart (R76); in a CLOSING lane the close sequence goes on from FAULT (R158). -/
def restartCycle (l : Lane) (s : State) : State :=
  if (s.lane l).state = .closed then s
  else if (s.lane l).holds.machine then
    (if (s.lane l).state = .closing then park l true s else modSup l (fun u => { u with cycle := .fault }) s)
  else enterRecover l s

/-- The monitor at a restart (R120). -/
def restartReturn (m : ReturnMonitor) : ReturnMonitor := { ReturnMonitor.reset with limit := m.limit, jam := m.jam }

/-- A notice for the pair. -/
def pairNotice (k : NoticeKind) : Notice := { kind := k, scope := .pair }

/-- The desk's notice set after a start (R169, R183). -/
def startDeskNotices (s : State) : List Notice :=
  (if s.clock.valid then [] else [pairNotice .clock]) ++ [pairNotice .power]
    ++ (if s.supply.batteryLow then [pairNotice .battery] else [])

/-- The service port's notice set after a start. -/
def startServiceNotices (s : State) : List Notice :=
  [pairNotice .power] ++ (if s.supply.batteryLow then [pairNotice .battery] else [])

/-- The pair address read from the straps (R174). -/
def strapAddress (straps : BitVec 6) : Nat := if straps = 0#6 then 64 else straps.toNat

/-- The core-domain items that stand outside the lanes take their starting values (R105, R169, R174, R183). -/
def startCore (kind : StartKind) (s : State) : State :=
  { s with ret := restartReturn s.ret
           desk := .reset (startDeskNotices s)
           console := .reset [pairNotice .power]
           service := .reset (startServiceNotices s)
           address := strapAddress s.straps
           tick := 0
           supply := { s.supply with state := .main, retention := true, lastStart := kind, resetAsserted := false,
                                     mainBack := false } }

/-- The core starts on the records in place (R169): the load, the lanes, then the cycle states. -/
def startOn (kind : StartKind) (s : State) : State :=
  let t := restartLane .b (restartLane .a (loadRates (startCore kind s)))
  restartCycle .b (restartCycle .a t)

/-- A start of the core: a cold start when the retention mark is lost (R170), else a core restart of the kind given, over
which the sheet serials are retained and rise with what the restart changed (R186). -/
def startOf (kind : StartKind) (s : State) : State :=
  if s.supply.retention then bumpSerial s .b (bumpSerial s .a (startOn kind s)) else startOn .cold (coldRecords s)

/-! ### The core stops (R168) -/

/-- A port that releases its lines: its request is abandoned without reply (R168, R183). -/
def PortState.released (v : PortState) : PortState :=
  { v with request := none, outgoing := [], transmitting := false, phase := .free, pulse := false }

/-- STOP and POWER_OFF on one machine link (R168, step 1). -/
def cutMachine (l : Lane) (s : State) : State := sendMessage l .powerOff (sendMessage l .stop s)

/-- Steps 1 to 4 of R168. -/
def stopCore (s : State) : State :=
  let t := modRates (fun r => { r with programming := none })
    (modReturn (fun m => { m with lift := .off }) (cutMachine .b (cutMachine .a s)))
  { t with desk := t.desk.released, console := t.console.released, service := t.service.released }

/-- A main failure is counted and stamped (R168, step 5; R172). -/
def countFailure (s : State) : State :=
  { s with supply := { s.supply with state := .backup, failures := saturate 65535 s.supply.failures,
                                     lastFailure := clockReading s.clock } }

/-- A main failure (R168). One that comes while main was back and the external reset input still held the core ends that
wait (R169). -/
def takeMainFailure (s : State) : State :=
  match s.supply.state with
  | .main => countFailure (stopCore s)
  | .backup => { s with supply := { s.supply with mainBack := false } }

/-- MAIN_FAILURE (R168). -/
def execMainFailure (s : State) : Host.Outcome State Fault Refusal := .next (takeMainFailure s)

/-- A main return in BACKUP (R168, R169): the core starts, or waits for the release of the external reset input. -/
def takeMainReturn (s : State) : State :=
  match s.supply.state with
  | .main => s
  | .backup =>
      if s.supply.resetAsserted then { s with supply := { s.supply with mainBack := true } } else startOf .mainReturn s

/-- MAIN_RETURN (R169). -/
def execMainReturn (s : State) : Host.Outcome State Fault Refusal := .next (takeMainReturn s)

/-- The backup source falls below 1.8 V (R170): with main absent the retained records and the clock are lost. -/
def takeRetentionLoss (s : State) : State :=
  if s.supply.state = .backup ∧ ¬s.supply.mainBack then
    let t := coldRecords s
    { t with supply := { t.supply with retention := false } }
  else s

/-- RETENTION_LOSS (R170). -/
def execRetentionLoss (s : State) : Host.Outcome State Fault Refusal := .next (takeRetentionLoss s)

/-- The battery-low comparison sets the status (R171): BATTERY is raised when it was clear and the core runs. -/
def takeBatteryLow (s : State) : State :=
  let t : State := { s with supply := { s.supply with batteryLow := true } }
  if ¬s.supply.batteryLow ∧ coreOn s then raisePair .battery t else t

/-- BATTERY_LOW_SET (R171). -/
def execBatteryLowSet (s : State) : Host.Outcome State Fault Refusal := .next (takeBatteryLow s)

/-- BATTERY_LOW_CLEAR (R171). -/
def execBatteryLowClear (s : State) : Host.Outcome State Fault Refusal :=
  .next { s with supply := { s.supply with batteryLow := false } }

/-- The external reset input is asserted (R169): with main present the core stops. -/
def takeResetAssert (s : State) : State :=
  if coreOn s then
    let t := stopCore s
    { t with supply := { t.supply with resetAsserted := true } }
  else s

/-- EXTERNAL_RESET_ASSERT (R169). -/
def execExternalResetAssert (s : State) : Host.Outcome State Fault Refusal := .next (takeResetAssert s)

/-- The external reset input is released (R169). -/
def takeResetRelease (s : State) : State :=
  if s.supply.resetAsserted then
    match s.supply.state with
    | .main => startOf .resetInput s
    | .backup =>
        if s.supply.mainBack then startOf .mainReturn s
        else { s with supply := { s.supply with resetAsserted := false } }
  else s

/-- EXTERNAL_RESET_RELEASE (R169). -/
def execExternalResetRelease (s : State) : Host.Outcome State Fault Refusal := .next (takeResetRelease s)

/-! ### RESET_PAIR (R173) -/

/-- The first check of R173 that fails; `none` when the request is taken. -/
def resetPairRefusal (s : State) : Option Status :=
  if (s.lane .a).state ≠ .closed ∨ (s.lane .b).state ≠ .closed then some .state
  else if (s.sup .a).testMark ∨ (s.sup .b).testMark ∨ (s.sup .a).cycle ≠ .parked ∨ (s.sup .b).cycle ≠ .parked then
    some .state
  else if s.rates.programming.isSome then some .storeBusy
  else none

/-- RESET_PAIR's own part (R173): POWER_OFF to a machine that is RUNNING or WARMING (R75), then the records. -/
def resetPairBody (s : State) : Answer :=
  match resetPairRefusal s with
  | some st => refuse st s
  | none => done (loadRates (coldPair (powerDown .b (powerDown .a s))))

/-- Both sheet serials at 0 (R186). -/
def zeroSerials (s : State) : State :=
  modLane .a (fun r => { r with serial := 0 }) (modLane .b (fun r => { r with serial := 0 }) s)

/-- Whether a RESET_PAIR is taken (R173, R178). -/
def resetPairTaken (e : Envelope) (s : State) : Bool :=
  coreOn s && serviceOnly e && portFree s .service && e.bodyLen == 0 && (resetPairRefusal s).isNone

/-- RESET_PAIR (R173): the serials end at 0 when it is taken (R186). -/
def execResetPair (e : Envelope) (s : State) : Host.Outcome State Fault Refusal :=
  match request e 42 (serviceOnly e) false 0 resetPairBody s with
  | .next t => .next (if resetPairTaken e s then zeroSerials t else t)
  | other => other

end Sys2Proof.Machine
end

