-- ==== Sys2Proof/Machine/Notices.lean ====
section
/-! DEFINITION. The notice requests, and the events of the ports (chapter 11). -/

namespace Sys2Proof.Machine

/-! ### Notices (R181, R182) -/

/-- READ_NOTICES (R181). -/
def execReadNotices (e : Envelope) (s : State) : Host.Outcome State Fault Refusal :=
  request e 43 true false 0 (fun s => .now .ok (noticesReply (s.port e.port)) s) s

/-- ACK_NOTICES' own part (R181, R188): a count outside 1 to 32, or a notice that is not known, is refused RANGE. -/
def ackNoticesBody (p : Port) (fields : List NoticeFields) (s : State) : Answer :=
  if fields.length = 0 ∨ 32 < fields.length then refuse .range s
  else
    match noticesOf fields with
    | none => refuse .range s
    | some listed =>
        let t := modPort p (fun v => { v with notices := v.notices.filter fun n => !listed.contains n }) s
        .now .ok (be1 (t.port p).notices.length) t

/-- ACK_NOTICES (R181). Its body is a count byte and two bytes for each notice (R185). -/
def execAckNotices (e : Envelope) (notices : List NoticeFields) (s : State) : Host.Outcome State Fault Refusal :=
  request e 44 true false (1 + 2 * notices.length) (ackNoticesBody e.port notices) s

/-- The port after SET_NOTICE_MASK (R182): a pulse under way goes on only from PULSE to PULSE. -/
def portWithMask (mask : BitVec 20) (mode : AttentionMode) (v : PortState) : PortState :=
  { v with mask := mask, mode := mode, pulse := v.pulse && v.mode == .pulse && mode == .pulse }

/-- SET_NOTICE_MASK's own part (R182, R188): a bit above code 19 is an unknown kind. -/
def setMaskBody (p : Port) (mask : BitVec 32) (mode : Coded AttentionMode) (s : State) : Answer :=
  match mode with
  | .bad _ => refuse .range s
  | .val m =>
      if mask.toNat < 2 ^ 20 then done (modPort p (portWithMask (mask.extractLsb' 0 20) m) s) else refuse .range s

/-- SET_NOTICE_MASK (R182). -/
def execSetNoticeMask (e : Envelope) (mask : BitVec 32) (mode : Coded AttentionMode) (s : State) :
    Host.Outcome State Fault Refusal :=
  request e 45 true false 5 (setMaskBody e.port mask mode) s

/-- A request code that names no request is refused DENIED (R178). -/
def execUnknownRequestCode (e : Envelope) (code : Byte) (s : State) : Host.Outcome State Fault Refusal :=
  request e code false false 0 done s

/-! ### Events of the ports (R174 to R178, R182) -/

/-- A discarded frame changes nothing (R174). -/
def discarded (_port : Port) (_bytes : List Byte) (s : State) : State := s

/-- FRAME_DISCARD (R174). -/
def execFrameDiscard (port : Port) (bytes : List Byte) (s : State) : Host.Outcome State Fault Refusal :=
  .next (discarded port bytes s)

/-- INTER_BYTE_TIMEOUT (R174): the frame under way is discarded. -/
def execInterByteTimeout (port : Port) (bytes : List Byte) (s : State) : Host.Outcome State Fault Refusal :=
  .next (discarded port bytes s)

/-- The reply of the console's request becomes BUSY when bytes are clocked under HOLD (R176). The reply is held until HOLD
is released, so that it is there to be changed. -/
def bytesUnderHold (s : State) : State := if s.console.phase = .executing then consoleBusy s else s

/-- CONSOLE_BYTES_UNDER_HOLD (R176). -/
def execConsoleBytesUnderHold (s : State) : Host.Outcome State Fault Refusal := coreEvent bytesUnderHold s

/-- SELECT rises with no frame of a request row before it (R176): it ends a reply, and changes nothing in the other port
states. -/
def takeSelectRise (s : State) : State := if s.console.phase = .replyReady then endConsoleReply s else s

/-- SELECT_RISE (R176). -/
def execSelectRise (s : State) : Host.Outcome State Fault Refusal := coreEvent takeSelectRise s

/-- The line has been quiet for 1 ms: a ready reply starts (R175, R177). On the console port, HOLD is released over a ready
reply (R176). -/
def takeTurnaround (p : Port) (s : State) : State :=
  match p with
  | .console =>
      if s.console.phase = .executing ∧ ¬s.console.outgoing.isEmpty then
        modPort .console (fun v => { v with phase := .replyReady }) s
      else s
  | p => if (s.port p).outgoing.isEmpty then s else modPort p (fun v => { v with transmitting := true }) s

/-- REPLY_TURNAROUND (R175 to R177). -/
def execReplyTurnaround (port : Port) (s : State) : Host.Outcome State Fault Refusal := coreEvent (takeTurnaround port) s

/-- A port whose first reply has been sent (R178): the request in execution ends with its own reply. -/
def PortState.afterReply (v : PortState) : PortState :=
  match v.outgoing with
  | r :: rest => { v with outgoing := rest, transmitting := false, request := if r.own then none else v.request }
  | [] => v

/-- The last byte of a reply has been sent, or clocked out (R178). -/
def takeReplySent (p : Port) (s : State) : State :=
  match p with
  | .console => if s.console.phase = .replyReady then modPort .console PortState.afterReply s else s
  | p => if (s.port p).transmitting then modPort p PortState.afterReply s else s

/-- REPLY_SENT (R178). -/
def execReplySent (port : Port) (s : State) : Host.Outcome State Fault Refusal := coreEvent (takeReplySent port) s

/-- The attention pulse has run its 1 ms (R182). -/
def endPulse (p : Port) (s : State) : State := modPort p (fun v => { v with pulse := false }) s

/-- PULSE_END (R182). -/
def execPulseEnd (port : Port) (s : State) : Host.Outcome State Fault Refusal := coreEvent (endPulse port) s

/-! ### The core tick -/

/-- A lane's running second grows by one core tick, while its meter runs (R127, R128). -/
def tickLane (r : LaneRec) : LaneRec := if meterRunning r then { r with runTicks := min 99 (r.runTicks + 1) } else r

/-- The console's reply is ready, and HOLD released, once the part has had time to make it (R176). -/
def readyConsole (v : PortState) : PortState :=
  if v.phase = .executing ∧ ¬v.outgoing.isEmpty then { v with phase := .replyReady } else v

/-- One core tick of 10 ms with no command waiting (R105): the tick count rises and wraps, the running seconds grow, and a
console reply becomes ready. Nothing expires by itself: every expiry is a command (log entry 2). -/
def idleTick (s : State) : State :=
  if coreOn s then
    { s with tick := (s.tick + 1) % tickModulus
             lanes := { a := tickLane s.lanes.a, b := tickLane s.lanes.b }
             console := readyConsole s.console }
  else s

end Sys2Proof.Machine
end

