-- ==== Sys2Proof/Machine/Dispatch.lean ====
section
/-! DEFINITION. The meaning of every command: one direct call per constructor. -/

namespace Sys2Proof.Machine

/-- The meaning of a command: its effect on everything but the queue. -/
def exec (i : Instr) (s : State) : Host.Outcome State Fault Refusal :=
  match i with
  | .openLane e lane mode credit warn => Sys2Proof.Machine.execOpenLane e lane mode credit warn s
  | .closeLane e lane => Sys2Proof.Machine.execCloseLane e lane s
  | .pauseLane e lane => Sys2Proof.Machine.execPauseLane e lane s
  | .resumeLane e lane => Sys2Proof.Machine.execResumeLane e lane s
  | .addCredit e lane amount => Sys2Proof.Machine.execAddCredit e lane amount s
  | .addTime e lane amount => Sys2Proof.Machine.execAddTime e lane amount s
  | .readAccount e lane => Sys2Proof.Machine.execReadAccount e lane s
  | .readSession e lane => Sys2Proof.Machine.execReadSession e lane s
  | .startGame e lane games => Sys2Proof.Machine.execStartGame e lane games s
  | .bowlerReady e lane => Sys2Proof.Machine.execBowlerReady e lane s
  | .foulDetect e lane enable => Sys2Proof.Machine.execFoulDetect e lane enable s
  | .resetDeck e lane => Sys2Proof.Machine.execResetDeck e lane s
  | .addBowler e squad name handicap blind => Sys2Proof.Machine.execAddBowler e squad name handicap blind s
  | .removeBowler e squad slot => Sys2Proof.Machine.execRemoveBowler e squad slot s
  | .moveBowler e squad slot newSlot => Sys2Proof.Machine.execMoveBowler e squad slot newSlot s
  | .markAbsent e squad slot blind => Sys2Proof.Machine.execMarkAbsent e squad slot blind s
  | .markPresent e squad slot => Sys2Proof.Machine.execMarkPresent e squad slot s
  | .setHandicap e squad slot handicap => Sys2Proof.Machine.execSetHandicap e squad slot handicap s
  | .readSheet e lane part => Sys2Proof.Machine.execReadSheet e lane part s
  | .correctBall e squad c => Sys2Proof.Machine.execCorrectBall e squad c s
  | .enterBall e lane leave foul => Sys2Proof.Machine.execEnterBall e lane leave foul s
  | .setPairMode e mode => Sys2Proof.Machine.execSetPairMode e mode s
  | .splitPair e => Sys2Proof.Machine.execSplitPair e s
  | .splitPairForce e => Sys2Proof.Machine.execSplitPairForce e s
  | .rateSet e entry value => Sys2Proof.Machine.execRateSet e entry value s
  | .rateClear e entry => Sys2Proof.Machine.execRateClear e entry s
  | .rateStore e entry value key => Sys2Proof.Machine.execRateStore e entry value key s
  | .rateReadWorking e => Sys2Proof.Machine.execRateReadWorking e s
  | .rateReadStored e => Sys2Proof.Machine.execRateReadStored e s
  | .clockSet e weekday hour minute second => Sys2Proof.Machine.execClockSet e weekday hour minute second s
  | .clockRead e => Sys2Proof.Machine.execClockRead e s
  | .clearFault e lane => Sys2Proof.Machine.execClearFault e lane s
  | .readMachine e lane => Sys2Proof.Machine.execReadMachine e lane s
  | .setTiming e lanes settings => Sys2Proof.Machine.execSetTiming e lanes settings s
  | .setMachineOff e lane => Sys2Proof.Machine.execSetMachineOff e lane s
  | .setMachineOn e lane => Sys2Proof.Machine.execSetMachineOn e lane s
  | .testCycle e lane => Sys2Proof.Machine.execTestCycle e lane s
  | .clearCounters e lane => Sys2Proof.Machine.execClearCounters e lane s
  | .setMaintInterval e lane interval => Sys2Proof.Machine.execSetMaintInterval e lane interval s
  | .maintDone e lane => Sys2Proof.Machine.execMaintDone e lane s
  | .clearReturn e => Sys2Proof.Machine.execClearReturn e s
  | .setReturn e power limit => Sys2Proof.Machine.execSetReturn e power limit s
  | .readReturn e clearStray clearJam => Sys2Proof.Machine.execReadReturn e clearStray clearJam s
  | .readSupply e clear => Sys2Proof.Machine.execReadSupply e clear s
  | .resetPair e => Sys2Proof.Machine.execResetPair e s
  | .readNotices e => Sys2Proof.Machine.execReadNotices e s
  | .ackNotices e notices => Sys2Proof.Machine.execAckNotices e notices s
  | .setNoticeMask e mask mode => Sys2Proof.Machine.execSetNoticeMask e mask mode s
  | .frameDiscard port bytes => Sys2Proof.Machine.execFrameDiscard port bytes s
  | .interByteTimeout port bytes => Sys2Proof.Machine.execInterByteTimeout port bytes s
  | .consoleBytesUnderHold => Sys2Proof.Machine.execConsoleBytesUnderHold s
  | .selectRise => Sys2Proof.Machine.execSelectRise s
  | .replyTurnaround port => Sys2Proof.Machine.execReplyTurnaround port s
  | .replySent port => Sys2Proof.Machine.execReplySent port s
  | .warm lane => Sys2Proof.Machine.execWarm lane s
  | .deck lane leave => Sys2Proof.Machine.execDeck lane leave s
  | .respotPoint lane => Sys2Proof.Machine.execRespotPoint lane s
  | .cycleDone lane => Sys2Proof.Machine.execCycleDone lane s
  | .machineFault lane code => Sys2Proof.Machine.execMachineFault lane code s
  | .ballDetection lane => Sys2Proof.Machine.execBallDetection lane s
  | .foulEvent lane => Sys2Proof.Machine.execFoulEvent lane s
  | .pitExit lane => Sys2Proof.Machine.execPitExit lane s
  | .arrival => Sys2Proof.Machine.execArrival s
  | .keyRelease => Sys2Proof.Machine.execKeyRelease s
  | .programmingComplete => Sys2Proof.Machine.execProgrammingComplete s
  | .settleExpiry lane => Sys2Proof.Machine.execSettleExpiry lane s
  | .deckLimitExpiry lane => Sys2Proof.Machine.execDeckLimitExpiry lane s
  | .cycleWatchdogExpiry lane => Sys2Proof.Machine.execCycleWatchdogExpiry lane s
  | .warmUpExpiry lane => Sys2Proof.Machine.execWarmUpExpiry lane s
  | .idleStandbyExpiry lane => Sys2Proof.Machine.execIdleStandbyExpiry lane s
  | .runOnExpiry => Sys2Proof.Machine.execRunOnExpiry s
  | .transitExpiry => Sys2Proof.Machine.execTransitExpiry s
  | .reversePhaseEnd => Sys2Proof.Machine.execReversePhaseEnd s
  | .forwardPhaseEnd => Sys2Proof.Machine.execForwardPhaseEnd s
  | .runningSecond lane => Sys2Proof.Machine.execRunningSecond lane s
  | .pulseEnd port => Sys2Proof.Machine.execPulseEnd port s
  | .clockSecond => Sys2Proof.Machine.execClockSecond s
  | .crystalStop => Sys2Proof.Machine.execCrystalStop s
  | .crystalRestart => Sys2Proof.Machine.execCrystalRestart s
  | .mainFailure => Sys2Proof.Machine.execMainFailure s
  | .mainReturn => Sys2Proof.Machine.execMainReturn s
  | .retentionLoss => Sys2Proof.Machine.execRetentionLoss s
  | .batteryLowSet => Sys2Proof.Machine.execBatteryLowSet s
  | .batteryLowClear => Sys2Proof.Machine.execBatteryLowClear s
  | .externalResetAssert => Sys2Proof.Machine.execExternalResetAssert s
  | .externalResetRelease => Sys2Proof.Machine.execExternalResetRelease s
  | .unknownRequestCode e code => Sys2Proof.Machine.execUnknownRequestCode e code s

end Sys2Proof.Machine
end

