-- ==== Sys2Proof/Machine/Step.lean ====
section
/-! DEFINITION. One step: the command at the front of the queue, or on an empty queue one tick of the core. -/

namespace Sys2Proof.Machine

/-- Run the command at the front of the queue, with the queue's rest; on an empty queue the block idles for one core tick
(log entry 2). -/
def step (s : State) : Host.Outcome State Fault Refusal :=
  match s.pending with
  | c :: rest => exec c { s with pending := rest }
  | [] => .next (idleTick s)

/-- The state with the command a word spells put at the front of the queue: the opcode table gives no row bits, so no word
spells one, and the state is unchanged. -/
def State.withFetchWord (s : State) (nbits w : Nat) : State :=
  match decodeTableWord nbits w with
  | some c => { s with pending := c :: s.pending }
  | none => s

end Sys2Proof.Machine
end

