-- ==== Sys2Proof/Safety.lean ====
section
/-! DEFINITION. What a sound state of the pair is, in the terms the claims use: the standing conditions of the spec, each as a
predicate on states, and how the claims speak of a request that a port takes. -/

namespace Sys2Proof

open Machine

/-! ### Standing conditions -/

/-- R51: a lane's supervisor is ARMED only while the lane is PLAYING or GRACE, its hold set is empty and its machine is
RUNNING. -/
def Safety.ArmedReady (s : State) : Prop :=
  ∀ l, (s.sup l).cycle = .armed →
    (s.lane l).state.plays = true ∧ (s.lane l).holds = HoldSet.none ∧ (s.sup l).power = .running

/-- R5, R6: the hold set of a CLOSED lane is empty. -/
def Safety.ClosedUnheld (s : State) : Prop := ∀ l, (s.lane l).state = .closed → (s.lane l).holds = HoldSet.none

/-- R124, R128 and the ranges of R121: credits loaded equal game credit plus credits taken, minutes loaded equal time credit
plus minutes metered, no count leaves its range, the game charges are at most the highest price for each credit taken, so
at most 99,980,001, and in GAME mode the cent-minute sum is 0 (R132). -/
def Safety.AccountBalanced (a : Account) : Prop :=
  a.creditsLoaded = a.gameCredit + a.creditsTaken ∧ a.minutesLoaded = a.timeCredit + a.minutesMetered ∧
    a.gameCredit ≤ 99 ∧ a.creditsLoaded ≤ 9999 ∧ a.timeCredit ≤ 720 ∧ a.minutesLoaded ≤ 99999 ∧ a.phase ≤ 59 ∧
    a.centMinutes ≤ 599999999 ∧ (a.mode = .game → a.centMinutes = 0) ∧ a.gameCharges ≤ 9999 * a.creditsTaken ∧
    a.gameCharges ≤ 99980001 ∧ a.warn ≤ 30

/-- The accounts of both lanes balance. -/
def Safety.AccountsBalanced (s : State) : Prop := ∀ l, Safety.AccountBalanced (s.acct l)

/-- A rate entry in range: its per-game price is at most 9,999 (R139), and an absent one keeps nothing of its other fields
(R139, R143). -/
def Safety.RateSound (v : RateEntry) : Prop := v.perGame ≤ 9999 ∧ (v.present = false → v = RateEntry.absent)

/-- R139, R146, R148: sixteen working and sixteen stored entries, each of them and the value being programmed in range, and an
entry of the sixteen being programmed. -/
def Safety.RatesSound (s : State) : Prop :=
  s.rates.working.length = 16 ∧ s.rates.store.length = 16 ∧ (∀ v ∈ s.rates.working, Safety.RateSound v) ∧
    (∀ x ∈ s.rates.store, Safety.RateSound x.value) ∧
    ∀ p ∈ s.rates.programming, p.entry < 16 ∧ Safety.RateSound p.value

/-- R93, R96: the two squads are current on different lanes, each lane's current squad is the one that stands there, and a
squad's home lane is the lane of its letter. -/
def Safety.SquadsPlaced (s : State) : Prop :=
  (∀ q, (s.squad q).home = q) ∧ (∀ q, (s.lane (s.squad q).current).squad = q) ∧
    (s.squad .a).current ≠ (s.squad .b).current

/-- R11: a bowling order holds at most eight bowlers. -/
def Safety.OrdersFit (s : State) : Prop := ∀ q, (s.squad q).order.length ≤ 8

/-- R105's table of return states, with R106, R110 and R112: what lift, queue, run-on and clearing fields go with each
state. -/
def Safety.MonitorSound (m : ReturnMonitor) : Prop :=
  m.queue.length ≤ 10 ∧
  match m.state with
  | .idle => m.lift = .off ∧ m.queue = [] ∧ m.ageBase = none ∧ m.runOn = false ∧ m.attempt = 0 ∧ m.phase = none ∧
      m.sensorFault = false
  | .carrying => m.lift = .forward ∧ (m.runOn = true ↔ m.queue = []) ∧ m.attempt = 0 ∧ m.phase = none ∧
      m.sensorFault = false
  | .clearing => m.queue ≠ [] ∧ m.runOn = false ∧ 1 ≤ m.attempt ∧ m.attempt ≤ 3 ∧ m.sensorFault = false ∧
      ((m.phase = some .reverse ∧ m.lift = .reverse) ∨ (m.phase = some .forward ∧ m.lift = .forward))
  | .jammed => m.lift = .off ∧ m.queue ≠ [] ∧ m.runOn = false ∧ m.attempt = 0 ∧ m.phase = none ∧ m.sensorFault = false
  | .fault => m.lift = .off ∧ m.queue.length = 10 ∧ m.runOn = false ∧ m.attempt = 0 ∧ m.phase = none ∧
      m.sensorFault = true
  | .off => m.lift = .off ∧ m.queue = [] ∧ m.ageBase = none ∧ m.runOn = false ∧ m.attempt = 0 ∧ m.phase = none ∧
      m.sensorFault = false

/-- The monitor is sound while the core runs; with the core stopped its record waits to be lost (R107, R120). -/
def Safety.ReturnSound (s : State) : Prop := coreOn s = true → Safety.MonitorSound s.ret

/-- R106: the return queue stands in the order of exit: none of its entries left its pit later than an entry behind it. -/
def Safety.QueueInOrder (s : State) : Prop :=
  s.ret.queue.Pairwise fun x y => ticksSince s.tick y.exitTime ≤ ticksSince s.tick x.exitTime

/-- R146: no stored rate entry's write count exceeds 32. -/
def Safety.StoreUnworn (s : State) : Prop := ∀ x ∈ s.rates.store, x.writes ≤ 32

/-- A notice set in READ_NOTICES' order (R188), which holds each notice at most once (R180). -/
def Safety.NoticesOrdered (ns : List Notice) : Prop := ns.Pairwise fun x y => x.code < y.code

/-- The notice sets of the three ports are ordered. -/
def Safety.NoticeSetsOrdered (s : State) : Prop := ∀ p, Safety.NoticesOrdered (s.port p).notices

/-- R180: a port's set holds only kinds routed to it; CORRECTED goes to the desk or the console (R92). -/
def Safety.NoticesRouted (s : State) : Prop :=
  ∀ p, ∀ n ∈ (s.port p).notices, receives p n.kind = true ∨ (n.kind = .corrected ∧ p ≠ .service)

/-- R170: retention cannot be lost while main is present. -/
def Safety.RetentionKept (s : State) : Prop := s.supply.state = .main → s.supply.retention = true

/-- R29, R25: a ball entry's leave after lies within its leave faced, and its count is the pins knocked down, 0 for a foul. -/
def Safety.EntrySound (e : BallEntry) : Prop :=
  leaveWithin e.after e.faced = true ∧ e.count = if e.foul then 0 else leaveSize e.faced - leaveSize e.after

/-- Every ball entry on every sheet is sound. -/
def Safety.EntriesSound (s : State) : Prop :=
  ∀ q, ∀ b ∈ (s.squad q).order, ∀ f ∈ b.sheet, ∀ e ∈ f.balls, Safety.EntrySound e

/-! ### The game in progress -/

/-- A bowler's sheet with its pending list: no frame holds a ball behind its complete balls (R27, R31 to R33); the pending
list holds the complete frames still owed balls, in frame order, at most two, and only the last of them is owed two (R26,
R36); and a total stands only on a complete frame owed nothing, after a total on every earlier frame (R37). -/
def Safety.SheetSound (b : Bowler) : Prop :=
  b.sheet.length = 10 ∧
  (∀ k, 1 ≤ k → k ≤ 10 → ∀ n, n < (frameAt b.sheet k).balls.length →
    ballsComplete k ((frameAt b.sheet k).balls.take n) = false) ∧
  b.pending.Pairwise (fun j k => j < k ∧ (frameAt b.sheet j).owed = 1) ∧ b.pending.length ≤ 2 ∧
  (∀ k, k ∈ b.pending ↔ 1 ≤ k ∧ k ≤ 9 ∧ (frameAt b.sheet k).owed ≠ 0) ∧
  (∀ k, 1 ≤ k → k ≤ 10 → (frameAt b.sheet k).owed ≠ 0 →
    frameComplete b.sheet k = true ∧ (frameAt b.sheet k).owed ≤ owedWhenComplete k (frameAt b.sheet k).balls) ∧
  ∀ k, 1 ≤ k → k ≤ 10 → (frameAt b.sheet k).total ≠ none →
    frameComplete b.sheet k = true ∧ (frameAt b.sheet k).owed = 0 ∧
      ∀ j, 1 ≤ j → j < k → (frameAt b.sheet j).total ≠ none

/-- How many frame rounds of its game a squad has completed (R96). -/
def Safety.roundsDone (v : Squad) : Nat :=
  match v.state with
  | .forming => 0
  | .bowling => v.round - 1
  | .swapWait => v.round
  | .gameDone => 10

/-- A squad record: every bowler's sheet is sound; the current bowler is ACTIVE, bowls, and is at the ball after those of the
frame in play (R12, R20); in a game no sheet runs ahead of the frame round, every ACTIVE bowler's frames of completed rounds
are complete, and no ACTIVE bowler but the current one is within a frame (R20, R24). -/
def Safety.SquadSound (v : Squad) : Prop :=
  1 ≤ v.round ∧ v.round ≤ 10 ∧ (v.state = .swapWait → v.round ≤ 9) ∧ (v.state = .gameDone → v.round = 10) ∧
  (∀ b ∈ v.order, Safety.SheetSound b) ∧
  (v.state ≠ .bowling → v.slot = none) ∧
  (∀ n ∈ v.slot, ∃ b ∈ bowlerAt v.order n, b.status = .active ∧ frameComplete b.sheet v.round = false ∧
    v.ball = (frameAt b.sheet v.round).balls.length + 1) ∧
  (v.inGame = true → ∀ b ∈ v.order,
    (∀ k, v.round < k → k ≤ 10 → (frameAt b.sheet k).balls = []) ∧
    (b.status = .active → ∀ k, 1 ≤ k → k ≤ Safety.roundsDone v → frameComplete b.sheet k = true)) ∧
  (v.state = .bowling → ∀ i, ∀ b ∈ bowlerAt v.order i, b.status = .active → v.slot ≠ some i →
    (frameAt b.sheet v.round).balls = [] ∨ frameComplete b.sheet v.round = true)

/-- R86: a lane's reopen mark, while the lane is not CLOSING, names an ACTIVE bowler of the squad that bowls there and a
one-ball strike of the frame round in play, 1 to 9, with no ball of the round yet bowled by the current bowler. -/
def Safety.MarkSound (s : State) (l : Lane) : Prop :=
  (s.lane l).state ≠ .closing → ∀ m ∈ (s.lane l).reopen,
    let v := s.squad m.squad
    v.current = l ∧ v.state = .bowling ∧ m.frame = v.round ∧ v.round ≤ 9 ∧
    (∃ b ∈ bowlerAt v.order m.slot, b.status = .active ∧ (frameAt b.sheet v.round).balls.length = 1 ∧
      firstIsStrike (frameAt b.sheet v.round).balls = true) ∧
    ∀ c ∈ v.currentBowler, (frameAt c.sheet v.round).balls = []

/-- R31, R34, R63: while a lane plays, its Next Deck leave is what the current bowler's next ball faces: a full rack for a first
ball, and with no current bowler. -/
def Safety.DeckFollows (s : State) (l : Lane) : Prop :=
  (s.lane l).state.plays = true →
    (s.sup l).nextDeck = match (s.squadOn l).currentBowler with
      | some b => nextLeave (s.squadOn l).round (frameAt b.sheet (s.squadOn l).round).balls
      | none => fullRack

/-- The games in progress: a lane plays exactly while its current squad is in a game (R3, R17); in SINGLE, and between games,
each squad stands at home and waits for no other (R93, R100); a closing cycle runs in a CLOSING lane only (R158); in CROSS both squads are in a game or neither is, at the same
frame round, not both waiting, and so their completed rounds differ by at most one (R96, R98). -/
def Safety.GamesSound (s : State) : Prop :=
  Safety.SquadsPlaced s ∧ (∀ q, Safety.SquadSound (s.squad q)) ∧ (∀ l, Safety.MarkSound s l) ∧
  (∀ l, Safety.DeckFollows s l) ∧
  (∀ l, (s.lane l).state.plays = (s.squadOn l).inGame) ∧
  (∀ l, ∀ c ∈ (s.sup l).cycleRec, c.purpose = .close → (s.lane l).state = .closing) ∧
  (s.pairMode = .single → ∀ q, (s.squad q).current = q ∧ (s.squad q).state ≠ .swapWait ∧ (s.squad q).state ≠ .gameDone) ∧
  (∀ q, (s.squad q).state = .forming → (s.squad q).current = q) ∧
  (s.pairMode = .cross →
    (s.squad .a).inGame = (s.squad .b).inGame ∧
    ((s.squad .a).inGame = true → (s.squad .a).round = (s.squad .b).round ∧
      ((s.squad .a).state = .bowling ∨ (s.squad .b).state = .bowling) ∧
      Safety.roundsDone (s.squad .a) ≤ Safety.roundsDone (s.squad .b) + 1 ∧
      Safety.roundsDone (s.squad .b) ≤ Safety.roundsDone (s.squad .a) + 1))

/-- A safe state: every standing condition holds. -/
def Safety.Safe (s : State) : Prop :=
  Safety.ArmedReady s ∧ Safety.ClosedUnheld s ∧ Safety.AccountsBalanced s ∧ Safety.RatesSound s ∧
    Safety.SquadsPlaced s ∧ Safety.OrdersFit s ∧ Safety.ReturnSound s ∧ Safety.QueueInOrder s ∧ Safety.StoreUnworn s ∧
    Safety.NoticeSetsOrdered s ∧ Safety.NoticesRouted s ∧ Safety.RetentionKept s ∧ Safety.EntriesSound s ∧
    Safety.GamesSound s

/-! ### Sheets -/

/-- R24, R31 to R33: the balls of frame `k` are ones that play can leave there. -/
def Safety.FrameLegal (k : Nat) (balls : List BallEntry) : Prop :=
  (∀ e ∈ balls, Safety.EntrySound e) ∧
    if k ≤ 9 then balls.length ≤ 2 ∧ countSum balls ≤ 10 ∧ (firstIsStrike balls = true → balls.length = 1)
    else balls.length ≤ 3 ∧ (balls.length = 3 → thirdAllowed balls = true)

/-- A sheet that play can leave: ten frames, complete up to some frame, legal in each, and unbowled after the frame in play. -/
def Safety.SheetLegal (sheet : List FrameRec) : Prop :=
  sheet.length = 10 ∧ (∀ k, 1 ≤ k → k ≤ 10 → Safety.FrameLegal k (frameAt sheet k).balls) ∧
    ∃ n, 1 ≤ n ∧ n ≤ 10 ∧ (∀ k, 1 ≤ k → k < n → frameComplete sheet k = true) ∧
      ∀ k, n < k → k ≤ 10 → (frameAt sheet k).balls = []

/-- The counts of the balls bowled after frame `k`, in order. -/
def Safety.countsAfter (sheet : List FrameRec) (k : Nat) : List Nat :=
  (sheet.drop k).flatMap fun f => f.balls.map (·.count)

/-- What a frame scores in bowling (R31, R32, R35, R36): its own pins and, once it is complete, the next two balls for a strike
and the next ball for a spare of frames 1 to 9. -/
def Safety.bowlingBonus (sheet : List FrameRec) (k : Nat) : Nat :=
  if frameComplete sheet k then
    ((Safety.countsAfter sheet k).take (owedWhenComplete k (frameAt sheet k).balls)).sum
  else 0

/-- The balls that a frame still waits for (R36). -/
def Safety.stillOwed (sheet : List FrameRec) (k : Nat) : Nat :=
  if frameComplete sheet k then owedWhenComplete k (frameAt sheet k).balls - (Safety.countsAfter sheet k).length else 0

/-- R37: frame `k` is final when its own balls and those of every earlier frame are complete and none of them is owed a ball. -/
def Safety.finalFrame (sheet : List FrameRec) (k : Nat) : Bool :=
  (List.range k).all fun i => frameComplete sheet (i + 1) && Safety.stillOwed sheet (i + 1) == 0

/-- The running score through frame `k`. -/
def Safety.runningScore (sheet : List FrameRec) (k : Nat) : Nat :=
  ((List.range k).map fun i => countSum (frameAt sheet (i + 1)).balls + Safety.bowlingBonus sheet (i + 1)).sum

/-! ### Splits -/

/-- R39's table: pins `i + 1` and `j + 1` are adjacent. -/
def Safety.Adjacent (i j : Nat) : Prop :=
  (i, j) ∈ [(0, 1), (0, 2), (1, 0), (1, 2), (1, 3), (1, 4), (2, 0), (2, 1), (2, 4), (2, 5), (3, 1), (3, 4), (3, 6), (3, 7),
    (4, 1), (4, 2), (4, 3), (4, 5), (4, 7), (4, 8), (5, 2), (5, 4), (5, 8), (5, 9), (6, 3), (6, 7), (7, 3), (7, 4), (7, 6),
    (7, 8), (8, 4), (8, 5), (8, 7), (8, 9), (9, 5), (9, 8)]

/-- R39, condition 5: every pin of the leave can be reached from every other by steps between adjacent pins of the leave. -/
def Safety.Connected (l : Leave) : Prop :=
  ∀ i j, l.getLsbD i = true → l.getLsbD j = true →
    Relation.ReflTransGen (fun x y => Safety.Adjacent x y ∧ l.getLsbD y = true) i j

/-! ### The layouts of the replies (R186 to R188) -/

/-- Bytes stand in a body at the offsets a table gives. -/
def Safety.StandAt (body : List Byte) (table : List (Nat × List Byte)) : Prop :=
  ∀ x ∈ table, (body.drop x.1).take x.2.length = x.2

/-- The lane record's five bytes (R186): lane state, hold set (bit 0 DESK to bit 8 SERVICE), current squad, flags. -/
def Safety.laneRecord (r : LaneRec) : List Byte :=
  let h := r.holds
  [BitVec.ofNat 8 (laneStateCode r.state), BitVec.ofNat 8 h.service.toNat,
    BitVec.ofNat 8 (h.desk.toNat + 2 * h.credit.toNat + 4 * h.time.toNat + 8 * h.ret.toNat + 16 * h.machine.toNat
      + 32 * h.entry.toNat + 64 * h.swap.toNat + 128 * h.power.toNat),
    BitVec.ofNat 8 (sideCode r.squad), BitVec.ofNat 8 (r.foulDetect.toNat + 2 * r.latchedFault.toNat)]

/-- A frame record's bytes (R186), with its balls and their marks. -/
def Safety.frameRecord (k : Nat) (f : FrameRec) : List Byte :=
  [BitVec.ofNat 8 f.balls.length, BitVec.ofNat 8 f.base, BitVec.ofNat 8 f.bonus, BitVec.ofNat 8 f.owed] ++ opt2 f.total ++
    (f.balls.zip (marksOf k f.balls)).flatMap fun x =>
      [BitVec.ofNat 8 x.1.count] ++ be2 x.1.faced.toNat ++ be2 x.1.after.toNat ++
      [BitVec.ofNat 8 (x.1.foul.toNat + 2 * x.1.split.toNat + 4 * x.1.mismatch.toNat +
        8 * (match x.1.source with | .sensed => 0 | .entered => 1 | .corrected => 2)), x.2]

/-- READ_SHEET's two kinds of part stand as R186 gives them. -/
def Safety.SheetLayout : Prop :=
  ∀ (s : State) (l : Lane),
    let r := s.lane l
    let q := s.squadOn l
    Safety.StandAt (sheetReply s l 0) [(0, be2 r.serial), (2, [0#8]), (3, Safety.laneRecord r),
      (8, be1 (pairModeCode s.pairMode)), (9, be1 (sideCode r.squad)), (10, be1 (sideCode q.home)),
      (11, be1 (sideCode q.current)), (12, be1 (squadStateCode q.state)), (13, be1 q.round), (14, be1 (q.slot.getD 0)),
      (15, be1 q.ball), (16, be1 q.game), (17, be1 (match q.games with | .count n => n | .continuous => 0)),
      (18, be1 q.order.length)] ∧
    (∀ i x, q.order[i]? = some x → Safety.StandAt ((sheetReply s l 0).drop (19 + 22 * i)) [
      (0, (x.name ++ List.replicate 12 0#8).take 12), (12, opt1 x.handicap), (13, opt2 x.blind),
      (15, be1 (bowlerStatusCode x.status)), (16, be1 x.charged.toNat), (17, be1 x.completed),
      (18, opt2 (x.last.map (·.plain))), (20, opt2 (x.last.map (·.handicapped)))]) ∧
    ∀ k, 1 ≤ k →
      (bowlerAt q.order k = none → sheetReply s l k = be2 r.serial ++ be1 k ++ [0#8]) ∧
      ∀ b ∈ bowlerAt q.order k, b.sheet.length = 10 →
        sheetReply s l k = be2 r.serial ++ be1 k ++ be1 k ++
          ((List.range 10).flatMap fun i => Safety.frameRecord (i + 1) (frameAt b.sheet (i + 1))) ++
          be1 b.pending.length ++ b.pending.flatMap fun n => be1 n ++ be1 (frameAt b.sheet n).owed

/-- READ_ACCOUNT and READ_SESSION stand as R187 gives them. -/
def Safety.AccountLayout : Prop :=
  (∀ (s : State) (l : Lane),
    let r := s.lane l
    let a := r.acct
    let v := s.rates.working.getD s.rates.inEffect .absent
    Safety.StandAt (accountReply s l) [(0, Safety.laneRecord r), (5, be1 (accountModeCode a.mode)), (6, be1 a.gameCredit),
      (7, be2 a.creditsLoaded), (9, be2 a.creditsTaken), (11, be2 a.timeCredit), (13, be4 a.minutesLoaded),
      (17, be4 a.minutesMetered), (21, be1 a.phase), (22, be4 a.centMinutes), (26, be4 a.gameCharges), (30, be1 a.warn),
      (31, be1 (a.warned.toNat + 2 * (meterRunning r).toNat + 4 * (chargeSaturated a).toNat)),
      (32, readingBytes a.openTime), (36, be4 (timePart a)), (40, be4 (sessionCharge a)), (44, be1 s.rates.inEffect),
      (45, be2 v.perGame), (47, be4 v.perHour)]) ∧
  ∀ m : Summary, Safety.StandAt (summaryBytes m) [(0, be1 (sideCode m.lane)), (1, be1 (accountModeCode m.mode)),
    (2, readingBytes m.openTime), (6, readingBytes m.closeTime), (10, be2 m.creditsLoaded), (12, be2 m.creditsTaken),
    (14, be1 m.creditsRemaining), (15, be4 m.minutesLoaded), (19, be4 m.minutesMetered), (23, be2 m.timeRemaining),
    (25, be4 m.gameCharges), (29, be4 m.timePart), (33, be4 m.total), (37, be1 m.saturated.toNat)]

/-- A rate entry's twelve bytes (R188); an absent one is zeros. -/
def Safety.rateRecord (v : RateEntry) : List Byte :=
  if v.present = true then
    [0x80#8, BitVec.ofNat 8 ((v.weekdays.map BitVec.toNat).getD 0)] ++ be2 v.start ++ be2 v.stop ++ be2 v.perGame ++ be4 v.perHour
  else List.replicate 12 0#8

/-- RATE_READ's two copies and READ_NOTICES stand as R188 gives them. -/
def Safety.RateAndNoticeLayout : Prop :=
  (∀ (s : State), s.rates.working.length = 16 → Safety.StandAt (workingReply s) [(192, be1 s.rates.inEffect),
    (193, be1 s.clock.valid.toNat), (194, opt1 (s.rates.programming.map (·.entry)))]) ∧
  (∀ (s : State) (n : Nat),
    (∀ v, s.rates.working[n]? = some v → Safety.StandAt (workingReply s) [(12 * n, Safety.rateRecord v)]) ∧
    ∀ x, s.rates.store[n]? = some x → Safety.StandAt (storedReply s) [(14 * n, be1 (storeStateCode x.state)),
      (14 * n + 1, be1 x.writes),
      (14 * n + 2, if x.state = .good then Safety.rateRecord x.value else List.replicate 12 0#8)]) ∧
  ∀ v : PortState,
    Safety.StandAt (noticesReply v) [(0, be4 v.mask.toNat), (4, be1 (match v.mode with | .level => 0 | .pulse => 1)),
      (5, be1 v.notices.length)] ∧
    ∀ i n, v.notices[i]? = some n → Safety.StandAt (noticesReply v) [(6 + 2 * i, be1 n.kind.code ++ be1 n.scope.code)]

/-- READ_MACHINE in the order of R74: a record that may be absent is a byte 0, or a byte 1 and its fields (log entry 11);
whether a cycle has latched is 1 for yes (log entry 47). -/
def Safety.MachineLayout : Prop :=
  ∀ (s : State) (l : Lane),
    let r := s.lane l
    let u := r.sup
    let k := u.counters
    let counter := fun (c : Counter) => be1 c.value ++ be1 c.full.toNat
    machineReply s l =
      be1 (cycleStateCode u.cycle) ++ be1 (powerCode u.power) ++
      be2 u.nextDeck.toNat ++ opt2 (u.latched.map BitVec.toNat) ++ be1 u.stale.toNat ++
      (match u.delivery with
        | none => [0#8]
        | some d => [1#8] ++ be1 d.foul.toNat ++ be1 d.attempt ++ opt2 d.pendingFault) ++
      (match u.cycleRec with
        | none => [0#8]
        | some c => [1#8] ++ be1 (purposeCode c.purpose) ++ be1 (cycleKindCode c.kind) ++ be1 c.attempt ++ be1 c.latched.toNat) ++
      (match u.lastFault with
        | none => [0xFF#8, 0xFF#8, 0xFF#8]
        | some (.message code) => [0#8] ++ be2 code
        | some .watchdog => [1#8, 0xFF#8, 0xFF#8]
        | some .warmUp => [2#8, 0xFF#8, 0xFF#8]) ++
      be1 u.timing.settle ++ be1 u.timing.watchdog ++ be1 u.timing.warmUp ++ be1 u.timing.idle ++
      be4 k.cycles ++ be4 k.sinceService ++ counter k.timeout ++ counter k.fault ++ counter k.deckFail ++ counter k.mismatch ++
      be1 r.latchedFault.toNat ++ be4 u.maintInterval ++ be1 u.maintDue.toNat

/-- CLOCK_READ in the order of R164 and R167, and READ_SUPPLY in the order of R172 (log entry 11): crystal RUNNING is 0 and
STOPPED 1, and a reading of zeros is an absent one. -/
def Safety.ClockAndSupplyLayout : Prop :=
  (∀ c : Clock, clockBytes c =
    be1 c.weekday ++ be1 c.hour ++ be1 c.minute ++ be1 c.second ++ be1 c.valid.toNat ++ be1 (!c.crystal).toNat) ∧
  ∀ s : State, supplyReply s =
    be1 (supplyStateCode s.supply.state) ++ be1 s.supply.batteryLow.toNat ++ be1 (startKindCode s.supply.lastStart) ++
    be2 s.supply.failures ++
    (match s.supply.lastFailure with
      | none => [0#8, 0#8, 0#8, 0#8]
      | some x => be1 x.weekday ++ be1 x.hour ++ be1 x.minute ++ be1 x.second) ++ clockBytes s.clock

/-- READ_RETURN in the order of R119 (log entry 11), each ball of the queue with its age since its exit in ticks; the run-on
is 1 for running (log entry 47). -/
def Safety.ReturnLayout : Prop :=
  ∀ s : State,
    let m := s.ret
    returnReply s =
      be1 (returnStateCode m.state) ++ [if m.sensorFault = true then 0#8 else 0xFF#8] ++
      be1 m.queue.length ++
      (m.queue.flatMap fun x => be1 (sideCode x.origin) ++
        be2 (min 65535 ((s.tick + (4294967296 - x.exitTime % 4294967296)) % 4294967296))) ++
      be1 m.attempt ++
      (match m.phase with
        | none => [0xFF#8]
        | some p => be1 (clearPhaseCode p)) ++
      be1 (liftCode m.lift) ++ be1 m.runOn.toNat ++ be1 m.limit ++ be1 m.jam.value ++ be1 m.jam.full.toNat ++ be1 m.stray.toNat

/-- R185: an enumeration is coded by the place of its value in the list that its owning rule gives (R1, R11, R12, R25, R48,
R62, R93, R105, R121, R146, R153, R168, R172, R178, R180, R182). -/
def Safety.EnumerationCodes : Prop :=
  (∀ x, laneStateCode x = [LaneState.closed, .opened, .playing, .grace, .closing].idxOf x) ∧
  (∀ x, sideCode x = [Side.a, .b].idxOf x) ∧
  (∀ x, squadStateCode x = [SquadState.forming, .bowling, .swapWait, .gameDone].idxOf x) ∧
  (∀ x, bowlerStatusCode x = [BowlerStatus.active, .absent, .waiting].idxOf x) ∧
  (∀ x, sourceCode x = [Source.sensed, .entered, .corrected].idxOf x) ∧
  (∀ x, pairModeCode x = [PairMode.single, .cross].idxOf x) ∧
  (∀ x, accountModeCode x = [AccountMode.game, .time].idxOf x) ∧
  (∀ x, cycleStateCode x =
    [CycleState.parked, .gated, .armed, .ballIn, .reading, .entry, .cycling, .fault, .recover].idxOf x) ∧
  (∀ x, powerCode x = [Power.off, .standby, .warming, .running].idxOf x) ∧
  (∀ x, purposeCode x = [Purpose.delivery, .align, .resetDeck, .recovery, .close, .test].idxOf x) ∧
  (∀ x, cycleKindCode x = [CycleKind.respot, .reset].idxOf x) ∧
  (∀ x, returnStateCode x = [ReturnState.idle, .carrying, .clearing, .jammed, .fault, .off].idxOf x) ∧
  (∀ x, clearPhaseCode x = [ClearPhase.reverse, .forward].idxOf x) ∧
  (∀ x, liftCode x = [Lift.off, .forward, .reverse].idxOf x) ∧
  (∀ x, storeStateCode x = [StoreState.blank, .good, .compromised].idxOf x) ∧
  (∀ x, supplyStateCode x = [SupplyState.main, .backup].idxOf x) ∧
  (∀ x, startKindCode x = [StartKind.cold, .mainReturn, .resetInput].idxOf x) ∧
  (∀ x, statusCode x = [Status.ok, .limited, .busy, .denied, .state, .range, .stale, .shape, .full, .absent, .mode, .key,
    .keyLost, .worn, .storeBusy, .length].idxOf x) ∧
  (∀ x : NoticeKind, x.code = [NoticeKind.ball, .frame, .game, .dead, .staleDeck, .entry, .fault, .maint, .returnJam,
    .returnOk, .creditOut, .creditShort, .timeWarn, .timeOut, .closed, .corrected, .rateChange, .clock, .power,
    .battery].idxOf x) ∧
  ∀ x : Scope, x.code = [Scope.a, .b, .pair].idxOf x

/-! ### Requests that a port takes -/

/-- A request frame of `len` body bytes that port `p` takes (R174 to R178): the core runs, a desk frame carries the pair's own
address, the port holds no request, and the body has the length its fields give. -/
def Safety.Taken (e : Envelope) (p : Port) (len : Nat) (s : State) : Prop :=
  coreOn s = true ∧ e.port = p ∧ e.bodyLen = len ∧ portFree s p = true ∧
    (p = .desk → e.address ≠ 0 ∧ e.address = s.address)

/-- The state in which a request's own part runs (R176, R178): port `e.port` holds the request in execution, and a console
request has HOLD asserted. -/
def Safety.heard (e : Envelope) (code : Byte) (s : State) : State :=
  match e.port with
  | .desk => { s with desk := { s.desk with request := some { code := code, tag := e.tag } } }
  | .console =>
      { s with console := { s.console with request := some { code := code, tag := e.tag }, phase := .executing } }
  | .service => { s with service := { s.service with request := some { code := code, tag := e.tag } } }

/-- The state after a request's own part with its reply put behind the replies already waiting on its port (R178). -/
def Safety.replied (e : Envelope) (code : Byte) (status : Status) (body : List Byte) (s : State) : State :=
  let r : Reply := { code := code, tag := e.tag, status := status, body := body, own := true }
  match e.port with
  | .desk => { s with desk := { s.desk with outgoing := s.desk.outgoing ++ [r] } }
  | .console => { s with console := { s.console with outgoing := s.console.outgoing ++ [r] } }
  | .service => { s with service := { s.service with outgoing := s.service.outgoing ++ [r] } }

/-- Command `c`, taken from port `e.port` in state `s`, completes with the state `t` of its own part, which the event's end
then settles (R155, R186), and with a reply: `t` is the state before the reply is queued. -/
def Safety.Completes (c : Instr) (e : Envelope) (code : Byte) (s : State) (status : Status) (body : List Byte) (t : State) :
    Prop :=
  exec c s = .next (settle s (Safety.replied e code status body t))

/-- Command `c` is refused in state `s` with a status, and changes nothing but its port. -/
def Safety.Refuses (c : Instr) (e : Envelope) (code : Byte) (s : State) (status : Status) : Prop :=
  exec c s = .next (settle s (Safety.replied e code status [] (Safety.heard e code s)))

/-- Event `c` completes in state `s` with the state `t`, which the event's end then settles. -/
def Safety.Does (c : Instr) (s t : State) : Prop := exec c s = .next (settle s t)

end Sys2Proof
end

