-- ==== Sys2Proof/Certificates/Slice0/Obligations.lean ====
section
/-! DEFINITION. The statements made about the LB2410. A request that a port takes is written `Safety.Taken`, the state in which its
own part runs `Safety.heard`, its completion `Safety.Completes` and its refusal `Safety.Refuses`; an event completes as
`Safety.Does` says. All are equations about `exec`, so that each statement fixes the whole next state, frame and all. -/

open Sys2Proof Sys2Proof.Machine
/-! ### The machine as a whole -/

/-- One step takes the command at the front of the queue and runs it on the state with the queue's rest. -/
def Obligations.StepRunsFrontCommand : Prop :=
  ∀ (c : Instr) (rest : List Instr) (s : State), step { s with pending := c :: rest } = exec c { s with pending := rest }

/-- The model's choice (log entry 2): on an empty queue a step is one core tick of 10 ms while the core runs, and nothing
while it does not. The tick count wraps (R105), the running seconds of running meters grow (R127, R128), and a console
reply that is there becomes ready (R176). -/
def Obligations.EmptyQueueIsOneCoreTick : Prop :=
  ∀ s : State, s.pending = [] →
    step s = .next (if coreOn s = true then
      { s with
        tick := (s.tick + 1) % 4294967296
        lanes :=
          { a := { s.lanes.a with
              runTicks := if meterRunning s.lanes.a then min 99 (s.lanes.a.runTicks + 1) else s.lanes.a.runTicks }
            b := { s.lanes.b with
              runTicks := if meterRunning s.lanes.b then min 99 (s.lanes.b.runTicks + 1) else s.lanes.b.runTicks } }
        console := { s.console with
          phase := if s.console.phase = .executing ∧ s.console.outgoing ≠ [] then .replyReady else s.console.phase } }
      else s)

/-- Every command completes in every state: exec never faults and never refuses, and it leaves the queue, the strap
lines and the free values it does not take as they were (a command takes at most one). The spec gives every row of the
table an effect, or none, in every state; the queue is the model's own (log entry 1), and the free value is the fault
code that a warm-up expiry does not state (log entry 5). -/
def Obligations.EveryCommandCompletes : Prop :=
  ∀ (c : Instr) (s : State), ∃ t, exec c s = .next t ∧ t.pending = s.pending ∧ t.straps = s.straps ∧
    (t.free = s.free ∨ (t.free = s.free + 1 ∧ ∃ l, c = .warmUpExpiry l))

/-- What the events that end in `settle` end with, which are the requests and the events of the ports, machines,
sensors, key and timers while the core runs (R155, R186); a start of the core and the clock's and supply's own events
end by their own rules. On each lane the idle standby timer starts when the machine is RUNNING, the supervisor ARMED or
GATED and the setting not 0, and stops otherwise; the sheet serial rises by 1, from 65,535 to 0, when what READ_SHEET
reports for the lane changed, and only then (log entry 26). That a setting of 0 stops a timer that runs at once, and a
setting taken from 0 starts it, is log entry 48. Nothing else changes. -/
def Obligations.EventEndTimersAndSerials : Prop :=
  ∀ s t : State, ∃ u : State, settle s t = u ∧
    u = { t with lanes := u.lanes } ∧
    ∀ l, u.lane l =
      { t.lane l with
        sup := { (t.lane l).sup with
          idleTimer :=
            if (t.sup l).power = .running ∧ ((t.sup l).cycle = .armed ∨ (t.sup l).cycle = .gated) ∧ (t.sup l).timing.idle ≠ 0
            then (if (t.sup l).idleTimer = none then some { startedAt := t.tick, length := 6000 * (t.sup l).timing.idle }
                  else (t.sup l).idleTimer)
            else none }
        serial :=
          if (s.lane l).state = (t.lane l).state ∧ (s.lane l).holds = (t.lane l).holds ∧
              (s.lane l).squad = (t.lane l).squad ∧ (s.lane l).foulDetect = (t.lane l).foulDetect ∧
              (s.lane l).latchedFault = (t.lane l).latchedFault ∧ s.pairMode = t.pairMode ∧ s.squadOn l = t.squadOn l
          then (t.lane l).serial else ((t.lane l).serial + 1) % 65536 }

/-- The commands that a stopped core still feels (R164, R165, R168 to R171): the clock's and the supply's. That every
other command is without effect also while the external reset input is asserted, a second assertion of it among them, is
log entries 7 and 24. -/
def Obligations.StoppedCoreHearsNothing : Prop :=
  ∀ (c : Instr) (s : State), coreOn s = false →
    c ∉ [Instr.clockSecond, .crystalStop, .crystalRestart, .mainFailure, .mainReturn, .retentionLoss, .batteryLowSet,
      .batteryLowClear, .externalResetRelease] →
    exec c s = .next s

/-! ### How a request is heard (chapter 11) -/

/-- R178, R179: a request from a port not named for it is refused DENIED, and one allowed there whose body length does
not fit its fields LENGTH; nothing but the port changes. A code that names no request is named for no port, so DENIED is
what it always gets. The lengths of OPEN_LANE and MARK_PRESENT are log entries 13 and 14. -/
def Obligations.RequestTurnedAway : Prop :=
  ∀ (c : Instr) (r : RequestRow) (s : State), c.requestRow = some r →
    Safety.Taken r.envelope r.envelope.port r.envelope.bodyLen s →
    (r.envelope.port ∉ r.ports → Safety.Refuses c r.envelope r.code s .denied) ∧
    (r.envelope.port ∈ r.ports → r.envelope.bodyLen ≠ r.length → Safety.Refuses c r.envelope r.code s .length) ∧
    (∀ e code, c = .unknownRequestCode e code → Safety.Refuses c e code s .denied)

/-- R174 to R176, R178: frames that are not taken. On the desk line a frame for another pair, a broadcast of a request
that is not RATE_SET, RATE_CLEAR or CLOCK_SET, and a broadcast of the wrong length have no effect. On a port that holds
a request, the desk and service ports answer it BUSY and take no part of it: that reply goes before the earlier
request's own reply, which follows it, but never before a reply whose bytes are being sent (log entry 46). On the
console port the frame is discarded, and under HOLD the reply to come becomes BUSY, while over a ready reply the rise of
SELECT that ends the frame ends the reply. -/
def Obligations.FramesNotTaken : Prop :=
  (∀ (c : Instr) (r : RequestRow) (s : State), c.requestRow = some r → coreOn s = true →
    (r.envelope.port = .desk → r.envelope.address ≠ 0 ∧ r.envelope.address = s.address) →
    (let p := r.envelope.port
     let v := s.port p
     let busy : Reply := { code := r.code, tag := r.envelope.tag, status := .busy, body := [], own := false }
     p ≠ .console → v.request ≠ none → ∀ xs ys, v.outgoing = xs ++ ys →
      (∀ x ∈ (if v.transmitting = true then xs.tail else xs), x.own = false) → (∀ y ∈ ys.head?, y.own = true) →
      (v.transmitting = true → xs ≠ [] ∨ ys = []) →
      exec c s = .next (settle s (s.setPort p { v with outgoing := xs ++ [busy] ++ ys }))) ∧
    (r.envelope.port = .console → s.console.phase = .executing →
      exec c s = .next (settle s { s with
        console := { s.console with outgoing := s.console.outgoing.map fun x => { x with status := .busy, body := [] } } })) ∧
    (r.envelope.port = .console → s.console.phase = .replyReady →
      exec c s = .next (settle s { s with console := { s.console with request := none, outgoing := [], phase := .free } }))) ∧
  ∀ (c : Instr) (r : RequestRow) (s : State), c.requestRow = some r → coreOn s = true → r.envelope.port = .desk →
    ((r.envelope.address ≠ 0 ∧ r.envelope.address ≠ s.address) ∨
      (r.envelope.address = 0 ∧ (r.broadcast = false ∨ r.envelope.bodyLen ≠ r.length))) →
    exec c s = .next (settle s s)

/-- R174, R184, R185, R188: a port's receiver finds a frame whatever comes before its sync, that is no sync itself, and
after its check. A well-formed request whose body has the length of its row is spelled by a frame, and that frame on its
port spells the request again, every field with it. A RATE_STORE's key level is no field of the frame. Every frame
spells a request, with its own code, address, tag and length, so that R178 has an answer to each. The layouts rest on
log entries 11, 13 and 14, MARK_PRESENT's last two bytes on log entry 45, the bytes behind a frame on log entry 44, a
selector byte that names neither value on log entry 28, and the key on log entry 37. -/
def Obligations.RequestFramesRoundTrip : Prop :=
  (∀ (before after : List Byte) (f : Frame), syncByte ∉ before → f.body.length ≤ 248 →
    receiveFrame (before ++ f.bytes ++ after) = some f) ∧
  (∀ (c : Instr) (r : RequestRow) (key : Bool), c.requestRow = some r → c.wellFormed = true →
    (r.ports ≠ [] → r.envelope.bodyLen = r.length) → (∀ e n v k, c = .rateStore e n v k → k = key) →
    ∃ f, encodeFrame c = some f ∧ f.body.length = r.envelope.bodyLen ∧ decodeFrame r.envelope.port key f = some c) ∧
  ∀ (p : Port) (key : Bool) (f : Frame), ∃ c r, decodeFrame p key f = some c ∧ c.requestRow = some r ∧ r.code = f.code ∧
    r.envelope = { port := p, address := f.address.toNat, tag := f.tag, bodyLen := f.body.length }

/-! ### After reset -/

/-- What the first power-up leaves (R22, R23, R75, R93, R105, R120, R136, R138, R139, R152, R163, R164, R170, R172, R183,
R186): the values the spec gives. The strap lines, the crystal and battery detectors and the key are inputs, which the
model chooses (log entry 3). -/
def Obligations.FirstPowerUpValues : Prop :=
  (∀ l, (State.reset.lane l).state = .closed ∧ (State.reset.lane l).holds = HoldSet.none ∧ (State.reset.lane l).squad = l ∧
    (State.reset.lane l).foulDetect = true ∧ (State.reset.lane l).latchedFault = false ∧
    (State.reset.lane l).reopen = none ∧ (State.reset.lane l).serial = 0 ∧ (State.reset.lane l).summary = none ∧
    (State.reset.acct l = { mode := .game, gameCredit := 0, creditsLoaded := 0, creditsTaken := 0, timeCredit := 0,
                             minutesLoaded := 0, minutesMetered := 0, phase := 0, centMinutes := 0, gameCharges := 0,
                             warn := 5, warned := false, openTime := none }) ∧
    (State.reset.sup l).cycle = .parked ∧ (State.reset.sup l).power = .standby ∧ (State.reset.sup l).nextDeck = fullRack ∧
    (State.reset.sup l).latched = none ∧ (State.reset.sup l).stale = false ∧ (State.reset.sup l).foulPending = false ∧
    (State.reset.sup l).delivery = none ∧ (State.reset.sup l).cycleRec = none ∧ (State.reset.sup l).lastFault = none ∧
    (State.reset.sup l).timing = { settle := 20, watchdog := 12, warmUp := 20, idle := 10 } ∧
    (State.reset.sup l).settleTimer = none ∧ (State.reset.sup l).deckTimer = none ∧
    (State.reset.sup l).watchdogTimer = none ∧ (State.reset.sup l).warmUpTimer = none ∧
    (State.reset.sup l).idleTimer = none ∧ (State.reset.sup l).testMark = false ∧
    (State.reset.sup l).counters = ⟨0, 0, ⟨0, false⟩, ⟨0, false⟩, ⟨0, false⟩, ⟨0, false⟩⟩ ∧
    (State.reset.sup l).maintInterval = 0 ∧ (State.reset.sup l).maintDue = false) ∧
  State.reset.pairMode = .single ∧
  (∀ q, State.reset.squad q =
    { home := q, current := q, state := .forming, round := 1, slot := none, ball := 1, game := 1, games := .count 1,
      order := [] }) ∧
  (State.reset.ret = { state := .idle, sensorFault := false, queue := [], ageBase := none, runOn := false, attempt := 0,
                        phase := none, lift := .off, limit := 20, jam := ⟨0, false⟩, stray := false }) ∧
  State.reset.rates.working.length = 16 ∧
  (∀ n, State.reset.rates.working[n]? = if n = 0 then
      some { present := true, weekdays := none, start := 0, stop := 0, perGame := 0, perHour := 0 }
    else if n < 16 then some .absent else none) ∧
  State.reset.rates.inEffect = 0 ∧ State.reset.rates.programming = none ∧
  (∀ x ∈ State.reset.rates.store, x.state = .blank ∧ x.writes = 0) ∧ State.reset.rates.store.length = 16 ∧
  State.reset.clock.weekday = 1 ∧ State.reset.clock.hour = 0 ∧ State.reset.clock.minute = 0 ∧
  State.reset.clock.second = 0 ∧ State.reset.clock.valid = false ∧
  State.reset.supply.state = .main ∧ State.reset.supply.retention = true ∧ State.reset.supply.lastStart = .cold ∧
  State.reset.supply.failures = 0 ∧ State.reset.supply.lastFailure = none ∧
  (∀ p, (State.reset.port p).request = none ∧ (State.reset.port p).outgoing = [] ∧ (State.reset.port p).phase = .free ∧
    (State.reset.port p).mask = BitVec.allOnes 20 ∧ (State.reset.port p).mode = .level ∧
    attentionLine State.reset p = true) ∧
  State.reset.desk.notices = [{ kind := .clock, scope := .pair }, { kind := .power, scope := .pair }] ∧
  State.reset.console.notices = [{ kind := .power, scope := .pair }] ∧
  State.reset.service.notices = [{ kind := .power, scope := .pair }] ∧
  State.reset.tick = 0 ∧ State.reset.pending = []

/-- The state after the first power-up is safe. -/
def Obligations.FirstPowerUpIsSafe : Prop := Safety.Safe State.reset

/-! ### What every step keeps -/

/-- R51: a lane's supervisor is ARMED only while the lane is PLAYING or GRACE, its hold set empty and its machine RUNNING.
-/
def Obligations.StepKeepsArmedReady : Prop :=
  ∀ s t : State, Safety.ArmedReady s → step s = .next t → Safety.ArmedReady t

/-- R5, R6: the hold set of a CLOSED lane is empty. R11: no bowling order holds more than eight bowlers. R93, R96: the two
squads stand on different lanes, lanes and squads agree on who stands where, and a squad's home lane is the lane of
its letter. R170: retention is not lost with main present. R146: no write count exceeds 32, and no step lowers one or
drops an entry. -/
def Obligations.StepKeepsRecords : Prop :=
  ∀ s t : State, step s = .next t →
    (Safety.ClosedUnheld s → Safety.ClosedUnheld t) ∧ (Safety.OrdersFit s → Safety.OrdersFit t) ∧
    (Safety.SquadsPlaced s → Safety.SquadsPlaced t) ∧ (Safety.RetentionKept s → Safety.RetentionKept t) ∧
    (Safety.StoreUnworn s → Safety.StoreUnworn t) ∧ t.rates.store.length = s.rates.store.length ∧
    ∀ (n : Nat) (x y : StoredEntry), s.rates.store[n]? = some x → t.rates.store[n]? = some y → x.writes ≤ y.writes

/-- R124, R128: credits loaded equal game credit plus credits taken, minutes loaded equal time credit plus minutes
metered, and each count stays in the range of R121, game charges of at most 99,980,001 and a warn threshold of at most
30 among them; R132: in GAME mode the cent-minute sum is 0. The premise on the rates, that no per-game price exceeds
9,999 (R139) and that an absent entry keeps nothing of its other fields, is an invariant stated here beside it. -/
def Obligations.StepKeepsAccountsBalanced : Prop :=
  ∀ s t : State, Safety.AccountsBalanced s → Safety.RatesSound s → step s = .next t →
    Safety.AccountsBalanced t ∧ Safety.RatesSound t

/-- R105, R106, R107: while the core runs, the lift, the queue of at most ten balls, the run-on and the clearing fields
go with the return state. R106: the queue stands in the order of exit: a step takes the head away, or puts an exit of
this moment at the tail, or empties the queue, or leaves it; and by the times it holds, no entry is later than one
behind it, as long as no entry has waited the whole 4,294,967,296 ticks of the count. -/
def Obligations.StepKeepsReturnSound : Prop :=
  ∀ s t : State, step s = .next t →
    (Safety.ReturnSound s → Safety.ReturnSound t) ∧
    (t.ret.queue = s.ret.queue ∨ t.ret.queue = s.ret.queue.tail ∨ t.ret.queue = [] ∨
      ∃ l, t.ret.queue = s.ret.queue ++ [{ origin := l, exitTime := s.tick }]) ∧
    (Safety.QueueInOrder s → (∀ x ∈ s.ret.queue, ticksSince s.tick x.exitTime ≠ 4294967295) → Safety.QueueInOrder t)

/-- R180, R188: every port's notice set holds each notice once, in the order READ_NOTICES gives, and only kinds routed to
the port (CORRECTED to the desk or the console, R92). -/
def Obligations.StepKeepsNoticeSets : Prop :=
  ∀ s t : State, step s = .next t →
    (Safety.NoticeSetsOrdered s → Safety.NoticeSetsOrdered t) ∧ (Safety.NoticesRouted s → Safety.NoticesRouted t)

/-- R25, R29, R30: on every sheet, each ball entry's leave after lies within its leave faced, and its count is the number
of pins it knocked down, or 0 for a foul. -/
def Obligations.StepKeepsEntriesSound : Prop :=
  ∀ s t : State, Safety.EntriesSound s → step s = .next t → Safety.EntriesSound t

/-- R20, R26, R27, R31 to R34, R36, R37, R63, R86, R93, R96: the games in progress stay sound. On every sheet no ball stands
behind a frame's complete balls, the pending list holds the complete frames still owed, at most two and in frame order,
and a total stands only after one on every earlier frame. A lane plays exactly while its squad is in a game; its Next Deck
is what the current bowler's next ball faces, a full rack for a first ball; the current bowler is ACTIVE and at the right
ball of an incomplete frame of the round, and nobody else is within a frame; a reopen mark names a one-ball strike of that
round. In CROSS the two squads' completed rounds differ by at most one. The premise on the ball entries is what
`StepKeepsEntriesSound` says every step keeps. -/
def Obligations.StepKeepsGamesSound : Prop :=
  ∀ s t : State, Safety.GamesSound s → Safety.EntriesSound s → step s = .next t → Safety.GamesSound t

/-! ### Operations that the commands share -/

/-- R6 to R8: what a reason entering a hold set does. A CLOSED lane, and a set that holds the reason, stay as they are;
otherwise the set holds that reason too and no other change, and an ARMED supervisor goes to GATED with a foul pending
dropped. What a reason leaving it does: a set that does not hold it stays; otherwise it holds the others, and when
none is left a GATED supervisor takes the arming decision. -/
def Obligations.HoldSetChanges : Prop :=
  ∀ (l : Lane) (h : Hold) (s : State),
    ((s.lane l).state = .closed ∨ (s.lane l).holds.has h = true → addHold l h s = s) ∧
    ((s.lane l).state ≠ .closed → (s.lane l).holds.has h = false →
      ∃ hs : HoldSet, (∀ r, hs.has r = (decide (r = h) || (s.lane l).holds.has r)) ∧
        addHold l h s = s.setLane l { s.lane l with
          holds := hs
          sup := if (s.sup l).cycle = .armed then { s.sup l with cycle := .gated, foulPending := false } else s.sup l }) ∧
    ((s.lane l).holds.has h = false → removeHold l h s = s) ∧
    ((s.lane l).holds.has h = true →
      ∃ hs : HoldSet, (∀ r, hs.has r = (!decide (r = h) && (s.lane l).holds.has r)) ∧
        removeHold l h s =
          if hs = HoldSet.none ∧ (s.sup l).cycle = .gated then arm l (s.setLane l { s.lane l with holds := hs })
          else s.setLane l { s.lane l with holds := hs })

/-- R51, R54, R124: the arming decision. With a condition of 1 to 4 failing, GATED and no credit attempt. With a credit
needed, it is taken from the account of the squad's home lane at the price in effect and the bowler's flag is set, or
CREDIT is added and CREDIT_OUT raised for that lane and the supervisor is GATED. With all holding, ARMED and the lane's
reopen mark absent, or the alignment cycle when nothing is latched. R52, R55: where the decision is taken again, it is
in GATED and ARMED only, and a change of the current bowler drops a foul pending first (log entry 38). -/
def Obligations.ArmingDecision : Prop :=
  ∀ (l : Lane) (s : State),
    let r := s.lane l
    let q := s.squad r.squad
    let home := s.lane q.home
    let ready := (r.state = .playing ∨ r.state = .grace) ∧ q.slot ≠ none ∧ r.sup.power = .running ∧ r.holds = HoldSet.none
    let needs := home.acct.mode = .game ∧ q.round = 1 ∧ q.ball = 1 ∧ ∃ b ∈ q.currentBowler, b.charged = false
    let arms := fun t : State =>
      if (t.sup l).latched = none then issueCycle l .align .reset none t
      else t.setLane l { t.lane l with reopen := none, sup := { t.sup l with cycle := .armed } }
    (¬ready → arm l s = s.setLane l { r with sup := { r.sup with cycle := .gated, foulPending := false } }) ∧
    (ready → ¬needs → arm l s = arms s) ∧
    (ready → needs → home.acct.gameCredit = 0 → arm l s =
      gate l (raiseNotice .creditOut (scopeOfLane q.home) (addHold q.home .credit s))) ∧
    (ready → needs → home.acct.gameCredit ≠ 0 →
      ∃ n ∈ q.slot, ∃ b ∈ bowlerAt q.order n, arm l s =
        arms ((s.setLane q.home { home with acct := { home.acct with
            gameCredit := home.acct.gameCredit - 1
            creditsTaken := home.acct.creditsTaken + 1
            gameCharges := home.acct.gameCharges + (s.rates.working.getD s.rates.inEffect .absent).perGame } }).setSquad r.squad
          { q with order := q.order.set (n - 1) { b with charged := true } })) ∧
    decide52 l s = (if r.sup.cycle = .gated ∨ r.sup.cycle = .armed then arm l s else s) ∧
    bowlerChanged l s = (if r.sup.cycle = .gated ∨ r.sup.cycle = .armed then
      arm l (s.setLane l { r with sup := { r.sup with foulPending := false } }) else s)

/-- R180, R182: a notice raised enters the set of each port its kind is routed to, and no other; a set that holds each
notice once, in the order of READ_NOTICES, still does. In PULSE mode a masked-in notice that was not held starts a
pulse. Nothing else changes. -/
def Obligations.NoticeRouting : Prop :=
  (∀ (k : NoticeKind) (sc : Scope) (s : State),
    ∃ d c v, raiseNotice k sc s = { s with desk := d, console := c, service := v } ∧
      ∀ p, ∃ ns pulse, (raiseNotice k sc s).port p = { s.port p with notices := ns, pulse := pulse } ∧
        (Safety.NoticesOrdered (s.port p).notices → Safety.NoticesOrdered ns) ∧
        (∀ n, n ∈ ns ↔ n ∈ (s.port p).notices ∨ (receives p k = true ∧ n = { kind := k, scope := sc })) ∧
        (pulse = true ↔ (s.port p).pulse = true ∨
          ((s.port p).mode = .pulse ∧ receives p k = true ∧ { kind := k, scope := sc } ∉ (s.port p).notices ∧
            (s.port p).mask.getLsbD k.code = true))) ∧
  (∀ k, receives .desk k = true ↔
    k ∈ [NoticeKind.game, .fault, .returnJam, .creditOut, .creditShort, .timeWarn, .timeOut, .closed, .rateChange, .clock,
      .power, .battery]) ∧
  (∀ k, receives .console k = true ↔
    k ∈ [NoticeKind.ball, .frame, .game, .dead, .staleDeck, .entry, .fault, .returnJam, .returnOk, .creditOut, .creditShort,
      .timeWarn, .timeOut, .power]) ∧
  (∀ k, receives .service k = true ↔
    k ∈ [NoticeKind.dead, .staleDeck, .fault, .maint, .returnJam, .returnOk, .power, .battery])

/-- R62, R71, R154: a cycle issued; a wake; and what entering RECOVER does at each machine power state. R5, R23, R136,
R153, R159: parking leaves the supervisor PARKED with its delivery, cycle, deck and test dropped and a machine WARMING
or RUNNING powered down, the lane CLOSED with no hold, its account and squad cleared, and the latched-fault flag set
only from a fault. -/
def Obligations.SupervisorOperations : Prop :=
  (∀ (l : Lane) (s : State),
    (∀ p k x, issueCycle l p k x s = s.setLane l { s.lane l with sup := { s.sup l with
      cycle := if p = .recovery then .recover else .cycling
      foulPending := false
      cycleRec := some { purpose := p, kind := k, picked := x, attempt := 1, latched := false }
      watchdogTimer := some { startedAt := s.tick, length := 100 * (s.sup l).timing.watchdog }
      link := (s.sup l).link ++ [.cycle k] } }) ∧
    wake l s = (if (s.sup l).power = .standby then
        s.setLane l { s.lane l with sup := { s.sup l with
          power := .warming
          warmUpTimer := some { startedAt := s.tick, length := 100 * (s.sup l).timing.warmUp }
          link := (s.sup l).link ++ [.powerOn] } }
      else s) ∧
    (let t := s.setLane l { s.lane l with sup := { s.sup l with cycle := .recover, foulPending := false } }
     enterRecover l s =
      match (s.sup l).power with
      | .running => issueCycle l .recovery .reset none t
      | .standby => wake l t
      | .warming => t
      | .off => if (s.lane l).state = .closing then park l false t else t)) ∧
  ∀ (l : Lane) (faulted : Bool) (s : State),
    let r := s.lane l
    let q := s.squad r.squad
    let on := r.sup.power = .warming ∨ r.sup.power = .running
    park l faulted s =
      (s.setLane l { r with
        state := .closed
        holds := HoldSet.none
        latchedFault := r.latchedFault || faulted
        reopen := none
        acct := { mode := .game, gameCredit := 0, creditsLoaded := 0, creditsTaken := 0, timeCredit := 0,
                  minutesLoaded := 0, minutesMetered := 0, phase := 0, centMinutes := 0, gameCharges := 0, warn := 5,
                  warned := false, openTime := none }
        runTicks := 0
        sup := { r.sup with
          cycle := .parked
          latched := none
          stale := false
          foulPending := false
          delivery := none
          cycleRec := none
          settleTimer := none
          deckTimer := none
          watchdogTimer := none
          idleTimer := none
          testMark := false
          power := if on then .standby else r.sup.power
          warmUpTimer := if on then none else r.sup.warmUpTimer
          link := if on then r.sup.link ++ [.powerOff] else r.sup.link } }).setSquad r.squad
        { q with state := .forming, round := 1, slot := none, ball := 1, game := 1, games := .count 1, order := [] }

/-! ### Scoring (chapters 1, 2 and 5) -/

/-- R28 to R30, R40, R86: a ball recorded for the current bowler. The supplied leave is clamped to the leave faced; the
count is the pins knocked down, 0 for a foul; the entry goes on the bowler's sheet with the bonus step; a clamped
sensed ball raises the mismatch counter; BALL is raised. Within the frame the ball number rises and the next leave is
the Next Deck; otherwise the lane's reopen mark is set by a strike that leaves the round open, and the next bowler is
chosen. -/
def Obligations.BallRecorded : Prop :=
  ∀ (l : Lane) (leave : Leave) (foul : Bool) (src : Source) (s : State),
    let q := s.squadOn l
    ∀ n ∈ q.slot, ∀ b ∈ bowlerAt q.order n,
    let faced := (s.sup l).nextDeck
    let after := leave &&& faced
    let e : BallEntry := { count := if foul then 0 else leaveSize faced - leaveSize after, faced := faced, after := after, foul := foul,
                           split := splitMark q.round q.ball faced after foul, source := src, mismatch := decide (after ≠ leave) }
    let scored := scoreBall q.round e b.sheet b.pending
    let balls := (frameAt scored.1 q.round).balls
    let t0 := s.setSquad (s.lane l).squad { q with order := q.order.set (n - 1) { b with sheet := scored.1, pending := scored.2 } }
    let c := (s.sup l).counters
    let t := if src = .sensed ∧ after ≠ leave then
        t0.setLane l { s.lane l with sup := { s.sup l with counters := { c with mismatch :=
          { value := min 255 (c.mismatch.value + 1), full := c.mismatch.full || decide (254 ≤ c.mismatch.value) } } } }
      else t0
    (ballsComplete q.round balls = false →
        recordBall l leave foul src s =
          (raiseNotice .ball (scopeOfLane l) ((t.setLane l { t.lane l with
            reopen := none
            sup := { t.sup l with nextDeck := nextLeave q.round balls } }).setSquad (s.lane l).squad
              { t.squadOn l with ball := q.ball + 1 }), { after := after, sameFrame := true })) ∧
    (ballsComplete q.round balls = true →
        recordBall l leave foul src s =
          (raiseNotice .ball (scopeOfLane l) (chooseNext (s.lane l).squad l (t.setLane l { t.lane l with
            reopen := if q.round ≤ 9 ∧ firstIsStrike balls = true ∧
                (∃ x ∈ (t.squadOn l).order, x.status = .active ∧ frameComplete x.sheet q.round = false) then
              some { squad := (s.lane l).squad, slot := n, frame := q.round } else none })), { after := after, sameFrame := false }))

/-- R36, R37, R38: the steps of a record. Every frame on the pending list, each of them once and none of them the frame
in play, gets the count as bonus and is owed one ball less; frames owed nothing leave the list; the frame in play takes
the ball, and joins the list at its tail when it is complete with balls owed; frames become final in order, each with
the total of the frame before it and its own base and bonus. R27, R31 to R35: when a frame's balls are complete, when
frame 10 is allowed a ball 3, what a complete frame is owed, and the leave its next ball faces; that leave after two
balls of frame 10 that allow no third is log entry 39. -/
def Obligations.BonusStep : Prop :=
  (∀ (k : Nat) (e : BallEntry) (sheet : List FrameRec) (pending : List Nat),
    sheet.length = 10 → 1 ≤ k → k ≤ 10 → pending.Nodup → (∀ j ∈ pending, 1 ≤ j ∧ j ≤ 10 ∧ j ≠ k) →
    let r := scoreBall k e sheet pending
    let balls := (frameAt sheet k).balls ++ [e]
    let owes := if ballsComplete k balls = true then owedWhenComplete k balls else (frameAt sheet k).owed
    r.1.length = 10 ∧
    (∀ j, 1 ≤ j → j ≤ 10 → j ≠ k →
      (frameAt r.1 j).balls = (frameAt sheet j).balls ∧ (frameAt r.1 j).base = (frameAt sheet j).base ∧
      (frameAt r.1 j).bonus = (frameAt sheet j).bonus + (if j ∈ pending then e.count else 0) ∧
      (frameAt r.1 j).owed = (frameAt sheet j).owed - (if j ∈ pending then 1 else 0)) ∧
    ((frameAt r.1 k).balls = balls ∧ (frameAt r.1 k).base = countSum balls ∧
      (frameAt r.1 k).bonus = (frameAt sheet k).bonus ∧ (frameAt r.1 k).owed = owes) ∧
    r.2 = pending.filter (fun j => decide (1 < (frameAt sheet j).owed)) ++
      (if ballsComplete k balls = true ∧ owes ≠ 0 then [k] else []) ∧
    (∀ j, 1 ≤ j → j ≤ 10 → (frameAt r.1 j).total =
      match (frameAt sheet j).total with
      | some n => some n
      | none =>
          if (∀ i, 1 ≤ i → i ≤ j → (frameAt sheet i).total = none →
              frameComplete r.1 i = true ∧ (frameAt r.1 i).owed = 0) then
            some ((if j = 1 then 0 else ((frameAt r.1 (j - 1)).total).getD 0) + (frameAt r.1 j).base + (frameAt r.1 j).bonus)
          else none)) ∧
  ∀ (k : Nat) (balls : List BallEntry),
    let strike := fun e : BallEntry => e.count = 10 ∧ e.foul = false
    let opens := ∃ e ∈ balls.head?, strike e
    let third := opens ∨ ((balls.take 2).map (·.count)).sum = 10
    let faces := fun e : BallEntry => if e.foul = true then e.faced else e.after
    (thirdAllowed balls = true ↔ third) ∧
    (k ≤ 9 → (ballsComplete k balls = true ↔ opens ∨ 2 ≤ balls.length) ∧
      owedWhenComplete k balls = (if opens then 2 else if (balls.map (·.count)).sum = 10 then 1 else 0)) ∧
    (10 ≤ k → (ballsComplete k balls = true ↔ 3 ≤ balls.length ∨ (balls.length = 2 ∧ ¬third)) ∧
      owedWhenComplete k balls = 0) ∧
    nextLeave k [] = fullRack ∧
    (∀ e, nextLeave k [e] = if 10 ≤ k ∧ strike e then fullRack else faces e) ∧
    (10 ≤ k → ∀ e f, nextLeave k [e, f] = if strike e ∧ ¬strike f then faces f else fullRack)

/-- R45 rests on this: rebuilding a sheet with one more ball on its last frame is recording that ball on the rebuilt
sheet. The ball's count and split mark are the derived ones, and the frames behind it are unbowled. -/
def Obligations.RebuildIsRecording : Prop :=
  ∀ (sheet : List FrameRec) (k : Nat) (e : BallEntry),
    sheet.length = 10 → 1 ≤ k → k ≤ 10 → (∀ j, k < j → j ≤ 10 → (frameAt sheet j).balls = []) →
    e = makeEntry k ((frameAt sheet k).balls.length + 1) e.faced e.after e.foul e.source e.mismatch →
    rebuild (sheet.set (k - 1) { frameAt sheet k with balls := (frameAt sheet k).balls ++ [e] }) =
      scoreBall k e (rebuild sheet).1 (rebuild sheet).2

/-- R36, R37, R42, R45: on a sheet that play can leave, the rebuild scores bowling. Each frame's base is its own pins, its
bonus is the next balls it was owed and got, its owed value is what it still waits for; a frame has a running score
exactly when it and every earlier frame are complete and owed nothing, and that score is the sum of their pins and
bonuses; the pending list is the frames that still wait, in order, at most two. -/
def Obligations.RebuiltSheetScoresBowling : Prop :=
  ∀ sheet, Safety.SheetLegal sheet →
    (rebuild sheet).1.length = 10 ∧
    (∀ k, 1 ≤ k → k ≤ 10 →
      ((frameAt (rebuild sheet).1 k).balls.map fun e => (e.count, e.faced, e.after, e.foul)) =
        (frameAt sheet k).balls.map (fun e => (e.count, e.faced, e.after, e.foul)) ∧
      (frameAt (rebuild sheet).1 k).base = countSum (frameAt sheet k).balls ∧
      (frameAt (rebuild sheet).1 k).bonus = Safety.bowlingBonus sheet k ∧
      (frameAt (rebuild sheet).1 k).owed = Safety.stillOwed sheet k ∧
      (frameAt (rebuild sheet).1 k).total =
        if Safety.finalFrame sheet k = true then some (Safety.runningScore sheet k) else none) ∧
    (rebuild sheet).2 = ((List.range 10).map (· + 1)).filter (fun k => decide (Safety.stillOwed sheet k ≠ 0)) ∧
    (rebuild sheet).2.length ≤ 2

/-- R39: an entry's split mark is set exactly when the five conditions hold, with the adjacency of the rule's table. The
mark changes neither the entry's count nor what a record does to bases, bonuses, owed balls, totals and the pending
list. -/
def Obligations.SplitMark : Prop :=
  (∀ (k n : Nat) (faced after : Leave) (foul : Bool) (src : Source) (mismatch : Bool),
    (makeEntry k n faced after foul src mismatch).split = true ↔
      ((k ≤ 9 ∧ n = 1) ∨ (k = 10 ∧ faced = fullRack)) ∧ foul = false ∧ after.getLsbD 0 = false ∧
        (∃ i j, i ≠ j ∧ after.getLsbD i = true ∧ after.getLsbD j = true) ∧ ¬Safety.Connected after) ∧
  ∀ (k : Nat) (e : BallEntry) (sheet : List FrameRec) (pending : List Nat) (mark : Bool),
    let scores := fun (x : BallEntry) => (scoreBall k x sheet pending).1.map fun f => (f.base, f.bonus, f.owed, f.total)
    scores { e with split := mark } = scores e ∧
      (scoreBall k { e with split := mark } sheet pending).2 = (scoreBall k e sheet pending).2

/-- R41: the score mark of each ball of a frame, from the entry and the mark of the ball before it. -/
def Obligations.ScoreMarks : Prop :=
  ∀ (k : Nat) (balls : List BallEntry), (∀ e ∈ balls, e.count ≤ 10) →
    (marksOf k balls).length = balls.length ∧
    ∀ (i : Nat) (e : BallEntry) (m : Byte), balls[i]? = some e → (marksOf k balls)[i]? = some m →
      let first := i = 0 ∨ (k = 10 ∧ ((marksOf k balls)[i - 1]? = some 0x58#8 ∨ (marksOf k balls)[i - 1]? = some 0x2F#8))
      (e.foul = true → m = 0x46#8) ∧
      (e.foul = false → e.count = 10 → first → m = 0x58#8) ∧
      (e.foul = false → ¬first → e.after = clearDeck → m = 0x2F#8) ∧
      (e.foul = false → ¬(e.count = 10 ∧ first) → ¬(¬first ∧ e.after = clearDeck) → e.count = 0 → m = 0x2D#8) ∧
      (e.foul = false → ¬(e.count = 10 ∧ first) → ¬(¬first ∧ e.after = clearDeck) → e.count ≠ 0 →
        m = BitVec.ofNat 8 (0x30 + e.count))

/-- R19, R20, R21: rotation in SINGLE. The next bowler is the first ACTIVE one whose sheet lacks the frame, on ball 1 with
a full rack; when there is none, FRAME is raised, GRACE gets the TIME hold, and the next round starts, or after round
10 the game ends. -/
def Obligations.RotationInSingle : Prop :=
  ∀ (q : SquadId) (l : Lane) (s : State),
    let v := s.squad q
    let lacks := fun b : Bowler => b.status = .active ∧ frameComplete b.sheet v.round = false
    let rack := s.setLane l { s.lane l with sup := { s.sup l with nextDeck := fullRack } }
    (∀ i b, v.order[i]? = some b → lacks b → (∀ j c, j < i → v.order[j]? = some c → ¬lacks c) →
      chooseNext q l s = rack.setSquad q { v with slot := some (i + 1), ball := 1 }) ∧
    ((∀ b ∈ v.order, ¬lacks b) → s.pairMode = .single →
      let t0 := raiseNotice .frame (scopeOfLane l) rack
      let t := if (s.lane l).state = .grace then addHold l .time t0 else t0
      (v.round < 10 → chooseNext q l s = t.setSquad q { v with
        state := .bowling, round := v.round + 1, ball := 1, slot := firstActive v.order }) ∧
      (10 ≤ v.round → chooseNext q l s = afterGame q l (raiseNotice .game (scopeOfLane l) (t.setSquad q { v with
        order := (v.order.map completeGame).map convertWaiting }))))

/-- R19, R21, R42 to R44, R125: the end of a squad's game on its lane. Totals are stored for ACTIVE and ABSENT bowlers.
A new game starts at once in PLAYING with games left and an ACTIVE bowler, on fresh sheets, with CREDIT_SHORT for a
GAME-mode lane short of credit; otherwise the squad is FORMING and the lane OPEN. That a FORMING squad keeps its round
and ball number is log entry 35. -/
def Obligations.GameEnd : Prop :=
  (∀ b : Bowler, completeGame b = match b.status with
    | .waiting => b
    | .absent => { b with completed := min 255 (b.completed + 1), last := some {
        plain := b.blind.getD 0, handicapped := b.blind.getD 0 + b.handicap.getD 0 } }
    | .active => { b with completed := min 255 (b.completed + 1), last := some {
        plain := (frameAt b.sheet 10).total.getD 0
        handicapped := (frameAt b.sheet 10).total.getD 0 + b.handicap.getD 0 } }) ∧
  (∀ b : Bowler, convertWaiting b = { b with status :=
    if b.status = .waiting then (if b.blind = none then .active else .absent) else b.status }) ∧
  (∀ (q : SquadId) (l : Lane) (s : State),
    let v := s.squad q
    let goesOn := (s.lane l).state = .playing ∧ (∀ n, v.games = .count n → v.game < n) ∧ ∃ b ∈ v.order, b.status = .active
    (¬goesOn → afterGame q l s =
      (s.setSquad q { v with state := .forming, slot := none }).setLane l { s.lane l with state := .opened }) ∧
    (goesOn → v.current = l →
      let fresh := fun b : Bowler => { convertWaiting b with sheet := emptySheet, pending := [], charged := false }
      let t := (s.setSquad q { v with
          state := .bowling, round := 1, ball := 1, game := min 255 (v.game + 1), order := v.order.map fresh
          slot := firstActive (v.order.map fresh) }).setLane l
        { s.lane l with reopen := none, sup := { s.sup l with nextDeck := fullRack } }
      afterGame q l s =
        if (s.acct l).mode = .game ∧ (s.acct l).gameCredit < activeCount (v.order.map fresh) then
          raiseNotice .creditShort (scopeOfLane l) t
        else t))

/-- R96 to R100: a frame round completed in CROSS. The squad waits with SWAP on its lane, or, when the other squad waits
at the same round, the two exchange lanes, both stand at the next round with full racks, and both decisions are taken;
after round 10 totals are stored, and the squad is GAME_DONE and held, or the pair's game ends. R100: at that end both
squads are home with their WAITING bowlers converted, SWAP and the reopen marks gone; with games left to the squad that
ended it and an ACTIVE bowler in each, both start a new game on fresh sheets, with CREDIT_SHORT for a lane short of
credit, and otherwise both are FORMING and both lanes OPEN; then both decisions are taken (R52). That a FORMING squad keeps
its round and ball number is log entry 35. -/
def Obligations.RoundEndInCross : Prop :=
  (∀ (q : SquadId) (l : Lane) (s : State), s.pairMode = .cross →
    let v := s.squad q
    let o := s.squad q.other
    let t := reportRound l (raiseNotice .frame (scopeOfLane l) s)
    (v.round < 10 → ¬(o.state = .swapWait ∧ o.round = v.round) → roundDone q l s =
      addHold l .swap (t.setSquad q { v with state := .swapWait, ball := 1, slot := none })) ∧
    (v.round < 10 → o.state = .swapWait → o.round = v.round →
      let next := fun (w : Squad) =>
        { w with current := w.current.other, state := .bowling, round := v.round + 1, ball := 1, slot := firstActive w.order }
      let moved := fun (k : Lane) => { t.lane k with
        squad := (t.lane k).squad.other
        holds := (t.lane k).holds.put .swap false
        reopen := none
        sup := { t.sup k with nextDeck := fullRack } }
      roundDone q l s = bothChanged { t with
        squads := { a := next (s.squad .a), b := next (s.squad .b) }
        lanes := { a := moved .a, b := moved .b } }) ∧
    (10 ≤ v.round →
      let u := raiseNotice .game (scopeOfLane l) (t.setSquad q { v with
        order := v.order.map completeGame, state := .gameDone, slot := none })
      roundDone q l s = if o.state = .gameDone then endPairGame q u else addHold l .swap u)) ∧
  (∀ s : State, bothChanged s = bowlerChanged .b (bowlerChanged .a s)) ∧
  ∀ (q : SquadId) (s : State), (∀ k, (s.squad k).home = k) →
    let v := s.squad q
    let home := fun k : SquadId => { s.squad k with current := k, order := (s.squad k).order.map convertWaiting }
    let lane := fun k : Lane => { s.lane k with squad := k, holds := { (s.lane k).holds with swap := false }, reopen := none }
    let goesOn := (∀ n, v.games = .count n → v.game < n) ∧ ∀ k : SquadId, ∃ b ∈ (home k).order, b.status = .active
    let fresh := fun b : Bowler => { convertWaiting b with sheet := emptySheet, pending := [], charged := false }
    (¬goesOn → endPairGame q s = bothChanged { s with
      squads := { a := { home .a with state := .forming, slot := none }, b := { home .b with state := .forming, slot := none } }
      lanes := { a := { lane .a with state := .opened }, b := { lane .b with state := .opened } } }) ∧
    (goesOn →
      let begun := fun k : SquadId => { home k with
        state := .bowling, round := 1, ball := 1, game := min 255 ((s.squad k).game + 1)
        order := (home k).order.map fresh, slot := firstActive ((home k).order.map fresh) }
      let racked := fun k : Lane => { lane k with sup := { s.sup k with nextDeck := fullRack } }
      let short := fun (k : Lane) (t : State) =>
        if (s.acct k).mode = .game ∧ (s.acct k).gameCredit < activeCount (begun k).order then
          raiseNotice .creditShort (scopeOfLane k) t
        else t
      endPairGame q s = bothChanged (short .b (short .a { s with
        squads := { a := begun .a, b := begun .b }, lanes := { a := racked .a, b := racked .b } })))

/-! ### Sessions and accounts (chapters 1 and 7) -/

/-- R2, R122: OPEN_LANE. A code that names no lane or no mode is RANGE, and a lane that is not CLOSED is STATE.
Otherwise the lane is OPEN with the account loaded and clamped, its hold set filled with what stands against it, the
latched-fault flag cleared into FAULT, a PARKED supervisor out of PARKED with a test that waits dropped, and a machine
in STANDBY woken; LIMITED when clamped. A code that names no lane or mode is RANGE by log entry 10, the two bytes of the
warn threshold are log entry 13, the bytes of the reply log entry 11, and the order of the account in it log entry 50.
-/
def Obligations.LaneOpening : Prop :=
  ∀ (e : Envelope) (l : Lane) (m : AccountMode) (credit : BitVec 16) (warn : Option (BitVec 16)) (bad : Byte) (mode : Coded AccountMode)
    (s : State), Safety.Taken e .desk 6 s →
    let h := Safety.heard e 1#8 s
    let r := h.lane l
    let w := (warn.map BitVec.toNat).getD 5
    let top := if m = .game then 99 else 720
    let n := min top credit.toNat
    let now := if s.clock.valid = true then
        some { weekday := s.clock.weekday, hour := s.clock.hour, minute := s.clock.minute, second := s.clock.second } else none
    let acct : Account :=
      { mode := m, gameCredit := if m = .game then n else 0, creditsLoaded := if m = .game then n else 0, creditsTaken := 0,
        timeCredit := if m = .time then n else 0, minutesLoaded := if m = .time then n else 0, minutesMetered := 0, phase := 0,
        centMinutes := 0, gameCharges := 0, warn := min 30 w, warned := false, openTime := now }
    let loaded := be1 (if m = .game then 0 else 1) ++ be1 acct.gameCredit ++ be2 acct.creditsLoaded ++ be2 0 ++ be2 acct.timeCredit ++
      be4 acct.minutesLoaded ++ be4 0 ++ be1 0 ++ be4 0 ++ be4 0 ++ be1 (min 30 w) ++ be1 0 ++
      (match now with
        | none => [0#8, 0#8, 0#8, 0#8]
        | some x => be1 x.weekday ++ be1 x.hour ++ be1 x.minute ++ be1 x.second)
    let holds := { HoldSet.none with
      machine := r.latchedFault
      service := decide (r.sup.power = .off)
      ret := decide (s.ret.state = .jammed ∨ s.ret.state = .fault)
      time := decide (m = .time ∧ n = 0) }
    let woken := r.sup.power = .standby
    let parked := r.sup.cycle = .parked
    Safety.Refuses (.openLane e (.bad bad) mode credit warn) e 1#8 s .range ∧
    Safety.Refuses (.openLane e (.val l) (.bad bad) credit warn) e 1#8 s .range ∧
    ((s.lane l).state ≠ .closed → Safety.Refuses (.openLane e (.val l) (.val m) credit warn) e 1#8 s .state) ∧
    ((s.lane l).state = .closed →
      Safety.Completes (.openLane e (.val l) (.val m) credit warn) e 1#8 s
        (if top < credit.toNat ∨ 30 < w then .limited else .ok) loaded
        (h.setLane l { r with
          state := .opened
          holds := holds
          latchedFault := false
          acct := acct
          runTicks := 0
          summary := none
          sup := { r.sup with
            cycle := if parked then (if r.latchedFault = true then .fault else .gated) else r.sup.cycle
            testMark := if parked then false else r.sup.testMark
            power := if woken then .warming else r.sup.power
            warmUpTimer := if woken then some { startedAt := s.tick, length := 100 * r.sup.timing.warmUp } else r.sup.warmUpTimer
            link := if woken then r.sup.link ++ [.powerOn] else r.sup.link } }))

/-- R5, R103, R135, R158: CLOSE_LANE, taken in OPEN, PLAYING and GRACE. The lane is CLOSING, the account is frozen into
the session summary and CLOSED raised, the squad's game is abandoned with a full rack written, and the close sequence
runs from the supervisor's cycle state; in CROSS the forced split comes first, and the other lane's decision last. A
code that names no lane is refused RANGE by log entry 10; in CROSS an ARMED other lane whose bowler stays keeps a foul
pending by log entry 30; and the squad of the abandoned game keeps its round and ball number by log entry 35. -/
def Obligations.LaneClosing : Prop :=
  (∀ (e : Envelope) (l : Lane) (bad : Byte) (s : State), Safety.Taken e .desk 1 s →
    let h := Safety.heard e 2#8 s
    let open' := (s.lane l).state = .opened ∨ (s.lane l).state = .playing ∨ (s.lane l).state = .grace
    let closed := fun t : State =>
      let a := t.acct l
      let g := a.mode = .game
      let now := if s.clock.valid = true then
          some { weekday := s.clock.weekday, hour := s.clock.hour, minute := s.clock.minute, second := s.clock.second }
        else none
      let summary : Summary :=
        { lane := l, mode := a.mode, openTime := a.openTime, closeTime := now
          creditsLoaded := if g then a.creditsLoaded else 0, creditsTaken := if g then a.creditsTaken else 0
          creditsRemaining := if g then a.gameCredit else 0, minutesLoaded := if g then 0 else a.minutesLoaded
          minutesMetered := if g then 0 else a.minutesMetered, timeRemaining := if g then 0 else a.timeCredit
          gameCharges := a.gameCharges, timePart := timePart a, total := sessionCharge a, saturated := chargeSaturated a }
      let q := t.squad (t.lane l).squad
      closeSequence l (raiseNotice .closed (scopeOfLane l) ((t.setLane l { t.lane l with
        state := .closing, summary := some summary, runTicks := 0, acct := { a with phase := 0 }
        sup := { t.sup l with nextDeck := fullRack } }).setSquad (t.lane l).squad { q with state := .forming, slot := none }))
    Safety.Refuses (.closeLane e (.bad bad)) e 2#8 s .range ∧
    (¬open' → Safety.Refuses (.closeLane e (.val l)) e 2#8 s .state) ∧
    (open' → Safety.Completes (.closeLane e (.val l)) e 2#8 s .ok []
      (if s.pairMode = .single then closed h
       else
        let t := closed (splitRecords h)
        if (t.sup l.other).cycle = .gated ∨ (t.sup l.other).cycle = .armed then arm l.other t else t))) ∧
  (∀ (l : Lane) (s : State),
    let u := s.sup l
    let t := s.setLane l { s.lane l with sup := { u with delivery := none, settleTimer := none, deckTimer := none } }
    let closing := if u.power = .running then issueCycle l .close .reset none t
      else if u.power = .off then park l false t else enterRecover l t
    closeSequence l s = match u.cycle with
      | .armed => park l false s
      | .gated => park l false s
      | .parked => park l false s
      | .ballIn => closing
      | .reading => closing
      | .entry => if (u.delivery.bind (·.pendingFault)).isSome = true then park l true s else closing
      | .cycling => s
      | .recover => if u.power = .off ∧ u.cycleRec = none then park l false s else s
      | .fault => park l true s)

/-- R9, R123, R126: PAUSE_LANE, RESUME_LANE, ADD_CREDIT and ADD_TIME. The amount added is capped by the credit and by
the session's load; credit brought up from 0 lets CREDIT go, time added lets TIME go and turns GRACE back to PLAYING.
The reply gives what was added and what is held at the end of the event (log entry 12). A code that names no lane is
refused RANGE by log entry 10. -/
def Obligations.PauseResumeAndCredit : Prop :=
  ∀ (e : Envelope) (l : Lane) (bad : Byte) (amount : BitVec 16) (s : State),
    let inSession := (s.lane l).state = .opened ∨ (s.lane l).state = .playing ∨ (s.lane l).state = .grace
    let a := s.acct l
    let n := amount.toNat
    (Safety.Taken e .desk 1 s →
      Safety.Refuses (.pauseLane e (.bad bad)) e 3#8 s .range ∧
      (¬inSession → Safety.Refuses (.pauseLane e (.val l)) e 3#8 s .state) ∧
      (inSession → Safety.Completes (.pauseLane e (.val l)) e 3#8 s .ok [] (addHold l .desk (Safety.heard e 3#8 s))) ∧
      ((s.lane l).state ≠ .closed → Safety.Completes (.resumeLane e (.val l)) e 4#8 s .ok []
        (removeHold l .desk (removeHold l .power (Safety.heard e 4#8 s))))) ∧
    (Safety.Taken e .console 1 s → (s.lane l).state ≠ .closed →
      Safety.Completes (.resumeLane e (.val l)) e 4#8 s .ok [] (removeHold l .power (Safety.heard e 4#8 s))) ∧
    (Safety.Taken e e.port 1 s → e.port ≠ .service →
      Safety.Refuses (.resumeLane e (.bad bad)) e 4#8 s .range ∧
      ((s.lane l).state = .closed → Safety.Refuses (.resumeLane e (.val l)) e 4#8 s .state)) ∧
    (Safety.Taken e .desk 3 s →
      let h5 := Safety.heard e 5#8 s
      let added := min n (min (99 - a.gameCredit) (9999 - a.creditsLoaded))
      let credited := h5.setLane l { h5.lane l with
        acct := { a with gameCredit := a.gameCredit + added, creditsLoaded := a.creditsLoaded + added } }
      let t := if a.gameCredit = 0 ∧ 1 ≤ added then removeHold l .credit credited else credited
      Safety.Refuses (.addCredit e (.bad bad) amount) e 5#8 s .range ∧
      (n = 0 → Safety.Refuses (.addCredit e (.val l) amount) e 5#8 s .range) ∧
      (n ≠ 0 → ¬inSession → Safety.Refuses (.addCredit e (.val l) amount) e 5#8 s .state) ∧
      (n ≠ 0 → inSession → a.mode = .time → Safety.Refuses (.addCredit e (.val l) amount) e 5#8 s .mode) ∧
      (n ≠ 0 → inSession → a.mode = .game →
        Safety.Completes (.addCredit e (.val l) amount) e 5#8 s (if added < n then .limited else .ok)
          [BitVec.ofNat 8 added, BitVec.ofNat 8 (t.acct l).gameCredit] t)) ∧
    (Safety.Taken e .desk 3 s →
      let h6 := Safety.heard e 6#8 s
      let added := min n (min (720 - a.timeCredit) (99999 - a.minutesLoaded))
      let credited := h6.setLane l { h6.lane l with
        state := if 1 ≤ added ∧ (s.lane l).state = .grace then .playing else (s.lane l).state
        acct := { a with
          timeCredit := a.timeCredit + added
          minutesLoaded := a.minutesLoaded + added
          warned := if 1 ≤ added ∧ a.warn < a.timeCredit + added then false else a.warned } }
      let t := if 1 ≤ added then removeHold l .time credited else credited
      Safety.Refuses (.addTime e (.bad bad) amount) e 6#8 s .range ∧
      (n = 0 → Safety.Refuses (.addTime e (.val l) amount) e 6#8 s .range) ∧
      (n ≠ 0 → ¬inSession → Safety.Refuses (.addTime e (.val l) amount) e 6#8 s .state) ∧
      (n ≠ 0 → inSession → a.mode = .game → Safety.Refuses (.addTime e (.val l) amount) e 6#8 s .mode) ∧
      (n ≠ 0 → inSession → a.mode = .time →
        Safety.Completes (.addTime e (.val l) amount) e 6#8 s (if added < n then .limited else .ok)
          (be2 added ++ be2 (t.acct l).timeCredit) t))

/-- R127 to R130: RUNNING_SECOND. The meter runs in TIME mode, OPEN or PLAYING, with time credit and none of DESK, RETURN,
MACHINE, POWER and SERVICE. Then the phase rises; the sixtieth second completes a lane-minute, priced per hour; at the
warning threshold TIME_WARN is raised once, and at 0 TIME_OUT, with GRACE for a PLAYING lane and the TIME hold
otherwise. A meter that stands changes nothing. -/
def Obligations.MeterSecond : Prop :=
  ∀ (l : Lane) (s : State), coreOn s = true →
    let r := s.lane l
    let a := r.acct
    let runs := a.mode = .time ∧ (r.state = .opened ∨ r.state = .playing) ∧ 1 ≤ a.timeCredit ∧ r.holds.desk = false ∧
      r.holds.ret = false ∧ r.holds.machine = false ∧ r.holds.power = false ∧ r.holds.service = false
    let left := a.timeCredit - 1
    let warns := 1 ≤ left ∧ left ≤ a.warn ∧ a.warned = false
    let t := s.setLane l { r with
      runTicks := 0
      acct := { a with
        phase := 0
        timeCredit := left
        minutesMetered := a.minutesMetered + 1
        centMinutes := min 599999999 (a.centMinutes + (s.rates.working.getD s.rates.inEffect .absent).perHour)
        warned := if warns then true else a.warned } }
    (¬runs → Safety.Does (.runningSecond l) s s) ∧
    (runs → a.phase + 1 < 60 →
      Safety.Does (.runningSecond l) s (s.setLane l { r with runTicks := 0, acct := { a with phase := a.phase + 1 } })) ∧
    (runs → 59 ≤ a.phase → left ≠ 0 →
      Safety.Does (.runningSecond l) s (if warns then raiseNotice .timeWarn (scopeOfLane l) t else t)) ∧
    (runs → 59 ≤ a.phase → left = 0 →
      let u := raiseNotice .timeOut (scopeOfLane l) t
      Safety.Does (.runningSecond l) s
        (if r.state = .playing then u.setLane l { u.lane l with state := .grace } else addHold l .time u))

/-- R132, R133: the time part is (S + 30) div 60, which is 0 at S = 0 and 10,000,000 at the largest S; the session charge
is G plus the time part, held to 9,999,999 with saturated status; both are derived from the account whenever
READ_ACCOUNT and the summary are made. In GAME mode S is 0, which `StepKeepsAccountsBalanced` says every step keeps.
-/
def Obligations.SessionCharge : Prop :=
  ∀ a : Account,
    timePart a = (a.centMinutes + 30) / 60 ∧
    (a.centMinutes = 0 → timePart a = 0) ∧ (Safety.AccountBalanced a → a.mode = .game → timePart a = 0) ∧
    (a.centMinutes = 599999999 → timePart a = 10000000 ∧ sessionCharge a = 9999999 ∧ chargeSaturated a = true) ∧
    (a.gameCharges + timePart a ≤ 9999999 → sessionCharge a = a.gameCharges + timePart a ∧ chargeSaturated a = false) ∧
    (9999999 < a.gameCharges + timePart a → sessionCharge a = 9999999 ∧ chargeSaturated a = true) ∧
    (∀ (s : State) (l : Lane), s.acct l = a →
      ((accountReply s l).drop 36).take 8 = be4 (timePart a) ++ be4 (sessionCharge a) ∧
      ((accountReply s l).getD 31 0).getLsbD 2 = chargeSaturated a) ∧
    (∀ (l : Lane) (now : Option ClockReading),
      (frozenSummary l a now).timePart = timePart a ∧ (frozenSummary l a now).total = sessionCharge a ∧
      (frozenSummary l a now).saturated = chargeSaturated a)

/-! ### Play (chapters 1, 3, 4 and 5) -/

/-- R3, R19, R95: START_GAME. Checks in order: RANGE, then STATE for a lane that is not OPEN, then STATE for a squad
without an ACTIVE bowler. In SINGLE the lane's squad starts game 1, the lane is PLAYING and a GATED or ARMED supervisor
decides; in CROSS both do, whichever lane is named. A code that names no lane is refused RANGE by log entry 10. -/
def Obligations.GameStart : Prop :=
  ∀ (e : Envelope) (l : Lane) (bad n : Byte) (s : State), Safety.Taken e .console 2 s →
    let h := Safety.heard e 9#8 s
    let games : Games := if n.toNat = 0 then .continuous else .count n.toNat
    let c : Instr := .startGame e (.val l) n
    let active := fun q : SquadId => (s.squad q).order.any fun b => b.status == .active
    let fresh := fun b : Bowler => { convertWaiting b with sheet := emptySheet, pending := [], charged := false }
    let starts := fun (q : SquadId) (t : State) =>
      let v := t.squad q
      let k := v.current
      (t.setSquad q { v with
        state := .bowling, round := 1, ball := 1, game := 1, games := games, order := v.order.map fresh
        slot := firstActive (v.order.map fresh) }).setLane k
        { t.lane k with reopen := none, sup := { t.sup k with nextDeck := fullRack } }
    let plays := fun (k : Lane) (t : State) => t.setLane k { t.lane k with state := .playing }
    let decides := fun (k : Lane) (t : State) =>
      if (t.sup k).cycle = .gated ∨ (t.sup k).cycle = .armed then arm k t else t
    Safety.Refuses (.startGame e (.bad bad) n) e 9#8 s .range ∧
    (9 < n.toNat → Safety.Refuses c e 9#8 s .range) ∧
    (n.toNat ≤ 9 → s.pairMode = .single →
      ((s.lane l).state ≠ .opened ∨ active (s.lane l).squad = false → Safety.Refuses c e 9#8 s .state) ∧
      ((s.lane l).state = .opened → active (s.lane l).squad = true →
        Safety.Completes c e 9#8 s .ok [] (decides l (plays l (starts (s.lane l).squad h))))) ∧
    (n.toNat ≤ 9 → s.pairMode = .cross →
      ((s.lane .a).state ≠ .opened ∨ (s.lane .b).state ≠ .opened ∨ active .a = false ∨ active .b = false →
        Safety.Refuses c e 9#8 s .state) ∧
      ((s.lane .a).state = .opened → (s.lane .b).state = .opened → active .a = true → active .b = true →
        Safety.Completes c e 9#8 s .ok []
          (decides .b (decides .a (plays .b (plays .a (starts .b (starts .a h))))))))

/-- R10, R55, R72, R155: BOWLER_READY wakes a machine in STANDBY or restarts the idle timer, and answers the power
state; RESET_DECK issues its cycle in ARMED or GATED with the machine RUNNING; FOUL_DETECT sets the enable, and off
drops a pending foul; a foul event with detection on is kept pending in ARMED, marks the delivery in BALL_IN, and is
ignored elsewhere and with detection off. A code that names no lane, or neither ON nor OFF, is refused RANGE by log
entry 10. -/
def Obligations.FoulsAndReadiness : Prop :=
  ∀ (l : Lane) (s : State),
    let r := s.lane l
    let u := r.sup
    (∀ (e : Envelope) (bad : Byte), Safety.Taken e .console 1 s →
      let h := Safety.heard e 10#8 s
      let open' := r.state = .opened ∨ r.state = .playing ∨ r.state = .grace
      let idles := u.power = .running ∧ (u.cycle = .armed ∨ u.cycle = .gated) ∧ u.timing.idle ≠ 0
      let t := if u.power = .standby then wake l h
        else if idles then h.setLane l { r with sup := { u with
          idleTimer := some { startedAt := s.tick, length := 6000 * u.timing.idle } } } else h
      let resets := (u.cycle = .armed ∨ u.cycle = .gated) ∧ u.power = .running
      Safety.Refuses (.bowlerReady e (.bad bad)) e 10#8 s .range ∧
      (¬open' ∨ u.power = .off → Safety.Refuses (.bowlerReady e (.val l)) e 10#8 s .state) ∧
      (open' → u.power ≠ .off →
        Safety.Completes (.bowlerReady e (.val l)) e 10#8 s .ok [if u.power = .running then 3#8 else 2#8] t) ∧
      Safety.Refuses (.resetDeck e (.bad bad)) e 12#8 s .range ∧
      (¬resets → Safety.Refuses (.resetDeck e (.val l)) e 12#8 s .state) ∧
      (resets → Safety.Completes (.resetDeck e (.val l)) e 12#8 s .ok []
        (issueCycle l .resetDeck .reset none (Safety.heard e 12#8 s)))) ∧
    (∀ (e : Envelope) (bad : Byte) (v : Coded OnOff), Safety.Taken e .console 2 s →
      let h := Safety.heard e 11#8 s
      Safety.Refuses (.foulDetect e (.bad bad) v) e 11#8 s .range ∧
      Safety.Refuses (.foulDetect e (.val l) (.bad bad)) e 11#8 s .range ∧
      Safety.Completes (.foulDetect e (.val l) (.val .on)) e 11#8 s .ok [] (h.setLane l { r with foulDetect := true }) ∧
      Safety.Completes (.foulDetect e (.val l) (.val .off)) e 11#8 s .ok []
        (h.setLane l { r with foulDetect := false, sup := { u with foulPending := false } })) ∧
    (coreOn s = true →
      (r.foulDetect = true → u.cycle = .armed →
        Safety.Does (.foulEvent l) s (s.setLane l { r with sup := { u with foulPending := true } })) ∧
      (r.foulDetect = true → u.cycle = .ballIn → Safety.Does (.foulEvent l) s
        (s.setLane l { r with sup := { u with delivery := u.delivery.map fun d => { d with foul := true } } })) ∧
      (r.foulDetect = false ∨ (u.cycle ≠ .armed ∧ u.cycle ≠ .ballIn) → Safety.Does (.foulEvent l) s s))

/-- R13, R14, R17, R18: ADD_BOWLER, MARK_PRESENT and SET_HANDICAP, once the conditions of every roster request hold: the
squad's home lane is in session (else STATE), and the slot holds a bowler (else ABSENT). A code that names no squad is
refused RANGE by log entry 10; the order of the checks and slot 0 are log entry 16, MARK_PRESENT's body log entry 14,
and what it does to a sheet and to a WAITING bowler's blind score log entry 15. -/
def Obligations.RosterEntries : Prop :=
  ∀ (e : Envelope) (q : SquadId) (bad slot : Byte) (name : List Byte) (hc : Option Byte) (blind : Option (BitVec 16)) (s : State),
    let v := s.squad q
    let n := slot.toNat
    let open' := (s.lane v.home).state = .opened ∨ (s.lane v.home).state = .playing ∨ (s.lane v.home).state = .grace
    let hcOk := ∀ x ∈ hc, x.toNat ≤ 250
    (Safety.Taken e .console 16 s →
      let h := Safety.heard e 13#8 s
      let c : Instr := .addBowler e (.val q) name hc blind
      let chars := name.takeWhile (· != 0#8)
      let nameOk := chars ≠ [] ∧ chars.length ≤ 12 ∧ ∀ x ∈ chars, 0x20 ≤ x.toNat ∧ x.toNat ≤ 0x7E
      let ok := nameOk ∧ hcOk ∧ ∀ x ∈ blind, x.toNat ≤ 300
      Safety.Refuses (.addBowler e (.bad bad) name hc blind) e 13#8 s .range ∧
      (¬open' → Safety.Refuses c e 13#8 s .state) ∧
      (open' → 8 ≤ v.order.length → Safety.Refuses c e 13#8 s .full) ∧
      (open' → v.order.length < 8 → ¬ok → Safety.Refuses c e 13#8 s .range) ∧
      (open' → v.order.length < 8 → ok →
        Safety.Completes c e 13#8 s .ok [] (h.setSquad q { v with order := v.order ++ [
          { name := chars, handicap := hc.map BitVec.toNat, blind := blind.map BitVec.toNat,
            status := if v.state = .forming then (if blind = none then .active else .absent) else .waiting,
            charged := false, completed := 0, last := none, sheet := emptySheet, pending := [] }] }))) ∧
    (Safety.Taken e .console 4 s →
      let h := Safety.heard e 17#8 s
      let c : Instr := .markPresent e (.val q) slot
      Safety.Refuses (.markPresent e (.bad bad) slot) e 17#8 s .range ∧
      (¬open' → Safety.Refuses c e 17#8 s .state) ∧
      (open' → bowlerAt v.order n = none → Safety.Refuses c e 17#8 s .absent) ∧
      (∀ b ∈ bowlerAt v.order n, open' →
        let inHand := v.slot = some n ∧ ((frameAt b.sheet v.round).balls ≠ [] ∨ (s.sup v.current).cycle = .ballIn ∨
          (s.sup v.current).cycle = .reading ∨ (s.sup v.current).cycle = .entry)
        (inHand → Safety.Refuses c e 17#8 s .state) ∧
        (¬inHand → Safety.Completes c e 17#8 s .ok [] (h.setSquad q { v with
          order := v.order.set (n - 1)
            (if b.status ≠ .absent then { b with blind := none }
             else if v.state = .forming then { b with blind := none, status := .active }
             else { b with blind := none, status := .waiting, sheet := emptySheet, pending := [] }) })))) ∧
    (Safety.Taken e .console 3 s →
      let h := Safety.heard e 18#8 s
      let c : Instr := .setHandicap e (.val q) slot hc
      Safety.Refuses (.setHandicap e (.bad bad) slot hc) e 18#8 s .range ∧
      (¬open' → Safety.Refuses c e 18#8 s .state) ∧
      (open' → bowlerAt v.order n = none → Safety.Refuses c e 18#8 s .absent) ∧
      (∀ b ∈ bowlerAt v.order n, open' →
        (¬hcOk → Safety.Refuses c e 18#8 s .range) ∧
        (hcOk → Safety.Completes c e 18#8 s .ok [] (h.setSquad q { v with
          order := v.order.set (n - 1) { b with handicap := hc.map BitVec.toNat } }))))

/-- R13, R15 to R17, R20, R86: REMOVE_BOWLER, MOVE_BOWLER and MARK_ABSENT. The ball in hand and the last ACTIVE bowler
are protected; the current bowler and the reopen marks follow their bowlers through the renumbering; a current bowler
who leaves or is absent is replaced by the choice of R20, and the supervisor takes the change. A code that names no
squad is refused RANGE by log entry 10; the order of the checks and slot 0 are log entry 16, the marks' renumbering log
entry 27, and the decision of a GATED supervisor log entry 38. -/
def Obligations.RosterRemovalsAndMoves : Prop :=
  ∀ (e : Envelope) (q : SquadId) (bad slot new : Byte) (blind : BitVec 16) (s : State),
    let v := s.squad q
    let n := slot.toNat
    let j := new.toNat
    let open' := (s.lane v.home).state = .opened ∨ (s.lane v.home).state = .playing ∨ (s.lane v.home).state = .grace
    let delivering := (s.sup v.current).cycle = .ballIn ∨ (s.sup v.current).cycle = .reading ∨ (s.sup v.current).cycle = .entry
    let inHand := fun (b : Bowler) => (frameAt b.sheet v.round).balls ≠ [] ∨ delivering
    let last := fun (b : Bowler) => b.status = .active ∧ activeCount v.order = 1
    let replaced := fun (t : State) =>
      bowlerChanged v.current (chooseNext q v.current (t.setLane v.current { t.lane v.current with reopen := none }))
    let marks := fun (f : ReopenMark → Option ReopenMark) (t : State) =>
      { t with lanes := { a := { t.lanes.a with reopen := t.lanes.a.reopen.bind f },
                          b := { t.lanes.b with reopen := t.lanes.b.reopen.bind f } } }
    (Safety.Taken e .console 2 s →
      let c : Instr := .removeBowler e (.val q) slot
      let t := marks (fun m => if m.squad ≠ q then some m else if m.slot = n then none
          else some { m with slot := if n < m.slot then m.slot - 1 else m.slot })
        ((Safety.heard e 14#8 s).setSquad q { v with
          order := v.order.eraseIdx (n - 1), slot := v.slot.map fun x => if n < x then x - 1 else x })
      Safety.Refuses (.removeBowler e (.bad bad) slot) e 14#8 s .range ∧
      (¬open' → Safety.Refuses c e 14#8 s .state) ∧
      (open' → bowlerAt v.order n = none → Safety.Refuses c e 14#8 s .absent) ∧
      (∀ b ∈ bowlerAt v.order n, open' →
        let barred := v.state ≠ .forming ∧ ((v.slot = some n ∧ inHand b) ∨ last b)
        (barred → Safety.Refuses c e 14#8 s .state) ∧
        (¬barred → Safety.Completes c e 14#8 s .ok [] (if v.slot = some n then replaced t else t)))) ∧
    (Safety.Taken e .console 3 s →
      let h := Safety.heard e 15#8 s
      let c : Instr := .moveBowler e (.val q) slot new
      let follows := fun x => if x = n then j else if n < x ∧ x ≤ j then x - 1 else if j ≤ x ∧ x < n then x + 1 else x
      Safety.Refuses (.moveBowler e (.bad bad) slot new) e 15#8 s .range ∧
      (¬open' → Safety.Refuses c e 15#8 s .state) ∧
      (open' → bowlerAt v.order n = none → Safety.Refuses c e 15#8 s .absent) ∧
      (∀ b ∈ bowlerAt v.order n, open' →
        let passed := ∃ k ∈ v.slot, ∃ x ∈ bowlerAt v.order k, inHand x ∧ (k = n ∨ (n < k ∧ k < j) ∨ (j < k ∧ k < n))
        (j = 0 ∨ v.order.length < j → Safety.Refuses c e 15#8 s .range) ∧
        (j = n → j ≤ v.order.length → Safety.Completes c e 15#8 s .ok [] h) ∧
        (j ≠ n → 1 ≤ j → j ≤ v.order.length → passed → Safety.Refuses c e 15#8 s .state) ∧
        (j ≠ n → 1 ≤ j → j ≤ v.order.length → ¬passed →
          Safety.Completes c e 15#8 s .ok []
            (marks (fun m => some (if m.squad = q then { m with slot := follows m.slot } else m)) (h.setSquad q { v with
              order := (v.order.eraseIdx (n - 1)).insertIdx (j - 1) b, slot := v.slot.map follows }))))) ∧
    (Safety.Taken e .console 4 s →
      let c : Instr := .markAbsent e (.val q) slot blind
      Safety.Refuses (.markAbsent e (.bad bad) slot blind) e 16#8 s .range ∧
      (¬open' → Safety.Refuses c e 16#8 s .state) ∧
      (open' → bowlerAt v.order n = none → Safety.Refuses c e 16#8 s .absent) ∧
      (∀ b ∈ bowlerAt v.order n, open' →
        let barred := (v.slot = some n ∧ inHand b) ∨ (v.state ≠ .forming ∧ last b)
        let t := marks (fun m => if m.squad = q ∧ m.slot = n then none else some m)
          ((Safety.heard e 16#8 s).setSquad q { v with
            order := v.order.set (n - 1)
              { b with blind := some blind.toNat, status := if b.status = .active then .absent else b.status } })
        (300 < blind.toNat → Safety.Refuses c e 16#8 s .range) ∧
        (blind.toNat ≤ 300 → barred → Safety.Refuses c e 16#8 s .state) ∧
        (blind.toNat ≤ 300 → ¬barred →
          Safety.Completes c e 16#8 s .ok [] (if v.slot = some n then replaced t else t))))

/-- R77, R78, R85, R87 to R89, R91, R92: CORRECT_BALL. The checks in order: the field ranges, the lane in session, the
bowler and the ball there, no delivery under way on that frame, the expected result, the new leave within the leave
faced, the later balls within theirs, the shape. A correction that changes nothing is OK and changes nothing; any other
rebuilds the sheet, moves rotation and the Next Deck only where the frame in play or a marked strike is touched, settles
deck-stale, and gives CORRECTED to the other master. What the new leave, the later balls, the shape, deck-stale and the
reply are is said by `CorrectionRules`. A code that names no squad is refused RANGE by log entry 10; the totals of a
completed game follow log entry 17, the field that the form does not use log entry 18, the lane in CORRECTED log entry
40, and a completing correction that leaves the only ACTIVE bowler current log entry 49. -/
def Obligations.BallCorrection : Prop :=
  ∀ (e : Envelope) (q : SquadId) (bad : Byte) (f : CorrectFields) (s : State),
    Safety.Taken e e.port 11 s → e.port ≠ .service →
    let h := Safety.heard e 20#8 s
    let c : Instr := .correctBall e (.val q) f
    let n := f.slot.toNat
    let k := f.frame.toNat
    let j := f.ball.toNat
    let v := s.squad q
    let l := v.current
    let open' := (s.lane l).state = .opened ∨ (s.lane l).state = .playing ∨ (s.lane l).state = .grace
    let inRange := 1 ≤ n ∧ n ≤ 8 ∧ 1 ≤ k ∧ k ≤ 10 ∧ 1 ≤ j ∧ j ≤ (if k ≤ 9 then 2 else 3) ∧ f.expectedCount.toNat ≤ 10 ∧
      (∀ x ∈ f.newLeave, x.toNat < 1024) ∧ (∀ x ∈ f.newCount, x.toNat ≤ 10) ∧
      ((f.form = .val .leave ∧ f.newLeave ≠ none) ∨ (f.form = .val .count ∧ f.newCount ≠ none))
    let delivering := ((s.sup l).cycle = .ballIn ∨ (s.sup l).cycle = .reading ∨ (s.sup l).cycle = .entry) ∧
      v.slot = some n ∧ v.round = k
    Safety.Refuses (.correctBall e (.bad bad) f) e 20#8 s .range ∧
    (¬inRange → Safety.Refuses c e 20#8 s .range) ∧
    (inRange → ¬open' → Safety.Refuses c e 20#8 s .state) ∧
    (inRange → open' → bowlerAt v.order n = none → Safety.Refuses c e 20#8 s .absent) ∧
    (∀ b ∈ bowlerAt v.order n, inRange → open' →
      let balls := (frameAt b.sheet k).balls
      (balls.length < j → Safety.Refuses c e 20#8 s .absent) ∧
      (∀ x ∈ balls[j - 1]?, ∀ form ∈ correctionOf f,
        let fresh := x.count = f.expectedCount.toNat ∧ x.foul = f.expectedFoul
        (delivering → Safety.Refuses c e 20#8 s .state) ∧
        (¬delivering → ¬fresh → Safety.Refuses c e 20#8 s .stale) ∧
        (¬delivering → fresh → correctedLeave x form f.newFoul = none → Safety.Refuses c e 20#8 s .range) ∧
        (∀ after ∈ correctedLeave x form f.newFoul, ¬delivering → fresh →
          (correctedBalls k j balls x after f.newFoul = none → Safety.Refuses c e 20#8 s .range) ∧
          (∀ new ∈ correctedBalls k j balls x after f.newFoul,
            let marked := (s.lane l).reopen = some { squad := q, slot := n, frame := k }
            let kept := shapeKept (decide marked) k balls new = true
            let same := x.after = after ∧ x.foul = f.newFoul ∧ balls.drop j = new.drop j
            let sheet := b.sheet.set (k - 1) { frameAt b.sheet k with balls := new }
            let b0 := { b with sheet := (rebuild sheet).1, pending := (rebuild sheet).2 }
            let t10 := ((frameAt b0.sheet 10).total).getD 0
            let b1 := if (v.state = .forming ∨ v.state = .gameDone) ∧ frameComplete b0.sheet 10 = true ∧ b.status ≠ .absent then
                { b0 with last := b0.last.map fun g => { plain := t10, handicapped := t10 + (g.handicapped - g.plain) } }
              else b0
            let inFrame := v.slot = some n ∧ v.round = k ∧ ballsComplete k balls = false
            let reopens := k ≤ 9 ∧ firstIsStrike balls = true ∧ firstIsStrike new = false
            let t0 := h.setSquad q { v with order := v.order.set (n - 1) b1 }
            let deck := fun (x : Leave) (t : State) => t.setLane l { t.lane l with sup := { t.sup l with nextDeck := x } }
            let unmark := fun (m : Option ReopenMark) (t : State) => t.setLane l { t.lane l with reopen := m }
            let lacking := ∃ y ∈ (t0.squad q).order, y.status = .active ∧ frameComplete y.sheet k = false
            let t1 := if reopens then
                unmark none (deck (nextLeave k new) (t0.setSquad q { t0.squad q with slot := some n, round := k, ball := 2 }))
              else if inFrame ∧ ballsComplete k new = false then deck (nextLeave k new) t0
              else if inFrame then
                chooseNext q l (if k ≤ 9 ∧ firstIsStrike new = true ∧ lacking then
                  unmark (some { squad := q, slot := n, frame := k }) t0 else t0)
              else t0
            let t2 := staleAfterCorrection l (s.sup l).nextDeck t1
            let t3 := if reopens ∨ (inFrame ∧ ballsComplete k new = true) then bowlerChanged l t2 else t2
            let t := enterNotice (if e.port = .desk then .console else .desk) { kind := .corrected, scope := scopeOfLane l } t3
            (¬kept → Safety.Refuses c e 20#8 s .shape) ∧
            (kept → same → Safety.Completes c e 20#8 s .ok (correctionReply v v.order n k j) h) ∧
            (kept → ¬same → Safety.Completes c e 20#8 s .ok (correctionReply (t.squad q) (v.order.set (n - 1) b0) n k j) t)))))

/-- R77, R80 to R83, R90: what a correction derives. Form LEAVE gives a leave within the leave faced; form COUNT with a
foul keeps the leave, with count 0, and without one gives a leave that lies within the leave faced and leaves exactly
the pins that the count leaves, putting pins back, or taking them down, lowest-numbered first. The corrected entry is
CORRECTED without mismatch; each later ball of the frame keeps its leave and foul and faces what the balls before it
leave, or the request is RANGE (R81; log entry 39). The shape: in frames 1 to 9 the first ball's strike stays, or comes
while the frame has one ball, or goes where the reopen mark names the frame; a complete frame 10 stays allowed or not
allowed its third ball. Deck-stale is set when the Next Deck changed away from what is latched. The reply is the ball as
it stands and the squad's current slot, round and ball. -/
def Obligations.CorrectionRules : Prop :=
  (∀ (faced after : Leave) (c : Nat), leaveWithin after faced = true → c ≤ leaveSize faced →
    let new := leaveOfCount faced after c
    leaveWithin new faced = true ∧ leaveSize faced - leaveSize new = c ∧
    (c ≤ leaveSize faced - leaveSize after → leaveWithin after new = true ∧
      ∀ i j, i < j → new.getLsbD j = true → after.getLsbD j = false → faced.getLsbD i = true → new.getLsbD i = true) ∧
    (leaveSize faced - leaveSize after ≤ c → leaveWithin new after = true ∧
      ∀ i j, i < j → after.getLsbD j = true → new.getLsbD j = false → new.getLsbD i = false)) ∧
  (∀ (e : BallEntry) (l : Leave) (n : Nat) (foul : Bool),
    correctedLeave e (.leave l) foul = (if l &&& e.faced = l then some l else none) ∧
    correctedLeave e (.count n) true = (if n = 0 then some e.after else none) ∧
    correctedLeave e (.count n) false = (if n ≤ leaveSize e.faced then some (leaveOfCount e.faced e.after n) else none)) ∧
  (∀ (k j : Nat) (balls new : List BallEntry) (x : BallEntry) (after : Leave) (foul : Bool), 1 ≤ j → j ≤ balls.length →
    (correctedBalls k j balls x after foul = some new ↔
      new.length = balls.length ∧ (∀ i, i < j - 1 → new[i]? = balls[i]?) ∧
      new[j - 1]? = some { count := if foul = true then 0 else leaveSize x.faced - leaveSize after, faced := x.faced
                           after := after, foul := foul, split := splitMark k j x.faced after foul, source := .corrected
                           mismatch := false } ∧
      ∀ i y, j ≤ i → balls[i]? = some y →
        let faced := nextLeave k (new.take i)
        y.after &&& faced = y.after ∧
        new[i]? = some { y with
          faced := faced, count := if y.foul = true then 0 else leaveSize faced - leaveSize y.after
          split := splitMark k (i + 1) faced y.after y.foul })) ∧
  (∀ (marked : Bool) (k : Nat) (before after : List BallEntry),
    let strikes := fun balls : List BallEntry => ∃ e ∈ balls.head?, e.count = 10 ∧ e.foul = false
    (k ≤ 9 → (shapeKept marked k before after = true ↔
      (strikes before ↔ strikes after) ∨ (strikes after ∧ before.length = 1) ∨ (strikes before ∧ marked = true))) ∧
    (10 ≤ k → (shapeKept marked k before after = true ↔
      (before.length = 3 ∨ ballsComplete 10 before = true → thirdAllowed before = thirdAllowed after)))) ∧
  (∀ (l : Lane) (old : Leave) (s : State),
    let u := s.sup l
    let settled := u.nextDeck = old ∨ (∃ c ∈ u.cycleRec, c.latched = false) ∨ u.latched = none ∨ u.latched = some u.nextDeck
    staleAfterCorrection l old s = if settled ∨ u.stale = true then s
      else raiseNotice .staleDeck (scopeOfLane l) (s.setLane l { s.lane l with sup := { u with stale := true } })) ∧
  (∀ (q : Squad) (order : List Bowler) (n k j : Nat) (b : Bowler) (e : BallEntry) (m : Byte),
    bowlerAt order n = some b → (frameAt b.sheet k).balls[j - 1]? = some e →
    (marksOf k (frameAt b.sheet k).balls)[j - 1]? = some m →
    let flags := e.foul.toNat + 2 * e.split.toNat + 4 * e.mismatch.toNat +
      8 * (match e.source with | .sensed => 0 | .entered => 1 | .corrected => 2)
    correctionReply q order n k j =
      [BitVec.ofNat 8 e.count] ++ be2 e.faced.toNat ++ be2 e.after.toNat ++ [BitVec.ofNat 8 flags, m] ++
      [BitVec.ofNat 8 (q.slot.getD 0), BitVec.ofNat 8 q.round, BitVec.ofNat 8 q.ball])

/-- R58, R60: a deck report in READING, and ENTER_BALL in ENTRY, record the ball and end the delivery. With the machine
RUNNING the cycle is RESPOT when the next ball is in the same frame and faces less than a full rack, else RESET;
otherwise the supervisor goes to RECOVER. A pending fault sends an entered ball's supervisor to FAULT instead. A deck
report elsewhere is discarded. A code that names no lane is refused RANGE by log entry 10. That a machine switched OFF
and ON during the delivery, and RUNNING again at its end, counts as RUNNING is log entry 43. -/
def Obligations.BallResults : Prop :=
  ∀ (l : Lane) (s : State),
    let cycles := fun (r : Recorded) (t : State) =>
      let u := t.setLane l { t.lane l with sup := { t.sup l with delivery := none } }
      if (t.sup l).power = .running then
        (if r.sameFrame = true ∧ (t.sup l).nextDeck ≠ fullRack then issueCycle l .delivery .respot (some r.after) u
         else issueCycle l .delivery .reset none u)
      else enterRecover l u
    (∀ leave : Leave, coreOn s = true →
      ((s.sup l).cycle ≠ .reading → Safety.Does (.deck l leave) s s) ∧
      ((s.sup l).cycle = .reading →
        let foul := (s.sup l).delivery.any fun d => d.foul
        let r := recordBall l leave foul .sensed (s.setLane l { s.lane l with sup := { s.sup l with deckTimer := none } })
        Safety.Does (.deck l leave) s (cycles r.2 r.1))) ∧
    (∀ (e : Envelope) (bad : Byte) (leave : BitVec 16) (foul : Bool), Safety.Taken e e.port 4 s → e.port ≠ .service →
      let c : Instr := .enterBall e (.val l) leave foul
      let r := recordBall l (leave.setWidth 10) foul .entered (Safety.heard e 21#8 s)
      let t := removeHold l .entry r.1
      Safety.Refuses (.enterBall e (.bad bad) leave foul) e 21#8 s .range ∧
      (1024 ≤ leave.toNat → Safety.Refuses c e 21#8 s .range) ∧
      (leave.toNat < 1024 → (s.sup l).cycle ≠ .entry → Safety.Refuses c e 21#8 s .state) ∧
      (leave.toNat < 1024 → (s.sup l).cycle = .entry →
        Safety.Completes c e 21#8 s .ok []
          (if ((t.sup l).delivery.bind (·.pendingFault)).isSome = true then
             t.setLane l { t.lane l with sup := { t.sup l with cycle := .fault, foulPending := false, delivery := none } }
           else cycles r.2 t)))

/-- R56, R57, R59, R61: a ball detection in ARMED starts a delivery that carries the pending foul, and elsewhere is a
dead ball; the settle expiry reads the deck; the first deck limit expiry reads it again, and the second leads to ENTRY
with its hold and notice. An expiry whose timer the cycle state does not run changes nothing. That such an expiry
changes nothing, and that an expiry is taken by the cycle state alone, is log entry 2. -/
def Obligations.DeliveryEvents : Prop :=
  ∀ (l : Lane) (s : State), coreOn s = true →
    let r := s.lane l
    let u := r.sup
    let reads := if u.power = .running then u.link ++ [.readDeck] else u.link
    let dead := raiseNotice .dead (scopeOfLane l) s
    let idles := u.power = .running ∧ u.cycle = .gated ∧ u.timing.idle ≠ 0
    (u.cycle = .armed → Safety.Does (.ballDetection l) s (s.setLane l { r with sup := { u with
      cycle := .ballIn
      foulPending := false
      delivery := some { foul := u.foulPending, attempt := 1, pendingFault := none }
      settleTimer := some { startedAt := s.tick, length := 10 * u.timing.settle } } })) ∧
    (u.cycle ≠ .armed → Safety.Does (.ballDetection l) s
      (if u.cycle ≠ .parked ∧ u.power = .standby then wake l dead
       else if idles then dead.setLane l { r with sup := { u with
         idleTimer := some { startedAt := s.tick, length := 6000 * u.timing.idle } } }
       else dead)) ∧
    (u.cycle = .ballIn → Safety.Does (.settleExpiry l) s (s.setLane l { r with sup := { u with
      cycle := .reading, settleTimer := none, deckTimer := some { startedAt := s.tick, length := 150 }, link := reads } })) ∧
    (u.cycle ≠ .ballIn → Safety.Does (.settleExpiry l) s s) ∧
    (u.cycle ≠ .reading → Safety.Does (.deckLimitExpiry l) s s) ∧
    (u.cycle = .reading → (u.delivery.any fun d => d.attempt == 1) = true →
      Safety.Does (.deckLimitExpiry l) s (s.setLane l { r with sup := { u with
        delivery := u.delivery.map fun d => { d with attempt := 2 }
        deckTimer := some { startedAt := s.tick, length := 150 }
        link := reads } })) ∧
    (u.cycle = .reading → (u.delivery.any fun d => d.attempt == 1) = false →
      let t := raiseNotice .entry (scopeOfLane l)
        (addHold l .entry (s.setLane l { r with sup := { u with cycle := .entry, deckTimer := none } }))
      Safety.Does (.deckLimitExpiry l) s (t.setLane l { t.lane l with sup := { t.sup l with
        counters := { u.counters with deckFail :=
          { value := min 255 (u.counters.deckFail.value + 1),
            full := u.counters.deckFail.full || decide (254 ≤ u.counters.deckFail.value) } } } }))

/-- R94, R101, R102: SET_PAIR_MODE, SPLIT_PAIR and SPLIT_PAIR FORCE. CROSS needs both lanes OPEN (STATE), both in GAME
mode (MODE) and an ACTIVE bowler in each squad (STATE); a split needs both squads FORMING or GAME_DONE; the pair's
present mode is OK and changes nothing. FORCE renames the squads by where they stand, drops SWAP, sends a waiting squad
to its next round and ends the game of one that is done, and both supervisors decide. A mode code that is none is
refused RANGE by log entry 10, a forced split keeps a foul pending by log entry 30, and a squad whose game it ends keeps
its round and ball number by log entry 35. -/
def Obligations.PairModeRequests : Prop :=
  (∀ (e : Envelope) (bad : Byte) (s : State), Safety.Taken e e.port 1 s → e.port ≠ .service →
    let cross : Instr := .setPairMode e (.val .cross)
    let single : Instr := .setPairMode e (.val .single)
    let h := Safety.heard e 22#8 s
    let h' := Safety.heard e 23#8 s
    let bothOpen := (s.lane .a).state = .opened ∧ (s.lane .b).state = .opened
    let bothGame := (s.acct .a).mode = .game ∧ (s.acct .b).mode = .game
    let bothActive := (∃ b ∈ (s.squad .a).order, b.status = .active) ∧ ∃ b ∈ (s.squad .b).order, b.status = .active
    let splits := ∀ q ∈ [(s.squad .a).state, (s.squad .b).state], q = .forming ∨ q = .gameDone
    Safety.Refuses (.setPairMode e (.bad bad)) e 22#8 s .range ∧
    (s.pairMode = .cross → Safety.Completes cross e 22#8 s .ok [] h) ∧
    (s.pairMode = .single → ¬bothOpen → Safety.Refuses cross e 22#8 s .state) ∧
    (s.pairMode = .single → bothOpen → ¬bothGame → Safety.Refuses cross e 22#8 s .mode) ∧
    (s.pairMode = .single → bothOpen → bothGame → ¬bothActive → Safety.Refuses cross e 22#8 s .state) ∧
    (s.pairMode = .single → bothOpen → bothGame → bothActive →
      Safety.Completes cross e 22#8 s .ok [] { h with pairMode := .cross }) ∧
    (s.pairMode = .single → Safety.Completes single e 22#8 s .ok [] h ∧ Safety.Completes (.splitPair e) e 23#8 s .ok [] h') ∧
    (s.pairMode = .cross → ¬splits →
      Safety.Refuses single e 22#8 s .state ∧ Safety.Refuses (.splitPair e) e 23#8 s .state) ∧
    (s.pairMode = .cross → splits →
      Safety.Completes single e 22#8 s .ok [] { h with pairMode := .single } ∧
      Safety.Completes (.splitPair e) e 23#8 s .ok [] { h' with pairMode := .single }) ∧
    (e.port = .desk → s.pairMode = .single → Safety.Completes (.splitPairForce e) e 23#8 s .ok [] h') ∧
    (e.port = .desk → s.pairMode = .cross →
      Safety.Completes (.splitPairForce e) e 23#8 s .ok [] (decide52 .b (decide52 .a (splitRecords h'))))) ∧
  (∀ s : State,
    let swapped := (s.squad .a).current = .b
    let name := fun (q : SquadId) (v : Squad) => if swapped then { v with home := q, current := q } else v
    let placed := fun (r : LaneRec) (q : SquadId) => { r with
      holds := r.holds.put .swap false
      squad := if swapped then q else r.squad
      reopen := if swapped then r.reopen.map (fun m => { m with squad := m.squad.other }) else r.reopen }
    let t := { s with
      pairMode := .single
      squads := { a := name .a (if swapped then s.squads.b else s.squads.a), b := name .b (if swapped then s.squads.a else s.squads.b) }
      lanes := { a := placed s.lanes.a .a, b := placed s.lanes.b .b } }
    let goesOn := fun (q : SquadId) (t : State) =>
      let v := t.squad q
      if v.state = .swapWait then
        (t.setSquad q { v with state := .bowling, round := v.round + 1, ball := 1, slot := firstActive v.order }).setLane v.current
          { t.lane v.current with sup := { t.sup v.current with nextDeck := fullRack } }
      else if v.state = .gameDone then afterGame q v.current (t.setSquad q { v with order := v.order.map convertWaiting })
      else t
    splitRecords s = goesOn .b (goesOn .a t))

/-! ### Rates and the clock (chapters 8 and 10) -/

/-- R140, R141: which entry applies. A present entry of 1 to 15 matches by the shape of its window; the entry in effect is
the lowest-numbered one that matches the clock's weekday and minute, and entry 0 when none does or the clock is
invalid; the prices in effect are those the working copy holds for that number. -/
def Obligations.EntryInEffect : Prop :=
  (∀ (x : RateEntry) (d m : Nat), 1 ≤ d → d ≤ 7 →
    let inSet := fun day : Nat => ∀ w ∈ x.weekdays, w.getLsbD (day - 1) = true
    let before := if d = 1 then 7 else d - 1
    rateMatches x d m = true ↔ x.present = true ∧
      ((x.start < x.stop ∧ inSet d ∧ x.start ≤ m ∧ m < x.stop) ∨ (x.start = x.stop ∧ inSet d) ∨
        (x.stop < x.start ∧ ((inSet d ∧ x.start ≤ m) ∨ (inSet before ∧ m < x.stop))))) ∧
  (∀ (working : List RateEntry) (c : Clock), working.length = 16 →
    let m := 60 * c.hour + c.minute
    let hit := fun n : Nat => 1 ≤ n ∧ ∃ x ∈ working[n]?, rateMatches x c.weekday m = true
    (c.valid = false → chosenEntry working c = 0) ∧
    (c.valid = true → (∀ n, ¬hit n) → chosenEntry working c = 0) ∧
    (∀ n, c.valid = true → hit n → (∀ k, k < n → ¬hit k) → chosenEntry working c = n)) ∧
  (∀ s : State, entryInEffect s = (s.rates.working[s.rates.inEffect]?).getD .absent ∧
    reevaluate s = if chosenEntry s.rates.working s.clock = s.rates.inEffect then s
      else raiseNotice .rateChange .pair { s with
        rates := { s.rates with inEffect := chosenEntry s.rates.working s.clock } })

/-- R143, R144, R175: RATE_SET and RATE_CLEAR, addressed or as a broadcast. A number above 15 or a field out of range is
RANGE; otherwise the one working entry is written, absent entry 0 as the factory default, and the entry in effect is
chosen again. A broadcast has the same effect without a reply, and none where an addressed request would be refused. Bit
7 of a weekday set is RANGE by log entry 10. -/
def Obligations.RateWrites : Prop :=
  ∀ (e : Envelope) (n : Byte) (f : RateFields) (s : State),
    let k := n.toNat
    let daysOk := ∀ w ∈ f.weekdays, w ≠ 0#8 ∧ w.toNat < 128
    let ok := f.present = false ∨ (daysOk ∧ f.start.toNat ≤ 1439 ∧ f.stop.toNat ≤ 1439 ∧ f.perGame.toNat ≤ 9999 ∧
      f.perHour.toNat ≤ 99999)
    let factory : RateEntry := { present := true, weekdays := none, start := 0, stop := 0, perGame := 0, perHour := 0 }
    let absent := if k = 0 then factory else .absent
    let value : RateEntry := if f.present = true then
        RateEntry.mk true (f.weekdays.map fun w => w.setWidth 7) f.start.toNat f.stop.toNat f.perGame.toNat f.perHour.toNat
      else absent
    let written := fun (x : RateEntry) (t : State) =>
      reevaluate { t with rates := { t.rates with working := t.rates.working.set k x } }
    (Safety.Taken e .desk 13 s →
      (15 < k ∨ ¬ok → Safety.Refuses (.rateSet e n f) e 24#8 s .range) ∧
      (k ≤ 15 → ok → s.rates.working.length = 16 →
        Safety.Completes (.rateSet e n f) e 24#8 s .ok (rateBytes value) (written value (Safety.heard e 24#8 s)))) ∧
    (Safety.Taken e .desk 1 s →
      (15 < k → Safety.Refuses (.rateClear e n) e 25#8 s .range) ∧
      (k ≤ 15 → Safety.Completes (.rateClear e n) e 25#8 s .ok [] (written absent (Safety.heard e 25#8 s)))) ∧
    (coreOn s = true → e.port = .desk → e.address = 0 →
      (e.bodyLen = 13 → Safety.Does (.rateSet e n f) s (if k ≤ 15 ∧ ok then written value s else s)) ∧
      (e.bodyLen = 1 → Safety.Does (.rateClear e n) s (if k ≤ 15 then written absent s else s)))

/-- R147 to R149, R151: RATE_STORE, its completion and the key's release. The checks in order: RANGE, KEY, WORN, RANGE.
A store taken has no reply yet: the entry is COMPROMISED and its write count one more. Its completion makes the entry
GOOD and writes the working copy; the key released before it leaves the entry COMPROMISED and the working entry absent.
Either answers the desk, and neither does anything with no programming under way (log entry 2). The premise that an
absent value keeps nothing of its other fields is part of `Safety.RatesSound`, which `StepKeepsAccountsBalanced` says
every step keeps. The key's level comes with the request (log entry 37), and what entry 0 stores with the flag clear is
log entry 42. -/
def Obligations.RateStoring : Prop :=
  ∀ (e : Envelope) (n : Byte) (f : RateFields) (key : Bool) (s : State),
    let k := n.toNat
    let entry := s.rates.store.getD k .blank
    let h := Safety.heard e 26#8 { s with key := key }
    let absent := fun i : Nat => if i = 0 then RateEntry.factory else .absent
    let chosen := fun t : State => reevaluate t
    let answered := fun (i : Nat) (st : Status) (x : StoredEntry) (t : State) =>
      match t.desk.request with
      | some r => { t with desk := { t.desk with outgoing := t.desk.outgoing ++
          [Reply.mk r.code r.tag st [BitVec.ofNat 8 i, BitVec.ofNat 8 (storeStateCode x.state), BitVec.ofNat 8 x.writes] true] } }
      | none => t
    let refuses := fun st : Status => exec (.rateStore e n f key) s = .next (settle s (Safety.replied e 26#8 st [] h))
    (Safety.Taken e .desk 13 s →
      (15 < k → refuses .range) ∧
      (k ≤ 15 → key = false → refuses .key) ∧
      (k ≤ 15 → key = true → 32 ≤ entry.writes → refuses .worn) ∧
      (k ≤ 15 → key = true → entry.writes < 32 → rateEntryOf f = none → refuses .range) ∧
      (∀ v ∈ rateEntryOf f, k ≤ 15 → key = true → entry.writes < 32 →
        Safety.Does (.rateStore e n f key) s { h with rates := { h.rates with
          store := h.rates.store.set k { entry with state := .compromised, writes := entry.writes + 1 }
          programming := some { entry := k, value := v } } })) ∧
    (coreOn s = true →
      (s.rates.programming = none →
        Safety.Does .programmingComplete s s ∧ Safety.Does .keyRelease s { s with key := false }) ∧
      (∀ p ∈ s.rates.programming, p.entry < s.rates.store.length →
        let x := { s.rates.store.getD p.entry .blank with state := .good, value := p.value }
        let y := s.rates.store.getD p.entry .blank
        ((p.value.present = false → p.value = RateEntry.absent) → Safety.Does .programmingComplete s (chosen (answered p.entry .ok x { s with rates := { s.rates with
          store := s.rates.store.set p.entry x
          working := s.rates.working.set p.entry (if p.value.present = true then p.value else absent p.entry)
          programming := none } }))) ∧
        Safety.Does .keyRelease s (chosen (answered p.entry .keyLost y { s with
          key := false
          rates := { s.rates with working := s.rates.working.set p.entry (absent p.entry), programming := none } }))))

/-- R164 to R166, R142, R175: CLOCK_SET, addressed or as a broadcast, and the clock's own events. The fields in range
(RANGE) and the crystal RUNNING (STATE), the clock is set and valid. A second advances it with carry through minute,
hour and weekday while the crystal runs, core or no core; a minute change has a running core choose the entry again. A
stopped crystal makes it invalid. The bytes of CLOCK_SET's reply are log entry 11, and the clock's events with the core
stopped by the reset input log entry 7. -/
def Obligations.ClockCommands : Prop :=
  ∀ (e : Envelope) (w hr m sec : Byte) (s : State),
    let ok := 1 ≤ w.toNat ∧ w.toNat ≤ 7 ∧ hr.toNat ≤ 23 ∧ m.toNat ≤ 59 ∧ sec.toNat ≤ 59
    let isSet := fun t : State =>
      reevaluate { t with clock := Clock.mk w.toNat hr.toNat m.toNat sec.toNat true s.clock.crystal }
    let c := s.clock
    let on := coreOn s
    let day := if c.hour < 23 then c.weekday else if c.weekday < 7 then c.weekday + 1 else 1
    let next : Clock :=
      if c.second < 59 then { c with second := c.second + 1 }
      else if c.minute < 59 then { c with second := 0, minute := c.minute + 1 }
      else { c with second := 0, minute := 0, hour := if c.hour < 23 then c.hour + 1 else 0, weekday := day }
    (Safety.Taken e .desk 4 s →
      (¬ok → Safety.Refuses (.clockSet e w hr m sec) e 28#8 s .range) ∧
      (ok → c.crystal = false → Safety.Refuses (.clockSet e w hr m sec) e 28#8 s .state) ∧
      (ok → c.crystal = true → Safety.Completes (.clockSet e w hr m sec) e 28#8 s .ok [w, hr, m, sec, 1#8, 0#8]
        (isSet (Safety.heard e 28#8 s)))) ∧
    (on = true → e.port = .desk → e.address = 0 → e.bodyLen = 4 →
      Safety.Does (.clockSet e w hr m sec) s (if ok ∧ c.crystal = true then isSet s else s)) ∧
    exec .clockSecond s = .next (if c.crystal = false then s
      else if on = true ∧ 59 ≤ c.second then reevaluate { s with clock := next } else { s with clock := next }) ∧
    (let t := { s with clock := { c with crystal := false, valid := false } }
     exec .crystalStop s = .next (if c.valid = true ∧ on = true then raiseNotice .clock .pair (reevaluate t) else t)) ∧
    exec .crystalRestart s = .next { s with clock := { c with crystal := true } }

/-! ### Machines, power and maintenance (chapters 3 and 9) -/

/-- R67, R68, R154, R155: MACHINE_FAULT and the expiries of the cycle watchdog, the warm-up limit and the idle standby
timer. A fault is counted, noted and raised, and moves the cycle state; the watchdog first retries the cycle as a RESET,
and at the second expiry is a fault after STOP; the warm-up limit powers down and is a fault whose pending code is free;
idle standby powers down. An expiry that finds no cycle, no warm-up or no idle timer changes nothing. ENTRY keeps a
fault pending; PARKED sets the latched-fault flag, and ends a test that waits; any other state drops delivery, test and
cycle, and goes to FAULT with MACHINE, in a CLOSING lane on to PARKED, in a CLOSED lane to PARKED with the flag. That an
expiry is taken whenever its timer runs, and then alone, is log entry 2, the free code log entry 5, and the end of a
waiting test log entry 21. -/
def Obligations.FaultsAndExpiries : Prop :=
  (∀ (l : Lane) (code : Nat) (s : State),
    let r := s.lane l
    let u := r.sup
    let down := u.power = .warming ∨ u.power = .running
    let ended := s.setLane l { r with
      latchedFault := true
      sup := { u with
        cycle := .parked, foulPending := false, delivery := none, cycleRec := none, settleTimer := none, deckTimer := none
        watchdogTimer := none, idleTimer := none, testMark := false
        latched := if u.cycle = .cycling ∨ u.cycle = .recover then none else u.latched
        power := if down then .standby else u.power
        warmUpTimer := if down then none else u.warmUpTimer
        link := if down then u.link ++ [.powerOff] else u.link } }
    let faulted := s.setLane l { r with sup := { u with
      cycle := .fault, foulPending := false, delivery := none, cycleRec := none, settleTimer := none, deckTimer := none
      watchdogTimer := none, testMark := false
      latched := if u.cycle = .cycling ∨ u.cycle = .recover then none else u.latched } }
    (u.cycle = .entry → faultMove l code s = addHold l .machine (s.setLane l { r with sup := { u with
      delivery := u.delivery.map fun d => { d with pendingFault := some code } } })) ∧
    (u.cycle = .parked → faultMove l code s =
      if u.testMark = true then ended else s.setLane l { r with latchedFault := true }) ∧
    (u.cycle ≠ .entry → u.cycle ≠ .parked → faultMove l code s =
      match r.state with
      | .closed => ended
      | .closing => park l true (addHold l .machine faulted)
      | _ => addHold l .machine faulted)) ∧
  ∀ (l : Lane) (code : Byte) (s : State), coreOn s = true →
    let r := s.lane l
    let u := r.sup
    let raised := fun (c : Counter) => Counter.mk (min 255 (c.value + 1)) (c.full || decide (254 ≤ c.value))
    let counted := fun (v : Supervisor) => { v with counters := { v.counters with fault := raised v.counters.fault } }
    let noted := fun (v : Supervisor) (t : State) => raiseNotice .fault (scopeOfLane l) (t.setLane l { r with sup := v })
    let c := if u.cycle = .cycling ∨ u.cycle = .recover then u.cycleRec else none
    let off := { u with power := .standby, warmUpTimer := none, link := u.link ++ [.powerOff] }
    Safety.Does (.machineFault l code) s
      (faultMove l code.toNat (noted { counted u with lastFault := some (.message code.toNat) } s)) ∧
    (c = none → Safety.Does (.cycleWatchdogExpiry l) s s) ∧
    (∀ x ∈ c, x.attempt = 1 → Safety.Does (.cycleWatchdogExpiry l) s (s.setLane l { r with sup := { u with
      latched := none
      cycleRec := some { purpose := x.purpose, kind := .reset, picked := none, attempt := 2, latched := false }
      watchdogTimer := some { startedAt := s.tick, length := 100 * u.timing.watchdog }
      link := u.link ++ [.stop, .cycle .reset] } })) ∧
    (∀ x ∈ c, ∀ n, x.attempt ≠ 1 → Safety.Does (.cycleWatchdogExpiry l) s (faultMove l n (noted { u with
      latched := none
      cycleRec := none
      watchdogTimer := none
      lastFault := some .watchdog
      counters := { u.counters with timeout := raised u.counters.timeout }
      link := u.link ++ [.stop] } s))) ∧
    (u.power ≠ .warming → Safety.Does (.warmUpExpiry l) s s) ∧
    (u.power = .warming → ∃ n, 1 ≤ n ∧ n ≤ 255 ∧ Safety.Does (.warmUpExpiry l) s
      (faultMove l n { noted { counted off with lastFault := some .warmUp } s with free := s.free + 1 })) ∧
    (let runs := u.power = .running ∧ (u.cycle = .armed ∨ u.cycle = .gated) ∧ u.timing.idle ≠ 0 ∧ u.idleTimer ≠ none
     (¬runs → Safety.Does (.idleStandbyExpiry l) s s) ∧
     (runs → Safety.Does (.idleStandbyExpiry l) s (s.setLane l { r with sup := { u with
       cycle := .gated
       foulPending := if u.cycle = .armed then false else u.foulPending
       power := .standby
       idleTimer := none
       link := u.link ++ [.powerOff] } })))

/-- R64 to R66, R71, R154, R158, R160, R162: WARM, RESPOT_POINT and CYCLE_DONE. WARM in WARMING makes the machine
RUNNING and lets GATED decide, RECOVER recover and a waiting test begin. The latch spots the Next Deck, for RESPOT only
its picked-up pins. The cycle's end is counted with the maintenance test, leaves nothing latched and the deck stale when
no latch came, and goes on by lane state and purpose. Messages that the cycle state does not await are discarded. A test
that ends in a CLOSED lane leaves it PARKED with the machine powered down and keeps the latch (R54; log entry 20), and
one that ends in a lane opened meanwhile goes to FAULT under MACHINE and else decides (log entry 22). The closing cycle
(R158) is issued with the machine RUNNING; with it OFF the supervisor parks, and otherwise it goes to RECOVER. -/
def Obligations.MachineMessages : Prop :=
  ∀ (l : Lane) (s : State), coreOn s = true →
    let r := s.lane l
    let u := r.sup
    let run := s.setLane l { r with sup := { u with power := .running, warmUpTimer := none } }
    let c := if u.cycle = .cycling ∨ u.cycle = .recover then u.cycleRec else none
    let stale := fun (t : State) => if (t.sup l).stale = true then t
      else raiseNotice .staleDeck (scopeOfLane l) (t.setLane l { t.lane l with sup := { t.sup l with stale := true } })
    (u.power ≠ .warming → Safety.Does (.warm l) s s) ∧
    (u.power = .warming → Safety.Does (.warm l) s
      (if u.cycle = .gated then arm l run
       else if u.cycle = .recover ∧ u.cycleRec = none then issueCycle l .recovery .reset none run
       else if u.cycle = .parked ∧ u.testMark = true then issueCycle l .test .reset none run
       else run)) ∧
    (c = none → Safety.Does (.respotPoint l) s s ∧ Safety.Does (.cycleDone l) s s) ∧
    (∀ x ∈ c,
      (x.latched = true → Safety.Does (.respotPoint l) s s) ∧
      (x.latched = false →
        let spot := if x.kind = .respot then u.nextDeck &&& x.picked.getD u.nextDeck else u.nextDeck
        let t := s.setLane l { r with sup := { u with
          latched := some spot, cycleRec := some { x with latched := true }, link := u.link ++ [.spot spot] } }
        Safety.Does (.respotPoint l) s (if spot = u.nextDeck then
            t.setLane l { t.lane l with sup := { t.sup l with stale := false } }
          else stale t)) ∧
      (let k := u.counters
       let since := min 4294967295 (k.sinceService + 1)
       let due := u.maintInterval ≠ 0 ∧ u.maintInterval ≤ since ∧ u.maintDue = false
       let t0 := s.setLane l { r with sup := { u with
         watchdogTimer := none
         counters := { k with cycles := min 4294967295 (k.cycles + 1), sinceService := since }
         maintDue := if due then true else u.maintDue } }
       let t1 := if due then raiseNotice .maint (scopeOfLane l) t0 else t0
       let t2 := if x.latched = true then t1
         else stale (t1.setLane l { t1.lane l with sup := { t1.sup l with latched := none } })
       let t := t2.setLane l { t2.lane l with sup := { t2.sup l with cycleRec := none } }
       let untested := fun (cy : CycleState) => t.setLane l { t.lane l with sup := { t.sup l with testMark := false, cycle := cy } }
       (r.state = .closing →
         (x.kind = .reset → x.latched = true → u.latched = some fullRack → Safety.Does (.cycleDone l) s (park l false t)) ∧
         (¬(x.kind = .reset ∧ x.latched = true ∧ u.latched = some fullRack) →
           let v := untested u.cycle
           Safety.Does (.cycleDone l) s (match u.power with
             | .running => issueCycle l .close .reset none v
             | .off => park l false v
             | _ => enterRecover l v))) ∧
       (r.state ≠ .closing →
         ((x.purpose = .delivery ∨ x.purpose = .align ∨ x.purpose = .resetDeck) → Safety.Does (.cycleDone l) s (arm l t)) ∧
         (x.purpose = .recovery → Safety.Does (.cycleDone l) s
           (arm l (t.setLane l { t.lane l with holds := { r.holds with machine := false, service := false } }))) ∧
         (x.purpose = .close → Safety.Does (.cycleDone l) s (park l false t)) ∧
         (x.purpose = .test → r.state = .closed →
           let down := u.power = .warming ∨ u.power = .running
           Safety.Does (.cycleDone l) s (t.setLane l { t.lane l with sup := { t.sup l with
             cycle := .parked, foulPending := false, delivery := none, cycleRec := none, settleTimer := none
             deckTimer := none, watchdogTimer := none, idleTimer := none, testMark := false
             power := if down then .standby else u.power
             warmUpTimer := if down then none else u.warmUpTimer
             link := if down then u.link ++ [.powerOff] else u.link } })) ∧
         (x.purpose = .test → r.state ≠ .closed → r.holds.machine = false →
           Safety.Does (.cycleDone l) s (arm l (untested u.cycle))) ∧
         (x.purpose = .test → r.state ≠ .closed → r.holds.machine = true → Safety.Does (.cycleDone l) s
           ((untested .fault).setLane l { (untested .fault).lane l with
             sup := { (untested .fault).sup l with foulPending := false } })))))

/-- R70, R156, R157: CLEAR_FAULT, SET_MACHINE OFF and SET_MACHINE ON. CLEAR_FAULT takes FAULT with a machine that is not
OFF to RECOVER. OFF stops the cycle, powers the machine off, adds SERVICE and moves ARMED to GATED, CYCLING to RECOVER
(in a CLOSED lane to PARKED). ON puts the machine in STANDBY, and in a lane that is not CLOSED wakes it and takes GATED
and FAULT to RECOVER. A code that names no lane is refused RANGE by log entry 10, POWER_OFF sent from STANDBY is log
entry 19, and a selector that is neither ON nor OFF log entry 28. -/
def Obligations.MachinePower : Prop :=
  ∀ (e : Envelope) (l : Lane) (bad : Byte) (stray : Option Byte) (s : State),
    let r := s.lane l
    let u := r.sup
    (Safety.Taken e .service 1 s →
      Safety.Refuses (.clearFault e (.bad bad)) e 30#8 s .range ∧
      (u.cycle ≠ .fault ∨ u.power = .off → Safety.Refuses (.clearFault e (.val l)) e 30#8 s .state) ∧
      (u.cycle = .fault → u.power ≠ .off → Safety.Completes (.clearFault e (.val l)) e 30#8 s .ok []
        (enterRecover l (Safety.heard e 30#8 s)))) ∧
    (Safety.Taken e .service 2 s →
      let h := Safety.heard e 33#8 s
      let stops := u.cycleRec ≠ none
      let t := addHold l .service (h.setLane l { r with sup := { u with
        cycleRec := none
        latched := if stops then none else u.latched
        watchdogTimer := if stops then none else u.watchdogTimer
        warmUpTimer := none
        idleTimer := none
        testMark := false
        power := .off
        link := u.link ++ (if stops then [.stop] else []) ++ [.powerOff] } })
      let off := match (t.sup l).cycle with
        | .armed => gate l t
        | .cycling => if (t.lane l).state = .closed then t.setLane l { t.lane l with sup := { t.sup l with
              cycle := .parked, foulPending := false, delivery := none, settleTimer := none, deckTimer := none
              watchdogTimer := none } }
            else enterRecover l t
        | .recover => if (t.lane l).state = .closing then park l false t else t
        | _ => t
      let standby := h.setLane l { r with sup := { u with power := .standby } }
      let on := if r.state = .closed then standby
        else if u.cycle = .gated ∨ u.cycle = .fault then enterRecover l (wake l standby) else wake l standby
      Safety.Refuses (.setMachineOff e (.bad bad)) e 33#8 s .range ∧
      Safety.Refuses (.setMachineOn e ⟨.bad bad, stray⟩) e 33#8 s .range ∧
      (stray ≠ none → Safety.Refuses (.setMachineOn e ⟨.val l, stray⟩) e 33#8 s .range) ∧
      (u.power = .off →
        Safety.Completes (.setMachineOff e (.val l)) e 33#8 s .ok [0#8] h ∧
        Safety.Completes (.setMachineOn e ⟨.val l, none⟩) e 33#8 s .ok [if r.state = .closed then 1#8 else 2#8] on) ∧
      (u.power ≠ .off →
        Safety.Completes (.setMachineOff e (.val l)) e 33#8 s .ok [0#8] off ∧
        Safety.Completes (.setMachineOn e ⟨.val l, none⟩) e 33#8 s .ok [BitVec.ofNat 8 (powerCode u.power)] h))

/-- R73, R160 to R162: SET_TIMING, TEST_CYCLE, CLEAR_COUNTERS, SET_MAINT_INTERVAL and MAINT_DONE. Settings carried are
clamped and the others stay; a running timer keeps its length, but for an idle standby set to 0 (log entry 48). A test
needs a CLOSED lane, PARKED with no test and the machine not OFF. The interval clears the due flag and is tested at
once. A code that names no lane is refused RANGE by log entry 10, and the settle time in tenths is log entry 29. -/
def Obligations.ServiceSettings : Prop :=
  ∀ (e : Envelope) (l : Lane) (bad : Byte) (s : State),
    let r := s.lane l
    let u := r.sup
    (∀ (f : TimingFields) (w : LaneChoice), Safety.Taken e .service 5 s →
      let h := Safety.heard e 32#8 s
      let near := fun (lo hi : Nat) (x : Option Byte) (old : Nat) => (x.map fun b => max lo (min hi b.toNat)).getD old
      let timing := fun (k : Lane) =>
        let t := (s.sup k).timing
        Timing.mk (near 5 60 f.settle t.settle) (near 4 30 f.watchdog t.watchdog) (near 5 60 f.warmUp t.warmUp)
          ((f.idle.map fun b => if b.toNat ≤ 60 then b.toNat else 60).getD t.idle)
      let outside := fun (lo hi : Nat) (x : Option Byte) => ∃ b ∈ x, b.toNat < lo ∨ hi < b.toNat
      let limited := outside 5 60 f.settle ∨ outside 4 30 f.watchdog ∨ outside 5 60 f.warmUp ∨ outside 0 60 f.idle
      let lane := fun (k : Lane) (named : Bool) =>
        if named then { s.lane k with sup := { s.sup k with timing := timing k } } else s.lane k
      let bytes := fun (k : Lane) (named : Bool) => if named then timingBytes (timing k) else []
      Safety.Refuses (.setTiming e (.bad bad) f) e 32#8 s .range ∧
      Safety.Completes (.setTiming e (.val w) f) e 32#8 s (if limited then .limited else .ok)
        (bytes .a (w != .b) ++ bytes .b (w != .a)) { h with lanes := { a := lane .a (w != .b), b := lane .b (w != .a) } }) ∧
    (Safety.Taken e .service 1 s →
      let h := Safety.heard e 34#8 s
      let tests := r.state = .closed ∧ u.cycle = .parked ∧ u.testMark = false ∧ u.power ≠ .off
      let marked := h.setLane l { r with sup := { u with testMark := true } }
      let zero : Counter := { value := 0, full := false }
      Safety.Refuses (.testCycle e (.bad bad)) e 34#8 s .range ∧
      Safety.Refuses (.clearCounters e (.bad bad)) e 35#8 s .range ∧
      Safety.Refuses (.maintDone e (.bad bad)) e 37#8 s .range ∧
      (¬tests → Safety.Refuses (.testCycle e (.val l)) e 34#8 s .state) ∧
      (tests → Safety.Completes (.testCycle e (.val l)) e 34#8 s .ok []
        (if u.power = .running then issueCycle l .test .reset none marked else wake l marked)) ∧
      Safety.Completes (.clearCounters e (.val l)) e 35#8 s .ok [] ((Safety.heard e 35#8 s).setLane l { r with sup := { u with
        counters := { u.counters with timeout := zero, fault := zero, deckFail := zero, mismatch := zero } } }) ∧
      Safety.Completes (.maintDone e (.val l)) e 37#8 s .ok [] ((Safety.heard e 37#8 s).setLane l { r with sup := { u with
        maintDue := false, counters := { u.counters with sinceService := 0 } } })) ∧
    (∀ x : BitVec 32, Safety.Taken e .service 5 s →
      let n := if x.toNat = 0 then 0 else max 1000 (min 500000 x.toNat)
      let due := n ≠ 0 ∧ n ≤ u.counters.sinceService
      let t := (Safety.heard e 36#8 s).setLane l { r with sup := { u with maintInterval := n, maintDue := decide due } }
      Safety.Refuses (.setMaintInterval e (.bad bad) x) e 36#8 s .range ∧
      Safety.Completes (.setMaintInterval e (.val l) x) e 36#8 s (if n = x.toNat then .ok else .limited) (be4 n)
        (if due then raiseNotice .maint (scopeOfLane l) t else t))

/-! ### The ball return (chapter 6) -/

/-- R108 to R115: the sensors and timers of the ball return. A pit exit joins the queue and starts the lift, or with ten
balls there is the sensor fault; an arrival takes the head, frees a jam, or is a stray; the run-on and the two clearing
phases end as their rules say; the transit test expires when the head's age, since the later of its exit and the age
base, exceeds the limit held, and starts the first attempt; after the third attempt the jam is declared: counted, held
on both lanes and raised. That an expiry with no timer or no age test run out changes nothing is log entry 2. -/
def Obligations.ReturnEvents : Prop :=
  ∀ (l : Lane) (s : State), coreOn s = true →
    let m := s.ret
    let held := fun (t : State) => addHold .b .ret (addHold .a .ret t)
    let freed := fun (t : State) => raiseNotice .returnOk .pair (removeHold .b .ret (removeHold .a .ret t))
    let x : ReturnEntry := { origin := l, exitTime := s.tick }
    let age := fun x : ReturnEntry =>
      let a := (s.tick + (4294967296 - x.exitTime % 4294967296)) % 4294967296
      match m.ageBase with
      | some b => min a ((s.tick + (4294967296 - b % 4294967296)) % 4294967296)
      | none => a
    let waits := m.state = .carrying ∨ m.state = .clearing ∨ m.state = .jammed
    let arrived := { s with ret := { m with
      state := .carrying, queue := m.queue.tail, ageBase := some s.tick, runOn := decide (m.queue.length ≤ 1), attempt := 0
      phase := none, lift := .forward } }
    let attempt := fun (n : Nat) => { s with ret := { m with
      state := .clearing, attempt := n, phase := some .reverse, lift := .reverse } }
    (m.state = .idle → Safety.Does (.pitExit l) s { s with ret := { m with
      state := .carrying, queue := m.queue ++ [x], lift := .forward } }) ∧
    (waits → m.queue.length < 10 → Safety.Does (.pitExit l) s { s with ret := { m with
      queue := m.queue ++ [x], runOn := if m.state = .carrying then false else m.runOn } }) ∧
    (waits → 10 ≤ m.queue.length → Safety.Does (.pitExit l) s (raiseNotice .returnJam .pair (held { s with ret := { m with
      state := .fault, sensorFault := true, runOn := false, attempt := 0, phase := none, lift := .off } }))) ∧
    (m.state = .fault ∨ m.state = .off → Safety.Does (.pitExit l) s s ∧ Safety.Does .arrival s s) ∧
    (m.state = .idle ∨ (m.state = .carrying ∧ m.queue = []) → Safety.Does .arrival s { s with ret := { m with stray := true } }) ∧
    ((m.state = .carrying ∧ m.queue ≠ []) ∨ m.state = .clearing → Safety.Does .arrival s arrived) ∧
    (m.state = .jammed → Safety.Does .arrival s (freed arrived)) ∧
    Safety.Does .runOnExpiry s (if m.runOn = true then
      { s with ret := { m with runOn := false, lift := .off, ageBase := none, state := .idle } } else s) ∧
    Safety.Does .transitExpiry s (if m.state = .carrying ∧ ∃ x ∈ m.queue.head?, 100 * m.limit < age x then attempt 1 else s) ∧
    Safety.Does .reversePhaseEnd s (if m.phase = some .reverse then
      { s with ret := { m with phase := some .forward, lift := .forward } } else s) ∧
    (m.phase ≠ some .forward → Safety.Does .forwardPhaseEnd s s) ∧
    (m.phase = some .forward → m.attempt < 3 → Safety.Does .forwardPhaseEnd s (attempt (m.attempt + 1))) ∧
    (m.phase = some .forward → 3 ≤ m.attempt → Safety.Does .forwardPhaseEnd s
      (raiseNotice .returnJam .pair (held { s with ret := { m with
        state := .jammed, lift := .off, attempt := 0, phase := none
        jam := { value := min 255 (m.jam.value + 1), full := m.jam.full || decide (254 ≤ m.jam.value) } } })))

/-- R117 to R119: CLEAR_RETURN, SET_RETURN and READ_RETURN. Emptying the track leaves JAMMED and FAULT with their holds
removed and RETURN_OK; OFF is refused in FAULT. A transit limit is clamped and takes effect at once for the ball under
way. The record is read as it stood before the clears, its fields in the order of R119, and the lift enables are those
of the lift drive state (R107). A power code that is neither ON nor OFF is RANGE by log entry 10, the reply's layout is
log entry 11, its run-on byte log entry 47, the limit's taking effect before the power log entry 33, and its taking
effect beside OFF in OFF log entry 41. -/
def Obligations.ReturnRequests : Prop :=
  (∀ (e : Envelope) (bad : Byte) (power : Option OnOff) (limit : Option Byte) (stray jam : Bool) (s : State),
    let m := s.ret
    let emptied := fun (st : ReturnState) (t : State) =>
      let u := { t with ret := { t.ret with
        state := st, sensorFault := false, queue := [], ageBase := none, runOn := false, attempt := 0, phase := none
        lift := .off } }
      if t.ret.state = .jammed ∨ t.ret.state = .fault then
        raiseNotice .returnOk .pair (removeHold .b .ret (removeHold .a .ret u)) else u
    (Safety.Taken e .service 0 s →
      (m.state = .off → Safety.Refuses (.clearReturn e) e 38#8 s .state) ∧
      (m.state ≠ .off → Safety.Completes (.clearReturn e) e 38#8 s .ok [] (emptied .idle (Safety.heard e 38#8 s)))) ∧
    (Safety.Taken e .service 2 s →
      let h := Safety.heard e 39#8 s
      let c : Instr := .setReturn e (power.map .val) limit
      let n := (limit.map fun b => max 8 (min 60 b.toNat)).getD m.limit
      let age := fun x : ReturnEntry =>
        let a := (s.tick + (4294967296 - x.exitTime % 4294967296)) % 4294967296
        match m.ageBase with
        | some b => min a ((s.tick + (4294967296 - b % 4294967296)) % 4294967296)
        | none => a
      let late := limit ≠ none ∧ m.state = .carrying ∧ ∃ x ∈ m.queue.head?, 100 * n < age x
      let t0 := { h with ret := if late then
          { m with limit := n, state := .clearing, attempt := 1, phase := some .reverse, lift := .reverse }
        else { m with limit := n } }
      let t := if power = some .off ∧ m.state ≠ .off then emptied .off t0
        else if power = some .on ∧ m.state = .off then { t0 with ret := { t0.ret with state := .idle } } else t0
      Safety.Refuses (.setReturn e (some (.bad bad)) limit) e 39#8 s .range ∧
      (power = some .off → m.state = .fault → Safety.Refuses c e 39#8 s .state) ∧
      (¬(power = some .off ∧ m.state = .fault) → Safety.Completes c e 39#8 s
        (if ∃ b ∈ limit, b.toNat < 8 ∨ 60 < b.toNat then .limited else .ok)
        [BitVec.ofNat 8 (returnStateCode t.ret.state), BitVec.ofNat 8 n] t) ∧
      Safety.Completes (.readReturn e stray jam) e 40#8 s .ok (returnReply s) { Safety.heard e 40#8 s with ret := { m with
        stray := if stray = true then false else m.stray
        jam := if jam = true then { value := 0, full := false } else m.jam } })) ∧
  Safety.ReturnLayout ∧
  ∀ s : State, liftEnables s = (decide (s.ret.lift = .forward), decide (s.ret.lift = .reverse))

/-! ### Reading the records (R46, R74, R136, R137, R145, R151, R167, R172, R181, R186 to R188) -/

/-- The requests that read a record answer it as it stands and change nothing else: account, session summary, sheet,
working and stored rates, clock, machine, supply and notices; READ_SUPPLY may then clear the failure record.
READ_SESSION without a summary is ABSENT, a sheet part above 8 RANGE, and the stored rates STORE_BUSY while a
programming is under way. The fields stand where R186 to R188 put them: the sheet's two kinds of part, the account, the
summary, the working and stored rates and the notices; the machine, clock and supply replies hold their fields in the
order of R74, R164, R167 and R172; every reply has its length, and every enumeration is coded by its place in its list
(R185). The untabulated layouts (clock, machine, supply) are log entry 11, the byte for a latched cycle log entry 47, a
code that names no lane is RANGE by log entry 10, and a copy selector that names neither copy by log entry 28. -/
def Obligations.RecordReads : Prop :=
  (∀ (e : Envelope) (l : Lane) (bad part : Byte) (clear : Bool) (s : State),
    let reads := fun (c : Instr) (code : Byte) (body : List Byte) =>
      Safety.Completes c e code s .ok body (Safety.heard e code s)
    (Safety.Taken e e.port 1 s → e.port ≠ .service →
      reads (.readAccount e (.val l)) 7#8 (accountReply s l) ∧ Safety.Refuses (.readAccount e (.bad bad)) e 7#8 s .range) ∧
    (Safety.Taken e .desk 1 s →
      Safety.Refuses (.readSession e (.bad bad)) e 8#8 s .range ∧
      ((s.lane l).summary = none → Safety.Refuses (.readSession e (.val l)) e 8#8 s .absent) ∧
      (∀ m ∈ (s.lane l).summary, reads (.readSession e (.val l)) 8#8 (summaryBytes m))) ∧
    (Safety.Taken e e.port 2 s → e.port ≠ .service →
      Safety.Refuses (.readSheet e (.bad bad) part) e 19#8 s .range ∧
      (part.toNat ≤ 8 → reads (.readSheet e (.val l) part) 19#8 (sheetReply s l part.toNat)) ∧
      (8 < part.toNat → Safety.Refuses (.readSheet e (.val l) part) e 19#8 s .range)) ∧
    (Safety.Taken e e.port 1 s → e.port ≠ .console → reads (.rateReadWorking ⟨e, none⟩) 27#8 (workingReply s) ∧
      Safety.Refuses (.rateReadWorking ⟨e, some bad⟩) e 27#8 s .range) ∧
    (Safety.Taken e .desk 0 s → reads (.clockRead e) 29#8 (clockBytes s.clock)) ∧
    (Safety.Taken e .service 1 s →
      (s.rates.programming = none → reads (.rateReadStored e) 27#8 (storedReply s)) ∧
      (s.rates.programming ≠ none → Safety.Refuses (.rateReadStored e) e 27#8 s .storeBusy) ∧
      Safety.Refuses (.readMachine e (.bad bad)) e 31#8 s .range ∧
      reads (.readMachine e (.val l)) 31#8 (machineReply s l) ∧
      (let h := Safety.heard e 41#8 s
       Safety.Completes (.readSupply e clear) e 41#8 s .ok (supplyReply s) (if clear = true then
         { h with supply := { h.supply with failures := 0, lastFailure := none } } else h))) ∧
    (Safety.Taken e e.port 0 s → reads (.readNotices e) 43#8 (noticesReply (s.port e.port)))) ∧
  Safety.SheetLayout ∧ Safety.AccountLayout ∧ Safety.RateAndNoticeLayout ∧ Safety.MachineLayout ∧
  Safety.ClockAndSupplyLayout ∧ Safety.EnumerationCodes ∧
  (∀ (s : State) (l : Lane), (accountReply s l).length = 51 ∧ (∀ m, (summaryBytes m).length = 38) ∧
    (s.rates.working.length = 16 → (workingReply s).length = 195) ∧ (s.rates.store.length = 16 → (storedReply s).length = 224) ∧
    (clockBytes s.clock).length = 6 ∧ (supplyReply s).length = 15 ∧
    (returnReply s).length = 11 + 3 * s.ret.queue.length ∧
    (sheetReply s l 0).length = 19 + 22 * (s.squadOn l).order.length ∧
    (∀ v : PortState, (noticesReply v).length = 6 + 2 * v.notices.length) ∧
    (machineReply s l).length =
      36 + (if (s.sup l).delivery = none then 1 else 5) + (if (s.sup l).cycleRec = none then 1 else 5))

/-! ### Supply (chapter 10) -/

/-- R168 to R172: the supply and the external reset input. A main failure stops the core and is counted and stamped;
main back starts it when reset is not asserted, and reset released starts it when main is there; retention lost takes
the retained records to their cold-start values, which are here written out (R22, R23, R75, R120, R138, R164, R172),
while the Rate Store, the counters and the maintenance settings stay (R146, R163); battery low is raised when it first
shows; reset asserted stops a running core. The waits and a second failure under an asserted reset are log entry 24, the
loss taken at once log entry 25, the serials over a restart log entry 26, and what the stopped core held log entry 36.
That a battery that shows low with main present but the reset input asserted raises nothing is log entry 7.
-/
def Obligations.SupplyEvents : Prop :=
  (∀ s : State,
    let lane := fun l : Lane => LaneRec.mk .closed HoldSet.none l true false none 0
      { cycle := .parked, power := .standby, nextDeck := fullRack, latched := none, stale := false, foulPending := false
        delivery := none, cycleRec := none, lastFault := none, settleTimer := none, deckTimer := none
        watchdogTimer := none, warmUpTimer := none, idleTimer := none
        timing := { settle := 20, watchdog := 12, warmUp := 20, idle := 10 }, counters := (s.sup l).counters
        testMark := false, maintInterval := (s.sup l).maintInterval, maintDue := (s.sup l).maintDue, link := (s.sup l).link }
      { mode := .game, gameCredit := 0, creditsLoaded := 0, creditsTaken := 0, timeCredit := 0, minutesLoaded := 0
        minutesMetered := 0, phase := 0, centMinutes := 0, gameCharges := 0, warn := 5, warned := false, openTime := none }
      0 none
    let squad := fun q : SquadId => Squad.mk q q .forming 1 none 1 1 (.count 1) []
    coldRecords s = { s with
      lanes := { a := lane .a, b := lane .b }
      pairMode := .single
      squads := { a := squad .a, b := squad .b }
      ret := { state := .idle, sensorFault := false, queue := [], ageBase := none, runOn := false, attempt := 0
               phase := none, lift := .off, limit := 20, jam := { value := 0, full := false }, stray := false }
      clock := { weekday := 1, hour := 0, minute := 0, second := 0, valid := false, crystal := s.clock.crystal }
      supply := { s.supply with failures := 0, lastFailure := none } }) ∧
  ∀ s : State,
    let p := s.supply
    let quiet := fun (v : PortState) =>
      { v with request := none, outgoing := [], transmitting := false, phase := .free, pulse := false }
    let cut := fun (r : LaneRec) => { r with sup := { r.sup with link := r.sup.link ++ [.stop, .powerOff] } }
    let stopped := fun (q : Supply) => { s with
      lanes := { a := cut s.lanes.a, b := cut s.lanes.b }
      ret := { s.ret with lift := .off }
      rates := { s.rates with programming := none }
      desk := quiet s.desk, console := quiet s.console, service := quiet s.service
      supply := q }
    let stamp : Option ClockReading := if s.clock.valid = true then
        some { weekday := s.clock.weekday, hour := s.clock.hour, minute := s.clock.minute, second := s.clock.second } else none
    let starts := fun (k : StartKind) => if p.retention = true then bumpSerial s .b (bumpSerial s .a (startOn k s))
      else startOn .cold (coldRecords s)
    exec .mainFailure s = .next (if p.state = .main then
        stopped { p with state := .backup, failures := min 65535 (p.failures + 1), lastFailure := stamp }
      else { s with supply := { p with mainBack := false } }) ∧
    exec .mainReturn s = .next (if p.state = .main then s
      else if p.resetAsserted = true then { s with supply := { p with mainBack := true } } else starts .mainReturn) ∧
    exec .retentionLoss s = .next (if p.state = .backup ∧ p.mainBack = false then
        let t := coldRecords s
        { t with supply := { t.supply with retention := false } } else s) ∧
    (let t := { s with supply := { p with batteryLow := true } }
     exec .batteryLowSet s = .next (if p.batteryLow = false ∧ coreOn s = true then raiseNotice .battery .pair t else t)) ∧
    exec .batteryLowClear s = .next { s with supply := { p with batteryLow := false } } ∧
    exec .externalResetAssert s = .next (if coreOn s = true then stopped { p with resetAsserted := true } else s) ∧
    exec .externalResetRelease s = .next (if p.resetAsserted = false then s
      else if p.state = .main then starts .resetInput
      else if p.mainBack = true then starts .mainReturn
      else { s with supply := { p with resetAsserted := false } })

/-- R22, R75, R76, R104, R120, R152, R158, R163, R169, R183: what a start of the core leaves, whole. The ports are free
with all kinds masked in and LEVEL, and hold POWER, with CLOCK for an invalid clock and BATTERY when it is low; the tick
count is 0; the address is read from the straps. The working copy is loaded: a GOOD stored value with its flag set, and
else an absent entry, entry 0 the factory default; the entry in effect is chosen from it. Every lane's Next Deck is
derived from its squad's sheet, with nothing latched, stale, pending, delivered, cycled or timed; last fault, settings,
counters, account and summary stay. A lane that is not CLOSED loses RETURN and ENTRY, and a PLAYING or GRACE lane gains
POWER; under MACHINE its supervisor is in FAULT, and else in RECOVER with its machine woken unless it is OFF. A CLOSING
lane under MACHINE, or with its machine OFF, parks and enters CLOSED (R158; log entry 23). The squads and the pair mode
stay, but for the squad of a lane that enters CLOSED. -/
def Obligations.StartLeaves : Prop :=
  ∀ (k : StartKind) (s : State),
    let t := startOn k s
    let power : Notice := { kind := .power, scope := .pair }
    let clock : List Notice := if s.clock.valid = true then [] else [{ kind := .clock, scope := .pair }]
    let low : List Notice := if s.supply.batteryLow = true then [{ kind := .battery, scope := .pair }] else []
    let started := fun notices : List Notice => PortState.mk none [] false .free notices (BitVec.allOnes 20) .level false
    let parks := fun l : Lane =>
      (s.lane l).state = .closing ∧ ((s.lane l).holds.machine = true ∨ (s.sup l).power = .off)
    let working := s.rates.store.mapIdx fun n x =>
      if x.state = .good ∧ x.value.present = true then x.value
      else RateEntry.mk (decide (n = 0)) none 0 0 0 0
    t = { s with lanes := t.lanes, squads := t.squads, ret := t.ret, rates := t.rates, supply := t.supply, desk := t.desk
                 console := t.console, service := t.service, address := t.address, tick := 0 } ∧
    t.supply = { s.supply with
      state := .main, retention := true, lastStart := k, resetAsserted := false, mainBack := false } ∧
    t.desk = started (clock ++ [power] ++ low) ∧ t.console = started [power] ∧ t.service = started ([power] ++ low) ∧
    t.address = (if s.straps = 0#6 then 64 else s.straps.toNat) ∧
    t.ret = { state := .idle, sensorFault := false, queue := [], ageBase := none, runOn := false, attempt := 0, phase := none,
              lift := .off, limit := s.ret.limit, jam := s.ret.jam, stray := false } ∧
    t.rates = { s.rates with working := working, inEffect := chosenEntry working s.clock, programming := none } ∧
    (∀ q, t.squad q = if (parks .a ∧ s.lanes.a.squad = q) ∨ (parks .b ∧ s.lanes.b.squad = q) then
        { s.squad q with state := .forming, round := 1, slot := none, ball := 1, game := 1, games := .count 1, order := [] }
      else s.squad q) ∧
    ∀ l,
      let r := s.lane l
      let q := s.squad r.squad
      let off := r.sup.power = .off
      let machine := r.holds.machine = true
      let wakes := r.state ≠ .closed ∧ ¬machine ∧ ¬off
      let deck := match q.currentBowler with
        | some b => if q.ball = 1 then fullRack else nextLeave q.round (frameAt b.sheet q.round).balls
        | none => fullRack
      let cycle : CycleState :=
        if r.state = .closed ∨ parks l then .parked else if machine then .fault else .recover
      let sup := { r.sup with
        cycle := cycle, nextDeck := deck, latched := none, stale := false, foulPending := false, delivery := none
        cycleRec := none, settleTimer := none, deckTimer := none, watchdogTimer := none, idleTimer := none, testMark := false
        power := if off then .off else if wakes then .warming else .standby
        warmUpTimer := if wakes then some { startedAt := 0, length := 100 * r.sup.timing.warmUp } else none
        link := if wakes then r.sup.link ++ [.powerOn] else r.sup.link }
      (r.state = .closed → t.lane l = { r with reopen := none, runTicks := 0, sup := sup }) ∧
      (r.state ≠ .closed → ¬parks l → t.lane l = { r with
        reopen := none, runTicks := 0, sup := sup
        holds := { r.holds with ret := false, entry := false
                                power := r.holds.power || decide (r.state = .playing ∨ r.state = .grace) } }) ∧
      (parks l → t.lane l = { r with
        state := .closed, holds := HoldSet.none, reopen := none, runTicks := 0, sup := sup
        latchedFault := r.latchedFault || r.holds.machine
        acct := { mode := .game, gameCredit := 0, creditsLoaded := 0, creditsTaken := 0, timeCredit := 0, minutesLoaded := 0
                  minutesMetered := 0, phase := 0, centMinutes := 0, gameCharges := 0, warn := 5, warned := false
                  openTime := none } })

/-- R173: RESET_PAIR. A lane not CLOSED, a test, or a supervisor not PARKED is STATE, a programming under way
STORE_BUSY. Taken, the pair takes its cold-start values, a machine WARMING or RUNNING gets POWER_OFF, the rates are
loaded as R152 gives (a GOOD value with its flag set, and else an absent entry, entry 0 the factory default), the sheet
serials end at 0, and what is nonvolatile stays: counters, maintenance, the Rate Store, the clock and the ports. -/
def Obligations.PairReset : Prop :=
  ∀ (e : Envelope) (s : State), Safety.Taken e .service 0 s →
    let bothClosed := (s.lane .a).state = .closed ∧ (s.lane .b).state = .closed
    let parked := ∀ l ∈ [s.sup .a, s.sup .b], l.cycle = .parked ∧ l.testMark = false
    let ready := bothClosed ∧ parked ∧ s.rates.programming = none
    (¬(bothClosed ∧ parked) → Safety.Refuses (.resetPair e) e 42#8 s .state) ∧
    (bothClosed → parked → s.rates.programming ≠ none → Safety.Refuses (.resetPair e) e 42#8 s .storeBusy) ∧
    (ready →
      let h := Safety.heard e 42#8 s
      let lane := fun (l : Lane) => { LaneRec.reset l with sup := { Supervisor.reset with
        counters := (s.sup l).counters
        maintInterval := (s.sup l).maintInterval
        maintDue := (s.sup l).maintDue
        link := if (s.sup l).power = .warming ∨ (s.sup l).power = .running then (s.sup l).link ++ [.powerOff] else (s.sup l).link } }
      let working := s.rates.store.mapIdx fun n x =>
        if x.state = .good ∧ x.value.present = true then x.value
        else RateEntry.mk (decide (n = 0)) none 0 0 0 0
      exec (.resetPair e) s = .next (Safety.replied e 42#8 .ok [] { h with
        lanes := { a := lane .a, b := lane .b }
        pairMode := .single
        squads := { a := Squad.reset .a, b := Squad.reset .b }
        ret := ReturnMonitor.reset
        rates := { s.rates with working := working, inEffect := chosenEntry working s.clock, programming := none } }))

/-! ### Notices and the ports (chapter 11) -/

/-- R181, R182: ACK_NOTICES and SET_NOTICE_MASK. Of 1 to 32 listed notices, all known, those in the port's own set leave
it and the reply counts what stays; an unknown one is RANGE and the set stays. A mask with a bit above kind 19, or a
mode that is none, is RANGE; a pulse goes on only from PULSE to PULSE. The attention line of a port, while the core
runs, is asserted in LEVEL exactly while a masked-in notice is held, and in PULSE exactly while a pulse runs. An
attention mode that is none is RANGE by log entry 10. -/
def Obligations.NoticeRequests : Prop :=
  (∀ (e : Envelope) (s : State),
    let p := e.port
    (∀ ns : List NoticeFields, Safety.Taken e p (1 + 2 * ns.length) s →
      let h := Safety.heard e 44#8 s
      let known := ∀ n ∈ ns, n.kind.toNat ≤ 19 ∧ n.scope.toNat ≤ 2
      let left := (s.port p).notices.filter fun n =>
        !ns.any fun f => f.kind.toNat == n.kind.code && f.scope.toNat == n.scope.code
      (¬(1 ≤ ns.length ∧ ns.length ≤ 32 ∧ known) → Safety.Refuses (.ackNotices e ns) e 44#8 s .range) ∧
      (1 ≤ ns.length → ns.length ≤ 32 → known → Safety.Completes (.ackNotices e ns) e 44#8 s .ok [BitVec.ofNat 8 left.length]
        (h.setPort p { h.port p with notices := left }))) ∧
    (∀ (mask : BitVec 32) (mode : AttentionMode) (bad : Byte), Safety.Taken e p 5 s →
      let h := Safety.heard e 45#8 s
      Safety.Refuses (.setNoticeMask e mask (.bad bad)) e 45#8 s .range ∧
      (2 ^ 20 ≤ mask.toNat → Safety.Refuses (.setNoticeMask e mask (.val mode)) e 45#8 s .range) ∧
      (mask.toNat < 2 ^ 20 → Safety.Completes (.setNoticeMask e mask (.val mode)) e 45#8 s .ok []
        (h.setPort p { h.port p with
          mask := mask.setWidth 20
          mode := mode
          pulse := (s.port p).pulse && decide ((s.port p).mode = .pulse ∧ mode = .pulse) })))) ∧
  ∀ (p : Port) (s : State),
    let v := s.port p
    (coreOn s = false → attentionLine s p = false) ∧
    (coreOn s = true → v.mode = .level →
      (attentionLine s p = true ↔ ∃ n ∈ v.notices, v.mask.getLsbD n.kind.code = true)) ∧
    (coreOn s = true → v.mode = .pulse → attentionLine s p = v.pulse)

/-- R174 to R178, R182: the events of the ports. A discarded frame changes nothing (log entry 9). On the console, bytes
clocked under HOLD make the reply BUSY, quiet over a waiting reply releases HOLD (log entry 8), and SELECT's rise ends a
ready reply. On the desk and service ports quiet starts the first waiting reply. A reply sent leaves its queue, and ends
the request it answers. A pulse ends. HOLD stands exactly while a console request executes (R176). The frame a port
gives is that of its first reply, once HOLD is released or the line is driven, and it carries the pair's own address
(R175, R177), the code and tag of the request (R174), and the status with the fields that the status lets it carry
(R184). -/
def Obligations.PortEvents : Prop :=
  (∀ (p : Port) (bytes : List Byte) (s : State),
    exec (.frameDiscard p bytes) s = .next s ∧ exec (.interByteTimeout p bytes) s = .next s) ∧
  (∀ s : State, coreOn s = true →
    let v := s.console
    let sent := fun (w : PortState) (r : Reply) (rest : List Reply) =>
      { w with outgoing := rest, transmitting := false, request := if r.own = true then none else w.request }
    Safety.Does .consoleBytesUnderHold s (if v.phase = .executing then
      { s with console := { v with outgoing := v.outgoing.map fun r => { r with status := .busy, body := [] } } } else s) ∧
    Safety.Does .selectRise s (if v.phase = .replyReady then
      { s with console := { v with request := none, outgoing := [], phase := .free } } else s) ∧
    Safety.Does (.replyTurnaround .console) s (if v.phase = .executing ∧ v.outgoing ≠ [] then
      { s with console := { v with phase := .replyReady } } else s) ∧
    (v.phase ≠ .replyReady ∨ v.outgoing = [] → Safety.Does (.replySent .console) s s) ∧
    (∀ r rest, v.phase = .replyReady → v.outgoing = r :: rest →
      Safety.Does (.replySent .console) s { s with console := sent v r rest }) ∧
    (∀ p, p ≠ .console →
      let w := s.port p
      Safety.Does (.replyTurnaround p) s (if w.outgoing = [] then s else s.setPort p { w with transmitting := true }) ∧
      (w.transmitting = false ∨ w.outgoing = [] → Safety.Does (.replySent p) s s) ∧
      (∀ r rest, w.transmitting = true → w.outgoing = r :: rest → Safety.Does (.replySent p) s (s.setPort p (sent w r rest)))) ∧
    (∀ p, Safety.Does (.pulseEnd p) s (s.setPort p { s.port p with pulse := false }))) ∧
  (∀ s : State, holdLine s = true ↔ s.console.phase = .executing) ∧
  ∀ (p : Port) (s : State),
    let v := s.port p
    let gives := if p = .console then v.phase = .replyReady else v.transmitting = true
    (¬gives ∨ v.outgoing = [] → sendingFrame s p = none) ∧
    (∀ r rest, gives → v.outgoing = r :: rest → sendingFrame s p = some {
      address := BitVec.ofNat 8 s.address
      code := r.code
      tag := r.tag
      body := BitVec.ofNat 8 (statusCode r.status) ::
        (if r.status = .ok ∨ r.status = .limited ∨ r.status = .keyLost then r.body else []) })
end

