-- ==== Sys2Proof/Laws/State.lean ====
section
/-! SUPPORT. One lemma per field per update of the state, each true by definition, and the reading of one lane, squad or port
after the rewriting of one. -/

namespace Sys2Proof.Machine

/-! ### Pairs -/

@[simp] theorem Pair.get_set_same {α : Type} (p : Pair α) (k : Side) (v : α) : (p.set k v).get k = v := by cases k <;> rfl

theorem Pair.get_set {α : Type} (p : Pair α) (k j : Side) (v : α) :
    (p.set k v).get j = if j = k then v else p.get j := by cases k <;> cases j <;> rfl

theorem Side.other_ne (l : Side) : l.other ≠ l := by cases l <;> decide

@[simp] theorem Side.other_other (l : Side) : l.other.other = l := by cases l <;> rfl

@[simp] theorem HoldSet.has_put_same (h : HoldSet) (r : Hold) (v : Bool) : (h.put r v).has r = v := by cases r <;> rfl

theorem HoldSet.has_put (h : HoldSet) (r x : Hold) (v : Bool) : (h.put r v).has x = if x = r then v else h.has x := by
  cases r <;> cases x <;> rfl

theorem HoldSet.isEmpty_iff (h : HoldSet) : h.isEmpty = true ↔ h = HoldSet.none := by
  cases h; simp [HoldSet.isEmpty, HoldSet.none]; tauto

/-! ### The three setters -/

@[simp] theorem State.setLane_pairMode (s : State) (l : Lane) (r : LaneRec) : (s.setLane l r).pairMode = s.pairMode := rfl

@[simp] theorem State.setLane_squads (s : State) (l : Lane) (r : LaneRec) : (s.setLane l r).squads = s.squads := rfl

@[simp] theorem State.setLane_ret (s : State) (l : Lane) (r : LaneRec) : (s.setLane l r).ret = s.ret := rfl

@[simp] theorem State.setLane_rates (s : State) (l : Lane) (r : LaneRec) : (s.setLane l r).rates = s.rates := rfl

@[simp] theorem State.setLane_clock (s : State) (l : Lane) (r : LaneRec) : (s.setLane l r).clock = s.clock := rfl

@[simp] theorem State.setLane_supply (s : State) (l : Lane) (r : LaneRec) : (s.setLane l r).supply = s.supply := rfl

@[simp] theorem State.setLane_desk (s : State) (l : Lane) (r : LaneRec) : (s.setLane l r).desk = s.desk := rfl

@[simp] theorem State.setLane_console (s : State) (l : Lane) (r : LaneRec) : (s.setLane l r).console = s.console := rfl

@[simp] theorem State.setLane_service (s : State) (l : Lane) (r : LaneRec) : (s.setLane l r).service = s.service := rfl

@[simp] theorem State.setLane_straps (s : State) (l : Lane) (r : LaneRec) : (s.setLane l r).straps = s.straps := rfl

@[simp] theorem State.setLane_address (s : State) (l : Lane) (r : LaneRec) : (s.setLane l r).address = s.address := rfl

@[simp] theorem State.setLane_key (s : State) (l : Lane) (r : LaneRec) : (s.setLane l r).key = s.key := rfl

@[simp] theorem State.setLane_tick (s : State) (l : Lane) (r : LaneRec) : (s.setLane l r).tick = s.tick := rfl

@[simp] theorem State.setLane_free (s : State) (l : Lane) (r : LaneRec) : (s.setLane l r).free = s.free := rfl

@[simp] theorem State.setLane_pending (s : State) (l : Lane) (r : LaneRec) : (s.setLane l r).pending = s.pending := rfl

@[simp] theorem State.setSquad_lanes (s : State) (q : SquadId) (v : Squad) : (s.setSquad q v).lanes = s.lanes := rfl

@[simp] theorem State.setSquad_pairMode (s : State) (q : SquadId) (v : Squad) : (s.setSquad q v).pairMode = s.pairMode := rfl

@[simp] theorem State.setSquad_ret (s : State) (q : SquadId) (v : Squad) : (s.setSquad q v).ret = s.ret := rfl

@[simp] theorem State.setSquad_rates (s : State) (q : SquadId) (v : Squad) : (s.setSquad q v).rates = s.rates := rfl

@[simp] theorem State.setSquad_clock (s : State) (q : SquadId) (v : Squad) : (s.setSquad q v).clock = s.clock := rfl

@[simp] theorem State.setSquad_supply (s : State) (q : SquadId) (v : Squad) : (s.setSquad q v).supply = s.supply := rfl

@[simp] theorem State.setSquad_desk (s : State) (q : SquadId) (v : Squad) : (s.setSquad q v).desk = s.desk := rfl

@[simp] theorem State.setSquad_console (s : State) (q : SquadId) (v : Squad) : (s.setSquad q v).console = s.console := rfl

@[simp] theorem State.setSquad_service (s : State) (q : SquadId) (v : Squad) : (s.setSquad q v).service = s.service := rfl

@[simp] theorem State.setSquad_straps (s : State) (q : SquadId) (v : Squad) : (s.setSquad q v).straps = s.straps := rfl

@[simp] theorem State.setSquad_address (s : State) (q : SquadId) (v : Squad) : (s.setSquad q v).address = s.address := rfl

@[simp] theorem State.setSquad_key (s : State) (q : SquadId) (v : Squad) : (s.setSquad q v).key = s.key := rfl

@[simp] theorem State.setSquad_tick (s : State) (q : SquadId) (v : Squad) : (s.setSquad q v).tick = s.tick := rfl

@[simp] theorem State.setSquad_free (s : State) (q : SquadId) (v : Squad) : (s.setSquad q v).free = s.free := rfl

@[simp] theorem State.setSquad_pending (s : State) (q : SquadId) (v : Squad) : (s.setSquad q v).pending = s.pending := rfl

@[simp] theorem State.setPort_lanes (s : State) (p : Port) (v : PortState) : (s.setPort p v).lanes = s.lanes := by cases p <;> rfl

@[simp] theorem State.setPort_pairMode (s : State) (p : Port) (v : PortState) : (s.setPort p v).pairMode = s.pairMode := by cases p <;> rfl

@[simp] theorem State.setPort_squads (s : State) (p : Port) (v : PortState) : (s.setPort p v).squads = s.squads := by cases p <;> rfl

@[simp] theorem State.setPort_ret (s : State) (p : Port) (v : PortState) : (s.setPort p v).ret = s.ret := by cases p <;> rfl

@[simp] theorem State.setPort_rates (s : State) (p : Port) (v : PortState) : (s.setPort p v).rates = s.rates := by cases p <;> rfl

@[simp] theorem State.setPort_clock (s : State) (p : Port) (v : PortState) : (s.setPort p v).clock = s.clock := by cases p <;> rfl

@[simp] theorem State.setPort_supply (s : State) (p : Port) (v : PortState) : (s.setPort p v).supply = s.supply := by cases p <;> rfl

@[simp] theorem State.setPort_straps (s : State) (p : Port) (v : PortState) : (s.setPort p v).straps = s.straps := by cases p <;> rfl

@[simp] theorem State.setPort_address (s : State) (p : Port) (v : PortState) : (s.setPort p v).address = s.address := by cases p <;> rfl

@[simp] theorem State.setPort_key (s : State) (p : Port) (v : PortState) : (s.setPort p v).key = s.key := by cases p <;> rfl

@[simp] theorem State.setPort_tick (s : State) (p : Port) (v : PortState) : (s.setPort p v).tick = s.tick := by cases p <;> rfl

@[simp] theorem State.setPort_free (s : State) (p : Port) (v : PortState) : (s.setPort p v).free = s.free := by cases p <;> rfl

@[simp] theorem State.setPort_pending (s : State) (p : Port) (v : PortState) : (s.setPort p v).pending = s.pending := by cases p <;> rfl

@[simp] theorem State.setLane_lane_same (s : State) (l : Lane) (r : LaneRec) : (s.setLane l r).lane l = r := by
  cases l <;> rfl

theorem State.setLane_lane (s : State) (l k : Lane) (r : LaneRec) :
    (s.setLane l r).lane k = if k = l then r else s.lane k := by cases l <;> cases k <;> rfl

@[simp] theorem State.setLane_squad (s : State) (l : Lane) (r : LaneRec) (q : SquadId) :
    (s.setLane l r).squad q = s.squad q := rfl

@[simp] theorem State.setLane_port (s : State) (l : Lane) (r : LaneRec) (p : Port) : (s.setLane l r).port p = s.port p := by
  cases p <;> rfl

@[simp] theorem State.setSquad_squad_same (s : State) (q : SquadId) (v : Squad) : (s.setSquad q v).squad q = v := by
  cases q <;> rfl

theorem State.setSquad_squad (s : State) (q k : SquadId) (v : Squad) :
    (s.setSquad q v).squad k = if k = q then v else s.squad k := by cases q <;> cases k <;> rfl

@[simp] theorem State.setSquad_lane (s : State) (q : SquadId) (v : Squad) (l : Lane) : (s.setSquad q v).lane l = s.lane l := rfl

@[simp] theorem State.setSquad_port (s : State) (q : SquadId) (v : Squad) (p : Port) : (s.setSquad q v).port p = s.port p := by
  cases p <;> rfl

@[simp] theorem State.setPort_port_same (s : State) (p : Port) (v : PortState) : (s.setPort p v).port p = v := by
  cases p <;> rfl

theorem State.setPort_port (s : State) (p k : Port) (v : PortState) :
    (s.setPort p v).port k = if k = p then v else s.port k := by cases p <;> cases k <;> rfl

@[simp] theorem State.setPort_lane (s : State) (p : Port) (v : PortState) (l : Lane) : (s.setPort p v).lane l = s.lane l := by
  cases p <;> rfl

@[simp] theorem State.setPort_squad (s : State) (p : Port) (v : PortState) (q : SquadId) :
    (s.setPort p v).squad q = s.squad q := by cases p <;> rfl

/-! ### The rewriters -/

@[simp] theorem modLane_pairMode (l : Lane) (f : LaneRec → LaneRec) (s : State) : (modLane l f s).pairMode = s.pairMode := rfl

@[simp] theorem modLane_squads (l : Lane) (f : LaneRec → LaneRec) (s : State) : (modLane l f s).squads = s.squads := rfl

@[simp] theorem modLane_ret (l : Lane) (f : LaneRec → LaneRec) (s : State) : (modLane l f s).ret = s.ret := rfl

@[simp] theorem modLane_rates (l : Lane) (f : LaneRec → LaneRec) (s : State) : (modLane l f s).rates = s.rates := rfl

@[simp] theorem modLane_clock (l : Lane) (f : LaneRec → LaneRec) (s : State) : (modLane l f s).clock = s.clock := rfl

@[simp] theorem modLane_supply (l : Lane) (f : LaneRec → LaneRec) (s : State) : (modLane l f s).supply = s.supply := rfl

@[simp] theorem modLane_desk (l : Lane) (f : LaneRec → LaneRec) (s : State) : (modLane l f s).desk = s.desk := rfl

@[simp] theorem modLane_console (l : Lane) (f : LaneRec → LaneRec) (s : State) : (modLane l f s).console = s.console := rfl

@[simp] theorem modLane_service (l : Lane) (f : LaneRec → LaneRec) (s : State) : (modLane l f s).service = s.service := rfl

@[simp] theorem modLane_straps (l : Lane) (f : LaneRec → LaneRec) (s : State) : (modLane l f s).straps = s.straps := rfl

@[simp] theorem modLane_address (l : Lane) (f : LaneRec → LaneRec) (s : State) : (modLane l f s).address = s.address := rfl

@[simp] theorem modLane_key (l : Lane) (f : LaneRec → LaneRec) (s : State) : (modLane l f s).key = s.key := rfl

@[simp] theorem modLane_tick (l : Lane) (f : LaneRec → LaneRec) (s : State) : (modLane l f s).tick = s.tick := rfl

@[simp] theorem modLane_free (l : Lane) (f : LaneRec → LaneRec) (s : State) : (modLane l f s).free = s.free := rfl

@[simp] theorem modLane_pending (l : Lane) (f : LaneRec → LaneRec) (s : State) : (modLane l f s).pending = s.pending := rfl

@[simp] theorem modSup_pairMode (l : Lane) (f : Supervisor → Supervisor) (s : State) : (modSup l f s).pairMode = s.pairMode := rfl

@[simp] theorem modSup_squads (l : Lane) (f : Supervisor → Supervisor) (s : State) : (modSup l f s).squads = s.squads := rfl

@[simp] theorem modSup_ret (l : Lane) (f : Supervisor → Supervisor) (s : State) : (modSup l f s).ret = s.ret := rfl

@[simp] theorem modSup_rates (l : Lane) (f : Supervisor → Supervisor) (s : State) : (modSup l f s).rates = s.rates := rfl

@[simp] theorem modSup_clock (l : Lane) (f : Supervisor → Supervisor) (s : State) : (modSup l f s).clock = s.clock := rfl

@[simp] theorem modSup_supply (l : Lane) (f : Supervisor → Supervisor) (s : State) : (modSup l f s).supply = s.supply := rfl

@[simp] theorem modSup_desk (l : Lane) (f : Supervisor → Supervisor) (s : State) : (modSup l f s).desk = s.desk := rfl

@[simp] theorem modSup_console (l : Lane) (f : Supervisor → Supervisor) (s : State) : (modSup l f s).console = s.console := rfl

@[simp] theorem modSup_service (l : Lane) (f : Supervisor → Supervisor) (s : State) : (modSup l f s).service = s.service := rfl

@[simp] theorem modSup_straps (l : Lane) (f : Supervisor → Supervisor) (s : State) : (modSup l f s).straps = s.straps := rfl

@[simp] theorem modSup_address (l : Lane) (f : Supervisor → Supervisor) (s : State) : (modSup l f s).address = s.address := rfl

@[simp] theorem modSup_key (l : Lane) (f : Supervisor → Supervisor) (s : State) : (modSup l f s).key = s.key := rfl

@[simp] theorem modSup_tick (l : Lane) (f : Supervisor → Supervisor) (s : State) : (modSup l f s).tick = s.tick := rfl

@[simp] theorem modSup_free (l : Lane) (f : Supervisor → Supervisor) (s : State) : (modSup l f s).free = s.free := rfl

@[simp] theorem modSup_pending (l : Lane) (f : Supervisor → Supervisor) (s : State) : (modSup l f s).pending = s.pending := rfl

@[simp] theorem modAcct_pairMode (l : Lane) (f : Account → Account) (s : State) : (modAcct l f s).pairMode = s.pairMode := rfl

@[simp] theorem modAcct_squads (l : Lane) (f : Account → Account) (s : State) : (modAcct l f s).squads = s.squads := rfl

@[simp] theorem modAcct_ret (l : Lane) (f : Account → Account) (s : State) : (modAcct l f s).ret = s.ret := rfl

@[simp] theorem modAcct_rates (l : Lane) (f : Account → Account) (s : State) : (modAcct l f s).rates = s.rates := rfl

@[simp] theorem modAcct_clock (l : Lane) (f : Account → Account) (s : State) : (modAcct l f s).clock = s.clock := rfl

@[simp] theorem modAcct_supply (l : Lane) (f : Account → Account) (s : State) : (modAcct l f s).supply = s.supply := rfl

@[simp] theorem modAcct_desk (l : Lane) (f : Account → Account) (s : State) : (modAcct l f s).desk = s.desk := rfl

@[simp] theorem modAcct_console (l : Lane) (f : Account → Account) (s : State) : (modAcct l f s).console = s.console := rfl

@[simp] theorem modAcct_service (l : Lane) (f : Account → Account) (s : State) : (modAcct l f s).service = s.service := rfl

@[simp] theorem modAcct_straps (l : Lane) (f : Account → Account) (s : State) : (modAcct l f s).straps = s.straps := rfl

@[simp] theorem modAcct_address (l : Lane) (f : Account → Account) (s : State) : (modAcct l f s).address = s.address := rfl

@[simp] theorem modAcct_key (l : Lane) (f : Account → Account) (s : State) : (modAcct l f s).key = s.key := rfl

@[simp] theorem modAcct_tick (l : Lane) (f : Account → Account) (s : State) : (modAcct l f s).tick = s.tick := rfl

@[simp] theorem modAcct_free (l : Lane) (f : Account → Account) (s : State) : (modAcct l f s).free = s.free := rfl

@[simp] theorem modAcct_pending (l : Lane) (f : Account → Account) (s : State) : (modAcct l f s).pending = s.pending := rfl

@[simp] theorem modCounters_pairMode (l : Lane) (f : Counters → Counters) (s : State) : (modCounters l f s).pairMode = s.pairMode := rfl

@[simp] theorem modCounters_squads (l : Lane) (f : Counters → Counters) (s : State) : (modCounters l f s).squads = s.squads := rfl

@[simp] theorem modCounters_ret (l : Lane) (f : Counters → Counters) (s : State) : (modCounters l f s).ret = s.ret := rfl

@[simp] theorem modCounters_rates (l : Lane) (f : Counters → Counters) (s : State) : (modCounters l f s).rates = s.rates := rfl

@[simp] theorem modCounters_clock (l : Lane) (f : Counters → Counters) (s : State) : (modCounters l f s).clock = s.clock := rfl

@[simp] theorem modCounters_supply (l : Lane) (f : Counters → Counters) (s : State) : (modCounters l f s).supply = s.supply := rfl

@[simp] theorem modCounters_desk (l : Lane) (f : Counters → Counters) (s : State) : (modCounters l f s).desk = s.desk := rfl

@[simp] theorem modCounters_console (l : Lane) (f : Counters → Counters) (s : State) : (modCounters l f s).console = s.console := rfl

@[simp] theorem modCounters_service (l : Lane) (f : Counters → Counters) (s : State) : (modCounters l f s).service = s.service := rfl

@[simp] theorem modCounters_straps (l : Lane) (f : Counters → Counters) (s : State) : (modCounters l f s).straps = s.straps := rfl

@[simp] theorem modCounters_address (l : Lane) (f : Counters → Counters) (s : State) : (modCounters l f s).address = s.address := rfl

@[simp] theorem modCounters_key (l : Lane) (f : Counters → Counters) (s : State) : (modCounters l f s).key = s.key := rfl

@[simp] theorem modCounters_tick (l : Lane) (f : Counters → Counters) (s : State) : (modCounters l f s).tick = s.tick := rfl

@[simp] theorem modCounters_free (l : Lane) (f : Counters → Counters) (s : State) : (modCounters l f s).free = s.free := rfl

@[simp] theorem modCounters_pending (l : Lane) (f : Counters → Counters) (s : State) : (modCounters l f s).pending = s.pending := rfl

@[simp] theorem modSquad_lanes (q : SquadId) (f : Squad → Squad) (s : State) : (modSquad q f s).lanes = s.lanes := rfl

@[simp] theorem modSquad_pairMode (q : SquadId) (f : Squad → Squad) (s : State) : (modSquad q f s).pairMode = s.pairMode := rfl

@[simp] theorem modSquad_ret (q : SquadId) (f : Squad → Squad) (s : State) : (modSquad q f s).ret = s.ret := rfl

@[simp] theorem modSquad_rates (q : SquadId) (f : Squad → Squad) (s : State) : (modSquad q f s).rates = s.rates := rfl

@[simp] theorem modSquad_clock (q : SquadId) (f : Squad → Squad) (s : State) : (modSquad q f s).clock = s.clock := rfl

@[simp] theorem modSquad_supply (q : SquadId) (f : Squad → Squad) (s : State) : (modSquad q f s).supply = s.supply := rfl

@[simp] theorem modSquad_desk (q : SquadId) (f : Squad → Squad) (s : State) : (modSquad q f s).desk = s.desk := rfl

@[simp] theorem modSquad_console (q : SquadId) (f : Squad → Squad) (s : State) : (modSquad q f s).console = s.console := rfl

@[simp] theorem modSquad_service (q : SquadId) (f : Squad → Squad) (s : State) : (modSquad q f s).service = s.service := rfl

@[simp] theorem modSquad_straps (q : SquadId) (f : Squad → Squad) (s : State) : (modSquad q f s).straps = s.straps := rfl

@[simp] theorem modSquad_address (q : SquadId) (f : Squad → Squad) (s : State) : (modSquad q f s).address = s.address := rfl

@[simp] theorem modSquad_key (q : SquadId) (f : Squad → Squad) (s : State) : (modSquad q f s).key = s.key := rfl

@[simp] theorem modSquad_tick (q : SquadId) (f : Squad → Squad) (s : State) : (modSquad q f s).tick = s.tick := rfl

@[simp] theorem modSquad_free (q : SquadId) (f : Squad → Squad) (s : State) : (modSquad q f s).free = s.free := rfl

@[simp] theorem modSquad_pending (q : SquadId) (f : Squad → Squad) (s : State) : (modSquad q f s).pending = s.pending := rfl

@[simp] theorem modReturn_lanes (f : ReturnMonitor → ReturnMonitor) (s : State) : (modReturn f s).lanes = s.lanes := rfl

@[simp] theorem modReturn_pairMode (f : ReturnMonitor → ReturnMonitor) (s : State) : (modReturn f s).pairMode = s.pairMode := rfl

@[simp] theorem modReturn_squads (f : ReturnMonitor → ReturnMonitor) (s : State) : (modReturn f s).squads = s.squads := rfl

@[simp] theorem modReturn_rates (f : ReturnMonitor → ReturnMonitor) (s : State) : (modReturn f s).rates = s.rates := rfl

@[simp] theorem modReturn_clock (f : ReturnMonitor → ReturnMonitor) (s : State) : (modReturn f s).clock = s.clock := rfl

@[simp] theorem modReturn_supply (f : ReturnMonitor → ReturnMonitor) (s : State) : (modReturn f s).supply = s.supply := rfl

@[simp] theorem modReturn_desk (f : ReturnMonitor → ReturnMonitor) (s : State) : (modReturn f s).desk = s.desk := rfl

@[simp] theorem modReturn_console (f : ReturnMonitor → ReturnMonitor) (s : State) : (modReturn f s).console = s.console := rfl

@[simp] theorem modReturn_service (f : ReturnMonitor → ReturnMonitor) (s : State) : (modReturn f s).service = s.service := rfl

@[simp] theorem modReturn_straps (f : ReturnMonitor → ReturnMonitor) (s : State) : (modReturn f s).straps = s.straps := rfl

@[simp] theorem modReturn_address (f : ReturnMonitor → ReturnMonitor) (s : State) : (modReturn f s).address = s.address := rfl

@[simp] theorem modReturn_key (f : ReturnMonitor → ReturnMonitor) (s : State) : (modReturn f s).key = s.key := rfl

@[simp] theorem modReturn_tick (f : ReturnMonitor → ReturnMonitor) (s : State) : (modReturn f s).tick = s.tick := rfl

@[simp] theorem modReturn_free (f : ReturnMonitor → ReturnMonitor) (s : State) : (modReturn f s).free = s.free := rfl

@[simp] theorem modReturn_pending (f : ReturnMonitor → ReturnMonitor) (s : State) : (modReturn f s).pending = s.pending := rfl

@[simp] theorem modRates_lanes (f : RateCard → RateCard) (s : State) : (modRates f s).lanes = s.lanes := rfl

@[simp] theorem modRates_pairMode (f : RateCard → RateCard) (s : State) : (modRates f s).pairMode = s.pairMode := rfl

@[simp] theorem modRates_squads (f : RateCard → RateCard) (s : State) : (modRates f s).squads = s.squads := rfl

@[simp] theorem modRates_ret (f : RateCard → RateCard) (s : State) : (modRates f s).ret = s.ret := rfl

@[simp] theorem modRates_clock (f : RateCard → RateCard) (s : State) : (modRates f s).clock = s.clock := rfl

@[simp] theorem modRates_supply (f : RateCard → RateCard) (s : State) : (modRates f s).supply = s.supply := rfl

@[simp] theorem modRates_desk (f : RateCard → RateCard) (s : State) : (modRates f s).desk = s.desk := rfl

@[simp] theorem modRates_console (f : RateCard → RateCard) (s : State) : (modRates f s).console = s.console := rfl

@[simp] theorem modRates_service (f : RateCard → RateCard) (s : State) : (modRates f s).service = s.service := rfl

@[simp] theorem modRates_straps (f : RateCard → RateCard) (s : State) : (modRates f s).straps = s.straps := rfl

@[simp] theorem modRates_address (f : RateCard → RateCard) (s : State) : (modRates f s).address = s.address := rfl

@[simp] theorem modRates_key (f : RateCard → RateCard) (s : State) : (modRates f s).key = s.key := rfl

@[simp] theorem modRates_tick (f : RateCard → RateCard) (s : State) : (modRates f s).tick = s.tick := rfl

@[simp] theorem modRates_free (f : RateCard → RateCard) (s : State) : (modRates f s).free = s.free := rfl

@[simp] theorem modRates_pending (f : RateCard → RateCard) (s : State) : (modRates f s).pending = s.pending := rfl

@[simp] theorem modPort_lanes (p : Port) (f : PortState → PortState) (s : State) : (modPort p f s).lanes = s.lanes := by cases p <;> rfl

@[simp] theorem modPort_pairMode (p : Port) (f : PortState → PortState) (s : State) : (modPort p f s).pairMode = s.pairMode := by cases p <;> rfl

@[simp] theorem modPort_squads (p : Port) (f : PortState → PortState) (s : State) : (modPort p f s).squads = s.squads := by cases p <;> rfl

@[simp] theorem modPort_ret (p : Port) (f : PortState → PortState) (s : State) : (modPort p f s).ret = s.ret := by cases p <;> rfl

@[simp] theorem modPort_rates (p : Port) (f : PortState → PortState) (s : State) : (modPort p f s).rates = s.rates := by cases p <;> rfl

@[simp] theorem modPort_clock (p : Port) (f : PortState → PortState) (s : State) : (modPort p f s).clock = s.clock := by cases p <;> rfl

@[simp] theorem modPort_supply (p : Port) (f : PortState → PortState) (s : State) : (modPort p f s).supply = s.supply := by cases p <;> rfl

@[simp] theorem modPort_straps (p : Port) (f : PortState → PortState) (s : State) : (modPort p f s).straps = s.straps := by cases p <;> rfl

@[simp] theorem modPort_address (p : Port) (f : PortState → PortState) (s : State) : (modPort p f s).address = s.address := by cases p <;> rfl

@[simp] theorem modPort_key (p : Port) (f : PortState → PortState) (s : State) : (modPort p f s).key = s.key := by cases p <;> rfl

@[simp] theorem modPort_tick (p : Port) (f : PortState → PortState) (s : State) : (modPort p f s).tick = s.tick := by cases p <;> rfl

@[simp] theorem modPort_free (p : Port) (f : PortState → PortState) (s : State) : (modPort p f s).free = s.free := by cases p <;> rfl

@[simp] theorem modPort_pending (p : Port) (f : PortState → PortState) (s : State) : (modPort p f s).pending = s.pending := by cases p <;> rfl

@[simp] theorem modReturn_ret (f : ReturnMonitor → ReturnMonitor) (s : State) : (modReturn f s).ret = f s.ret := rfl

@[simp] theorem modRates_rates (f : RateCard → RateCard) (s : State) : (modRates f s).rates = f s.rates := rfl

@[simp] theorem modLane_lane_same (l : Lane) (f : LaneRec → LaneRec) (s : State) : (modLane l f s).lane l = f (s.lane l) := by
  simp [modLane]

theorem modLane_lane (l k : Lane) (f : LaneRec → LaneRec) (s : State) :
    (modLane l f s).lane k = if k = l then f (s.lane l) else s.lane k := State.setLane_lane _ _ _ _

@[simp] theorem modSup_sup_same (l : Lane) (f : Supervisor → Supervisor) (s : State) : (modSup l f s).sup l = f (s.sup l) := by
  simp [modSup, State.sup]

theorem modSup_lane (l k : Lane) (f : Supervisor → Supervisor) (s : State) :
    (modSup l f s).lane k = if k = l then { s.lane l with sup := f (s.lane l).sup } else s.lane k := modLane_lane _ _ _ _

theorem modSup_sup (l k : Lane) (f : Supervisor → Supervisor) (s : State) :
    (modSup l f s).sup k = if k = l then f (s.sup l) else s.sup k := by
  simp only [State.sup, modSup_lane]; split <;> rfl

@[simp] theorem modAcct_acct_same (l : Lane) (f : Account → Account) (s : State) :
    (modAcct l f s).acct l = f (s.acct l) := by simp [modAcct, State.acct]

@[simp] theorem modSquad_squad_same (q : SquadId) (f : Squad → Squad) (s : State) :
    (modSquad q f s).squad q = f (s.squad q) := by simp [modSquad]

theorem modSquad_squad (q k : SquadId) (f : Squad → Squad) (s : State) :
    (modSquad q f s).squad k = if k = q then f (s.squad q) else s.squad k := State.setSquad_squad _ _ _ _

@[simp] theorem modPort_port_same (p : Port) (f : PortState → PortState) (s : State) : (modPort p f s).port p = f (s.port p) := by
  simp [modPort]

theorem modPort_port (p k : Port) (f : PortState → PortState) (s : State) :
    (modPort p f s).port k = if k = p then f (s.port p) else s.port k := State.setPort_port _ _ _ _

@[simp] theorem modLane_squad (l : Lane) (f : LaneRec → LaneRec) (s : State) (k : SquadId) : (modLane l f s).squad k = s.squad k := rfl

@[simp] theorem modLane_port (l : Lane) (f : LaneRec → LaneRec) (s : State) (p : Port) : (modLane l f s).port p = s.port p := by cases p <;> rfl

@[simp] theorem modSup_squad (l : Lane) (f : Supervisor → Supervisor) (s : State) (k : SquadId) : (modSup l f s).squad k = s.squad k := rfl

@[simp] theorem modSup_port (l : Lane) (f : Supervisor → Supervisor) (s : State) (p : Port) : (modSup l f s).port p = s.port p := by cases p <;> rfl

@[simp] theorem modAcct_squad (l : Lane) (f : Account → Account) (s : State) (k : SquadId) : (modAcct l f s).squad k = s.squad k := rfl

@[simp] theorem modAcct_port (l : Lane) (f : Account → Account) (s : State) (p : Port) : (modAcct l f s).port p = s.port p := by cases p <;> rfl

@[simp] theorem modCounters_squad (l : Lane) (f : Counters → Counters) (s : State) (k : SquadId) : (modCounters l f s).squad k = s.squad k := rfl

@[simp] theorem modCounters_port (l : Lane) (f : Counters → Counters) (s : State) (p : Port) : (modCounters l f s).port p = s.port p := by cases p <;> rfl

@[simp] theorem modReturn_squad (f : ReturnMonitor → ReturnMonitor) (s : State) (k : SquadId) : (modReturn f s).squad k = s.squad k := rfl

@[simp] theorem modReturn_port (f : ReturnMonitor → ReturnMonitor) (s : State) (p : Port) : (modReturn f s).port p = s.port p := by cases p <;> rfl

@[simp] theorem modRates_squad (f : RateCard → RateCard) (s : State) (k : SquadId) : (modRates f s).squad k = s.squad k := rfl

@[simp] theorem modRates_port (f : RateCard → RateCard) (s : State) (p : Port) : (modRates f s).port p = s.port p := by cases p <;> rfl

@[simp] theorem modSquad_lane (q : SquadId) (f : Squad → Squad) (s : State) (k : Lane) : (modSquad q f s).lane k = s.lane k := rfl

@[simp] theorem modSquad_sup (q : SquadId) (f : Squad → Squad) (s : State) (k : Lane) : (modSquad q f s).sup k = s.sup k := rfl

@[simp] theorem modSquad_acct (q : SquadId) (f : Squad → Squad) (s : State) (k : Lane) : (modSquad q f s).acct k = s.acct k := rfl

@[simp] theorem modReturn_lane (f : ReturnMonitor → ReturnMonitor) (s : State) (k : Lane) : (modReturn f s).lane k = s.lane k := rfl

@[simp] theorem modReturn_sup (f : ReturnMonitor → ReturnMonitor) (s : State) (k : Lane) : (modReturn f s).sup k = s.sup k := rfl

@[simp] theorem modReturn_acct (f : ReturnMonitor → ReturnMonitor) (s : State) (k : Lane) : (modReturn f s).acct k = s.acct k := rfl

@[simp] theorem modRates_lane (f : RateCard → RateCard) (s : State) (k : Lane) : (modRates f s).lane k = s.lane k := rfl

@[simp] theorem modRates_sup (f : RateCard → RateCard) (s : State) (k : Lane) : (modRates f s).sup k = s.sup k := rfl

@[simp] theorem modRates_acct (f : RateCard → RateCard) (s : State) (k : Lane) : (modRates f s).acct k = s.acct k := rfl

@[simp] theorem modSquad_port (q : SquadId) (f : Squad → Squad) (s : State) (p : Port) :
    (modSquad q f s).port p = s.port p := by cases p <;> rfl

@[simp] theorem modPort_lane (p : Port) (f : PortState → PortState) (s : State) (k : Lane) :
    (modPort p f s).lane k = s.lane k := by cases p <;> rfl

@[simp] theorem modPort_sup (p : Port) (f : PortState → PortState) (s : State) (k : Lane) :
    (modPort p f s).sup k = s.sup k := by cases p <;> rfl

@[simp] theorem modPort_acct (p : Port) (f : PortState → PortState) (s : State) (k : Lane) :
    (modPort p f s).acct k = s.acct k := by cases p <;> rfl

@[simp] theorem modPort_squad (p : Port) (f : PortState → PortState) (s : State) (q : SquadId) :
    (modPort p f s).squad q = s.squad q := by cases p <;> rfl

@[simp] theorem modSup_acct (l : Lane) (f : Supervisor → Supervisor) (s : State) (k : Lane) :
    (modSup l f s).acct k = s.acct k := by cases l <;> cases k <;> rfl

@[simp] theorem modAcct_sup (l : Lane) (f : Account → Account) (s : State) (k : Lane) :
    (modAcct l f s).sup k = s.sup k := by cases l <;> cases k <;> rfl

end Sys2Proof.Machine
end

