-- ==== Sys2Proof/Laws/Frames.lean ====
section
/-! SUPPORT. What each shared operation leaves as it was: one lemma per operation, which `simp` reads field by field, so that
no later proof unfolds an operation to see that it does not touch a part of the state. -/

namespace Sys2Proof.Machine

/-- The parts that no shared operation touches: clock, supply, straps, address, key, tick, free values, queue. -/
abbrev SameRest (s t : State) : Prop :=
  t.clock = s.clock ∧ t.supply = s.supply ∧ t.straps = s.straps ∧ t.address = s.address ∧ t.key = s.key ∧
    t.tick = s.tick ∧ t.free = s.free ∧ t.pending = s.pending

/-- The three ports as they were. -/
abbrev SamePorts (s t : State) : Prop :=
  t.desk = s.desk ∧ t.console = s.console ∧ t.service = s.service ∧ ∀ x, t.port x = s.port x

/-- The three ports as they were but for their notice sets and pulses. -/
abbrev SamePortsButNotices (s t : State) : Prop :=
  ∀ x, (t.port x).request = (s.port x).request ∧ (t.port x).outgoing = (s.port x).outgoing ∧
    (t.port x).transmitting = (s.port x).transmitting ∧ (t.port x).phase = (s.port x).phase ∧
    (t.port x).mask = (s.port x).mask ∧ (t.port x).mode = (s.port x).mode

/-! ### Machine/Ops.lean -/

@[simp] theorem portWithNotice_request (n : Notice) (v : PortState) : (portWithNotice n v).request = v.request := by
  unfold portWithNotice; split <;> rfl

@[simp] theorem portWithNotice_outgoing (n : Notice) (v : PortState) : (portWithNotice n v).outgoing = v.outgoing := by
  unfold portWithNotice; split <;> rfl

@[simp] theorem portWithNotice_transmitting (n : Notice) (v : PortState) :
    (portWithNotice n v).transmitting = v.transmitting := by
  unfold portWithNotice; split <;> rfl

@[simp] theorem portWithNotice_phase (n : Notice) (v : PortState) : (portWithNotice n v).phase = v.phase := by
  unfold portWithNotice; split <;> rfl

@[simp] theorem portWithNotice_mask (n : Notice) (v : PortState) : (portWithNotice n v).mask = v.mask := by
  unfold portWithNotice; split <;> rfl

@[simp] theorem portWithNotice_mode (n : Notice) (v : PortState) : (portWithNotice n v).mode = v.mode := by
  unfold portWithNotice; split <;> rfl

@[simp] theorem enterNotice_frame (p : Port) (n : Notice) (s : State) :
    SameRest s (enterNotice p n s) ∧ SamePortsButNotices s (enterNotice p n s) ∧
    (enterNotice p n s).lanes = s.lanes ∧ (enterNotice p n s).squads = s.squads ∧
    (enterNotice p n s).pairMode = s.pairMode ∧ (enterNotice p n s).ret = s.ret ∧
    (enterNotice p n s).rates = s.rates := by
  unfold enterNotice
  refine ⟨by simp [SameRest], fun x => ?_, by simp, by simp, by simp, by simp, by simp⟩
  rw [modPort_port]
  split
  · rename_i h
    subst h
    simp
  · simp

@[simp] theorem routeNotice_frame (p : Port) (n : Notice) (s : State) :
    SameRest s (routeNotice p n s) ∧ SamePortsButNotices s (routeNotice p n s) ∧
    (routeNotice p n s).lanes = s.lanes ∧ (routeNotice p n s).squads = s.squads ∧
    (routeNotice p n s).pairMode = s.pairMode ∧ (routeNotice p n s).ret = s.ret ∧
    (routeNotice p n s).rates = s.rates := by
  unfold routeNotice
  split <;> simp [SameRest, SamePortsButNotices]

@[simp] theorem raiseNotice_frame (k : NoticeKind) (sc : Scope) (s : State) :
    SameRest s (raiseNotice k sc s) ∧ SamePortsButNotices s (raiseNotice k sc s) ∧
    (raiseNotice k sc s).lanes = s.lanes ∧ (raiseNotice k sc s).squads = s.squads ∧
    (raiseNotice k sc s).pairMode = s.pairMode ∧ (raiseNotice k sc s).ret = s.ret ∧
    (raiseNotice k sc s).rates = s.rates := by
  simp [SameRest, SamePortsButNotices, raiseNotice]

@[simp] theorem raiseLane_frame (k : NoticeKind) (l : Lane) (s : State) :
    SameRest s (raiseLane k l s) ∧ SamePortsButNotices s (raiseLane k l s) ∧ (raiseLane k l s).lanes = s.lanes ∧
    (raiseLane k l s).squads = s.squads ∧ (raiseLane k l s).pairMode = s.pairMode ∧ (raiseLane k l s).ret = s.ret ∧
    (raiseLane k l s).rates = s.rates := by
  simp [SameRest, SamePortsButNotices, raiseLane]

@[simp] theorem raisePair_frame (k : NoticeKind) (s : State) :
    SameRest s (raisePair k s) ∧ SamePortsButNotices s (raisePair k s) ∧ (raisePair k s).lanes = s.lanes ∧
    (raisePair k s).squads = s.squads ∧ (raisePair k s).pairMode = s.pairMode ∧ (raisePair k s).ret = s.ret ∧
    (raisePair k s).rates = s.rates := by
  simp [SameRest, SamePortsButNotices, raisePair]

@[simp] theorem sendMessage_frame (l : Lane) (m : MachineMessage) (s : State) :
    SameRest s (sendMessage l m s) ∧ SamePorts s (sendMessage l m s) ∧ (sendMessage l m s).squads = s.squads ∧
    (sendMessage l m s).pairMode = s.pairMode ∧ (sendMessage l m s).ret = s.ret ∧
    (sendMessage l m s).rates = s.rates := by
  simp [SameRest, SamePorts, sendMessage]

@[simp] theorem startWatchdog_frame (l : Lane) (s : State) :
    SameRest s (startWatchdog l s) ∧ SamePorts s (startWatchdog l s) ∧ (startWatchdog l s).squads = s.squads ∧
    (startWatchdog l s).pairMode = s.pairMode ∧ (startWatchdog l s).ret = s.ret ∧
    (startWatchdog l s).rates = s.rates := by
  simp [SameRest, SamePorts, startWatchdog]

@[simp] theorem wake_frame (l : Lane) (s : State) :
    SameRest s (wake l s) ∧ SamePorts s (wake l s) ∧ (wake l s).squads = s.squads ∧
    (wake l s).pairMode = s.pairMode ∧ (wake l s).ret = s.ret ∧ (wake l s).rates = s.rates := by
  unfold wake
  split <;> simp [SameRest, SamePorts]

@[simp] theorem powerDown_frame (l : Lane) (s : State) :
    SameRest s (powerDown l s) ∧ SamePorts s (powerDown l s) ∧ (powerDown l s).squads = s.squads ∧
    (powerDown l s).pairMode = s.pairMode ∧ (powerDown l s).ret = s.ret ∧ (powerDown l s).rates = s.rates := by
  unfold powerDown
  split <;> simp [SameRest, SamePorts]

@[simp] theorem restartIdle_frame (l : Lane) (s : State) :
    SameRest s (restartIdle l s) ∧ SamePorts s (restartIdle l s) ∧ (restartIdle l s).squads = s.squads ∧
    (restartIdle l s).pairMode = s.pairMode ∧ (restartIdle l s).ret = s.ret ∧ (restartIdle l s).rates = s.rates := by
  unfold restartIdle
  split <;> simp [SameRest, SamePorts]

@[simp] theorem maintTest_frame (l : Lane) (s : State) :
    SameRest s (maintTest l s) ∧ SamePortsButNotices s (maintTest l s) ∧ (maintTest l s).squads = s.squads ∧
    (maintTest l s).pairMode = s.pairMode ∧ (maintTest l s).ret = s.ret ∧ (maintTest l s).rates = s.rates := by
  unfold maintTest
  dsimp only
  split <;> simp [SameRest, SamePortsButNotices]

@[simp] theorem countCycle_frame (l : Lane) (s : State) :
    SameRest s (countCycle l s) ∧ SamePortsButNotices s (countCycle l s) ∧ (countCycle l s).squads = s.squads ∧
    (countCycle l s).pairMode = s.pairMode ∧ (countCycle l s).ret = s.ret ∧ (countCycle l s).rates = s.rates := by
  simp [SameRest, SamePortsButNotices, countCycle]

@[simp] theorem writeNextDeck_frame (l : Lane) (leave : Leave) (s : State) :
    SameRest s (writeNextDeck l leave s) ∧ SamePorts s (writeNextDeck l leave s) ∧
    (writeNextDeck l leave s).squads = s.squads ∧ (writeNextDeck l leave s).pairMode = s.pairMode ∧
    (writeNextDeck l leave s).ret = s.ret ∧ (writeNextDeck l leave s).rates = s.rates := by
  simp [SameRest, SamePorts, writeNextDeck]

@[simp] theorem setStale_frame (l : Lane) (s : State) :
    SameRest s (setStale l s) ∧ SamePortsButNotices s (setStale l s) ∧ (setStale l s).squads = s.squads ∧
    (setStale l s).pairMode = s.pairMode ∧ (setStale l s).ret = s.ret ∧ (setStale l s).rates = s.rates := by
  unfold setStale
  split <;> simp [SameRest, SamePortsButNotices]

@[simp] theorem dropHold_frame (l : Lane) (h : Hold) (s : State) :
    SameRest s (dropHold l h s) ∧ SamePorts s (dropHold l h s) ∧ (dropHold l h s).squads = s.squads ∧
    (dropHold l h s).pairMode = s.pairMode ∧ (dropHold l h s).ret = s.ret ∧ (dropHold l h s).rates = s.rates := by
  simp [SameRest, SamePorts, dropHold]

@[simp] theorem gate_frame (l : Lane) (s : State) :
    SameRest s (gate l s) ∧ SamePorts s (gate l s) ∧ (gate l s).squads = s.squads ∧
    (gate l s).pairMode = s.pairMode ∧ (gate l s).ret = s.ret ∧ (gate l s).rates = s.rates := by
  simp [SameRest, SamePorts, gate]

@[simp] theorem addHold_frame (l : Lane) (h : Hold) (s : State) :
    SameRest s (addHold l h s) ∧ SamePorts s (addHold l h s) ∧ (addHold l h s).squads = s.squads ∧
    (addHold l h s).pairMode = s.pairMode ∧ (addHold l h s).ret = s.ret ∧ (addHold l h s).rates = s.rates := by
  unfold addHold
  (repeat' split) <;> simp [SameRest, SamePorts]

@[simp] theorem issueCycle_frame (l : Lane) (purpose : Purpose) (kind : CycleKind) (picked : Option Leave) (s : State) :
    SameRest s (issueCycle l purpose kind picked s) ∧ SamePorts s (issueCycle l purpose kind picked s) ∧
    (issueCycle l purpose kind picked s).squads = s.squads ∧
    (issueCycle l purpose kind picked s).pairMode = s.pairMode ∧ (issueCycle l purpose kind picked s).ret = s.ret ∧
    (issueCycle l purpose kind picked s).rates = s.rates := by
  simp [SameRest, SamePorts, issueCycle]

@[simp] theorem takeCredit_frame (h : Lane) (q : SquadId) (s : State) :
    SameRest s (takeCredit h q s) ∧ SamePorts s (takeCredit h q s) ∧ (takeCredit h q s).pairMode = s.pairMode ∧
    (takeCredit h q s).ret = s.ret ∧ (takeCredit h q s).rates = s.rates := by
  simp [SameRest, SamePorts, takeCredit]

@[simp] theorem creditOut_frame (h : Lane) (s : State) :
    SameRest s (creditOut h s) ∧ SamePortsButNotices s (creditOut h s) ∧ (creditOut h s).squads = s.squads ∧
    (creditOut h s).pairMode = s.pairMode ∧ (creditOut h s).ret = s.ret ∧ (creditOut h s).rates = s.rates := by
  simp [SameRest, SamePortsButNotices, creditOut]

@[simp] theorem armOrAlign_frame (l : Lane) (s : State) :
    SameRest s (armOrAlign l s) ∧ SamePorts s (armOrAlign l s) ∧ (armOrAlign l s).squads = s.squads ∧
    (armOrAlign l s).pairMode = s.pairMode ∧ (armOrAlign l s).ret = s.ret ∧ (armOrAlign l s).rates = s.rates := by
  unfold armOrAlign
  split <;> simp [SameRest, SamePorts]

@[simp] theorem arm_frame (l : Lane) (s : State) :
    SameRest s (arm l s) ∧ SamePortsButNotices s (arm l s) ∧ (arm l s).pairMode = s.pairMode ∧
    (arm l s).ret = s.ret ∧ (arm l s).rates = s.rates := by
  unfold arm
  (repeat' split) <;> simp [SameRest, SamePortsButNotices]

@[simp] theorem decide52_frame (l : Lane) (s : State) :
    SameRest s (decide52 l s) ∧ SamePortsButNotices s (decide52 l s) ∧ (decide52 l s).pairMode = s.pairMode ∧
    (decide52 l s).ret = s.ret ∧ (decide52 l s).rates = s.rates := by
  unfold decide52
  split <;> simp [SameRest, SamePortsButNotices]

@[simp] theorem bowlerChanged_frame (l : Lane) (s : State) :
    SameRest s (bowlerChanged l s) ∧ SamePortsButNotices s (bowlerChanged l s) ∧
    (bowlerChanged l s).pairMode = s.pairMode ∧ (bowlerChanged l s).ret = s.ret ∧
    (bowlerChanged l s).rates = s.rates := by
  unfold bowlerChanged
  split <;> simp [SameRest, SamePortsButNotices]

@[simp] theorem removeHold_frame (l : Lane) (h : Hold) (s : State) :
    SameRest s (removeHold l h s) ∧ SamePortsButNotices s (removeHold l h s) ∧
    (removeHold l h s).pairMode = s.pairMode ∧ (removeHold l h s).ret = s.ret ∧
    (removeHold l h s).rates = s.rates := by
  unfold removeHold
  dsimp only
  (repeat' split) <;> simp [SameRest, SamePortsButNotices]

@[simp] theorem enterClosed_frame (l : Lane) (s : State) :
    SameRest s (enterClosed l s) ∧ SamePorts s (enterClosed l s) ∧ (enterClosed l s).pairMode = s.pairMode ∧
    (enterClosed l s).ret = s.ret ∧ (enterClosed l s).rates = s.rates := by
  simp [SameRest, SamePorts, enterClosed]

@[simp] theorem park_frame (l : Lane) (faulted : Bool) (s : State) :
    SameRest s (park l faulted s) ∧ SamePorts s (park l faulted s) ∧ (park l faulted s).pairMode = s.pairMode ∧
    (park l faulted s).ret = s.ret ∧ (park l faulted s).rates = s.rates := by
  simp [SameRest, SamePorts, park]

@[simp] theorem endTest_frame (l : Lane) (faulted : Bool) (s : State) :
    SameRest s (endTest l faulted s) ∧ SamePorts s (endTest l faulted s) ∧ (endTest l faulted s).squads = s.squads ∧
    (endTest l faulted s).pairMode = s.pairMode ∧ (endTest l faulted s).ret = s.ret ∧
    (endTest l faulted s).rates = s.rates := by
  simp [SameRest, SamePorts, endTest]

@[simp] theorem recoverActs_frame (l : Lane) (s : State) :
    SameRest s (recoverActs l s) ∧ SamePorts s (recoverActs l s) ∧ (recoverActs l s).pairMode = s.pairMode ∧
    (recoverActs l s).ret = s.ret ∧ (recoverActs l s).rates = s.rates := by
  unfold recoverActs
  (repeat' split) <;> simp [SameRest, SamePorts]

@[simp] theorem enterRecover_frame (l : Lane) (s : State) :
    SameRest s (enterRecover l s) ∧ SamePorts s (enterRecover l s) ∧ (enterRecover l s).pairMode = s.pairMode ∧
    (enterRecover l s).ret = s.ret ∧ (enterRecover l s).rates = s.rates := by
  simp [SameRest, SamePorts, enterRecover]

@[simp] theorem closingCycle_frame (l : Lane) (s : State) :
    SameRest s (closingCycle l s) ∧ SamePorts s (closingCycle l s) ∧ (closingCycle l s).pairMode = s.pairMode ∧
    (closingCycle l s).ret = s.ret ∧ (closingCycle l s).rates = s.rates := by
  unfold closingCycle
  split <;> simp [SameRest, SamePorts]

@[simp] theorem issueDelivery_frame (l : Lane) (after : Leave) (sameFrame : Bool) (s : State) :
    SameRest s (issueDelivery l after sameFrame s) ∧ SamePorts s (issueDelivery l after sameFrame s) ∧
    (issueDelivery l after sameFrame s).pairMode = s.pairMode ∧ (issueDelivery l after sameFrame s).ret = s.ret ∧
    (issueDelivery l after sameFrame s).rates = s.rates := by
  unfold issueDelivery
  (repeat' split) <;> simp [SameRest, SamePorts]

@[simp] theorem noteFault_frame (l : Lane) (cause : FaultCause) (s : State) :
    SameRest s (noteFault l cause s) ∧ SamePortsButNotices s (noteFault l cause s) ∧
    (noteFault l cause s).squads = s.squads ∧ (noteFault l cause s).pairMode = s.pairMode ∧
    (noteFault l cause s).ret = s.ret ∧ (noteFault l cause s).rates = s.rates := by
  simp [SameRest, SamePortsButNotices, noteFault]

@[simp] theorem faultMove_frame (l : Lane) (code : Nat) (s : State) :
    SameRest s (faultMove l code s) ∧ SamePorts s (faultMove l code s) ∧ (faultMove l code s).pairMode = s.pairMode ∧
    (faultMove l code s).ret = s.ret ∧ (faultMove l code s).rates = s.rates := by
  unfold faultMove
  (repeat' split) <;> simp [SameRest, SamePorts]


/-! ### Machine/Rotation.lean -/

@[simp] theorem setReopen_frame (l : Lane) (m : Option ReopenMark) (s : State) :
    SameRest s (setReopen l m s) ∧ SamePorts s (setReopen l m s) ∧ (setReopen l m s).squads = s.squads ∧
    (setReopen l m s).pairMode = s.pairMode ∧ (setReopen l m s).ret = s.ret ∧ (setReopen l m s).rates = s.rates := by
  simp [SameRest, SamePorts, setReopen]

@[simp] theorem setLaneState_frame (l : Lane) (st : LaneState) (s : State) :
    SameRest s (setLaneState l st s) ∧ SamePorts s (setLaneState l st s) ∧ (setLaneState l st s).squads = s.squads ∧
    (setLaneState l st s).pairMode = s.pairMode ∧ (setLaneState l st s).ret = s.ret ∧
    (setLaneState l st s).rates = s.rates := by
  simp [SameRest, SamePorts, setLaneState]

@[simp] theorem startSquadGame_frame (q : SquadId) (game : Nat) (s : State) :
    SameRest s (startSquadGame q game s) ∧ SamePorts s (startSquadGame q game s) ∧
    (startSquadGame q game s).pairMode = s.pairMode ∧ (startSquadGame q game s).ret = s.ret ∧
    (startSquadGame q game s).rates = s.rates := by
  simp [SameRest, SamePorts, startSquadGame]

@[simp] theorem creditShort_frame (l : Lane) (q : SquadId) (s : State) :
    SameRest s (creditShort l q s) ∧ SamePortsButNotices s (creditShort l q s) ∧
    (creditShort l q s).lanes = s.lanes ∧ (creditShort l q s).squads = s.squads ∧
    (creditShort l q s).pairMode = s.pairMode ∧ (creditShort l q s).ret = s.ret ∧
    (creditShort l q s).rates = s.rates := by
  unfold creditShort
  split <;> simp [SameRest, SamePortsButNotices]

@[simp] theorem storeTotals_frame (q : SquadId) (s : State) :
    SameRest s (storeTotals q s) ∧ SamePorts s (storeTotals q s) ∧ (storeTotals q s).lanes = s.lanes ∧
    (storeTotals q s).pairMode = s.pairMode ∧ (storeTotals q s).ret = s.ret ∧ (storeTotals q s).rates = s.rates := by
  simp [SameRest, SamePorts, storeTotals]

@[simp] theorem convertSquad_frame (q : SquadId) (s : State) :
    SameRest s (convertSquad q s) ∧ SamePorts s (convertSquad q s) ∧ (convertSquad q s).lanes = s.lanes ∧
    (convertSquad q s).pairMode = s.pairMode ∧ (convertSquad q s).ret = s.ret ∧
    (convertSquad q s).rates = s.rates := by
  simp [SameRest, SamePorts, convertSquad]

@[simp] theorem afterGame_frame (q : SquadId) (l : Lane) (s : State) :
    SameRest s (afterGame q l s) ∧ SamePortsButNotices s (afterGame q l s) ∧
    (afterGame q l s).pairMode = s.pairMode ∧ (afterGame q l s).ret = s.ret ∧ (afterGame q l s).rates = s.rates := by
  unfold afterGame
  dsimp only
  split <;> simp [SameRest, SamePortsButNotices]

@[simp] theorem exchangeLanes_frame (s : State) :
    SameRest s (exchangeLanes s) ∧ SamePorts s (exchangeLanes s) ∧ (exchangeLanes s).pairMode = s.pairMode ∧
    (exchangeLanes s).ret = s.ret ∧ (exchangeLanes s).rates = s.rates := by
  simp [SameRest, SamePorts, exchangeLanes]

@[simp] theorem returnHome_frame (s : State) :
    SameRest s (returnHome s) ∧ SamePorts s (returnHome s) ∧ (returnHome s).pairMode = s.pairMode ∧
    (returnHome s).ret = s.ret ∧ (returnHome s).rates = s.rates := by
  simp [SameRest, SamePorts, returnHome]

@[simp] theorem dropSwapHolds_frame (s : State) :
    SameRest s (dropSwapHolds s) ∧ SamePorts s (dropSwapHolds s) ∧ (dropSwapHolds s).squads = s.squads ∧
    (dropSwapHolds s).pairMode = s.pairMode ∧ (dropSwapHolds s).ret = s.ret ∧ (dropSwapHolds s).rates = s.rates := by
  simp [SameRest, SamePorts, dropSwapHolds]

@[simp] theorem clearReopens_frame (s : State) :
    SameRest s (clearReopens s) ∧ SamePorts s (clearReopens s) ∧ (clearReopens s).squads = s.squads ∧
    (clearReopens s).pairMode = s.pairMode ∧ (clearReopens s).ret = s.ret ∧ (clearReopens s).rates = s.rates := by
  simp [SameRest, SamePorts, clearReopens]

@[simp] theorem bothChanged_frame (s : State) :
    SameRest s (bothChanged s) ∧ SamePortsButNotices s (bothChanged s) ∧ (bothChanged s).pairMode = s.pairMode ∧
    (bothChanged s).ret = s.ret ∧ (bothChanged s).rates = s.rates := by
  simp [SameRest, SamePortsButNotices, bothChanged]

@[simp] theorem swapSquads_frame (f : Nat) (s : State) :
    SameRest s (swapSquads f s) ∧ SamePortsButNotices s (swapSquads f s) ∧ (swapSquads f s).pairMode = s.pairMode ∧
    (swapSquads f s).ret = s.ret ∧ (swapSquads f s).rates = s.rates := by
  simp [SameRest, SamePortsButNotices, swapSquads]

@[simp] theorem waitForSwap_frame (q : SquadId) (l : Lane) (s : State) :
    SameRest s (waitForSwap q l s) ∧ SamePorts s (waitForSwap q l s) ∧ (waitForSwap q l s).pairMode = s.pairMode ∧
    (waitForSwap q l s).ret = s.ret ∧ (waitForSwap q l s).rates = s.rates := by
  simp [SameRest, SamePorts, waitForSwap]

@[simp] theorem endPairGame_frame (q : SquadId) (s : State) :
    SameRest s (endPairGame q s) ∧ SamePortsButNotices s (endPairGame q s) ∧
    (endPairGame q s).pairMode = s.pairMode ∧ (endPairGame q s).ret = s.ret ∧ (endPairGame q s).rates = s.rates := by
  unfold endPairGame
  dsimp only
  split <;> simp [SameRest, SamePortsButNotices]

@[simp] theorem reachGameDone_frame (q : SquadId) (l : Lane) (s : State) :
    SameRest s (reachGameDone q l s) ∧ SamePortsButNotices s (reachGameDone q l s) ∧
    (reachGameDone q l s).pairMode = s.pairMode ∧ (reachGameDone q l s).ret = s.ret ∧
    (reachGameDone q l s).rates = s.rates := by
  unfold reachGameDone
  split <;> simp [SameRest, SamePortsButNotices]

@[simp] theorem reportRound_frame (l : Lane) (s : State) :
    SameRest s (reportRound l s) ∧ SamePorts s (reportRound l s) ∧ (reportRound l s).squads = s.squads ∧
    (reportRound l s).pairMode = s.pairMode ∧ (reportRound l s).ret = s.ret ∧ (reportRound l s).rates = s.rates := by
  unfold reportRound
  split <;> simp [SameRest, SamePorts]

@[simp] theorem roundDoneSingle_frame (q : SquadId) (l : Lane) (s : State) :
    SameRest s (roundDoneSingle q l s) ∧ SamePortsButNotices s (roundDoneSingle q l s) ∧
    (roundDoneSingle q l s).pairMode = s.pairMode ∧ (roundDoneSingle q l s).ret = s.ret ∧
    (roundDoneSingle q l s).rates = s.rates := by
  unfold roundDoneSingle
  split <;> simp [SameRest, SamePortsButNotices]

@[simp] theorem roundDoneCross_frame (q : SquadId) (l : Lane) (s : State) :
    SameRest s (roundDoneCross q l s) ∧ SamePortsButNotices s (roundDoneCross q l s) ∧
    (roundDoneCross q l s).pairMode = s.pairMode ∧ (roundDoneCross q l s).ret = s.ret ∧
    (roundDoneCross q l s).rates = s.rates := by
  unfold roundDoneCross
  dsimp only
  (repeat' split) <;> simp [SameRest, SamePortsButNotices]

@[simp] theorem roundDone_frame (q : SquadId) (l : Lane) (s : State) :
    SameRest s (roundDone q l s) ∧ SamePortsButNotices s (roundDone q l s) ∧
    (roundDone q l s).pairMode = s.pairMode ∧ (roundDone q l s).ret = s.ret ∧ (roundDone q l s).rates = s.rates := by
  unfold roundDone
  dsimp only
  split <;> simp [SameRest, SamePortsButNotices]

@[simp] theorem chooseNext_frame (q : SquadId) (l : Lane) (s : State) :
    SameRest s (chooseNext q l s) ∧ SamePortsButNotices s (chooseNext q l s) ∧
    (chooseNext q l s).pairMode = s.pairMode ∧ (chooseNext q l s).ret = s.ret ∧
    (chooseNext q l s).rates = s.rates := by
  unfold chooseNext
  split <;> simp [SameRest, SamePortsButNotices]

@[simp] theorem countMismatch_frame (l : Lane) (e : BallEntry) (s : State) :
    SameRest s (countMismatch l e s) ∧ SamePorts s (countMismatch l e s) ∧ (countMismatch l e s).squads = s.squads ∧
    (countMismatch l e s).pairMode = s.pairMode ∧ (countMismatch l e s).ret = s.ret ∧
    (countMismatch l e s).rates = s.rates := by
  unfold countMismatch
  split <;> simp [SameRest, SamePorts]

@[simp] theorem renameSquads_frame (s : State) :
    SameRest s (renameSquads s) ∧ SamePorts s (renameSquads s) ∧ (renameSquads s).pairMode = s.pairMode ∧
    (renameSquads s).ret = s.ret ∧ (renameSquads s).rates = s.rates := by
  unfold renameSquads
  split <;> simp [SameRest, SamePorts] <;> intro x <;> cases x <;> rfl

@[simp] theorem splitSquad_frame (q : SquadId) (s : State) :
    SameRest s (splitSquad q s) ∧ SamePortsButNotices s (splitSquad q s) ∧ (splitSquad q s).pairMode = s.pairMode ∧
    (splitSquad q s).ret = s.ret ∧ (splitSquad q s).rates = s.rates := by
  unfold splitSquad
  split <;> simp [SameRest, SamePortsButNotices]

@[simp] theorem splitRecords_frame (s : State) :
    SameRest s (splitRecords s) ∧ SamePortsButNotices s (splitRecords s) ∧ (splitRecords s).ret = s.ret ∧
    (splitRecords s).rates = s.rates := by
  have h : ∀ x, ({ s with pairMode := .single } : State).port x = s.port x := fun x => by cases x <;> rfl
  simp [SameRest, SamePortsButNotices, splitRecords, h]


/-! ### Machine/Ports.lean -/

@[simp] theorem syncIdle_frame (l : Lane) (s : State) :
    SameRest s (syncIdle l s) ∧ SamePorts s (syncIdle l s) ∧ (syncIdle l s).squads = s.squads ∧
    (syncIdle l s).pairMode = s.pairMode ∧ (syncIdle l s).ret = s.ret ∧ (syncIdle l s).rates = s.rates := by
  unfold syncIdle
  dsimp only
  (repeat' split) <;> simp [SameRest, SamePorts]

@[simp] theorem bumpSerial_frame (s : State) (l : Lane) (t : State) :
    SameRest t (bumpSerial s l t) ∧ SamePorts t (bumpSerial s l t) ∧ (bumpSerial s l t).squads = t.squads ∧
    (bumpSerial s l t).pairMode = t.pairMode ∧ (bumpSerial s l t).ret = t.ret ∧
    (bumpSerial s l t).rates = t.rates := by
  unfold bumpSerial
  split <;> simp [SameRest, SamePorts]

@[simp] theorem settle_frame (s t : State) :
    SameRest t (settle s t) ∧ SamePorts t (settle s t) ∧ (settle s t).squads = t.squads ∧
    (settle s t).pairMode = t.pairMode ∧ (settle s t).ret = t.ret ∧ (settle s t).rates = t.rates := by
  simp [SameRest, SamePorts, settle]


/-! ### Machine/Billing.lean -/

@[simp] theorem openEffect_frame (l : Lane) (mode : AccountMode) (credit warn : Nat) (s : State) :
    SameRest s (openEffect l mode credit warn s) ∧ SamePorts s (openEffect l mode credit warn s) ∧
    (openEffect l mode credit warn s).squads = s.squads ∧ (openEffect l mode credit warn s).pairMode = s.pairMode ∧
    (openEffect l mode credit warn s).ret = s.ret ∧ (openEffect l mode credit warn s).rates = s.rates := by
  simp [SameRest, SamePorts, openEffect]

@[simp] theorem freezeSession_frame (l : Lane) (s : State) :
    SameRest s (freezeSession l s) ∧ SamePortsButNotices s (freezeSession l s) ∧
    (freezeSession l s).squads = s.squads ∧ (freezeSession l s).pairMode = s.pairMode ∧
    (freezeSession l s).ret = s.ret ∧ (freezeSession l s).rates = s.rates := by
  simp [SameRest, SamePortsButNotices, freezeSession]

@[simp] theorem abandonGame_frame (l : Lane) (s : State) :
    SameRest s (abandonGame l s) ∧ SamePorts s (abandonGame l s) ∧ (abandonGame l s).pairMode = s.pairMode ∧
    (abandonGame l s).ret = s.ret ∧ (abandonGame l s).rates = s.rates := by
  simp [SameRest, SamePorts, abandonGame]

@[simp] theorem abandonDelivery_frame (l : Lane) (s : State) :
    SameRest s (abandonDelivery l s) ∧ SamePorts s (abandonDelivery l s) ∧ (abandonDelivery l s).squads = s.squads ∧
    (abandonDelivery l s).pairMode = s.pairMode ∧ (abandonDelivery l s).ret = s.ret ∧
    (abandonDelivery l s).rates = s.rates := by
  simp [SameRest, SamePorts, abandonDelivery]

@[simp] theorem closeSequence_frame (l : Lane) (s : State) :
    SameRest s (closeSequence l s) ∧ SamePorts s (closeSequence l s) ∧ (closeSequence l s).pairMode = s.pairMode ∧
    (closeSequence l s).ret = s.ret ∧ (closeSequence l s).rates = s.rates := by
  unfold closeSequence
  (repeat' split) <;> simp [SameRest, SamePorts]

@[simp] theorem closeEffect_frame (l : Lane) (s : State) :
    SameRest s (closeEffect l s) ∧ SamePortsButNotices s (closeEffect l s) ∧ (closeEffect l s).ret = s.ret ∧
    (closeEffect l s).rates = s.rates := by
  unfold closeEffect
  split <;> simp [SameRest, SamePortsButNotices]

@[simp] theorem addCreditEffect_frame (l : Lane) (n : Nat) (s : State) :
    SameRest s (addCreditEffect l n s) ∧ SamePortsButNotices s (addCreditEffect l n s) ∧
    (addCreditEffect l n s).pairMode = s.pairMode ∧ (addCreditEffect l n s).ret = s.ret ∧
    (addCreditEffect l n s).rates = s.rates := by
  unfold addCreditEffect
  split <;> simp [SameRest, SamePortsButNotices]

@[simp] theorem addTimeEffect_frame (l : Lane) (n : Nat) (s : State) :
    SameRest s (addTimeEffect l n s) ∧ SamePortsButNotices s (addTimeEffect l n s) ∧
    (addTimeEffect l n s).pairMode = s.pairMode ∧ (addTimeEffect l n s).ret = s.ret ∧
    (addTimeEffect l n s).rates = s.rates := by
  unfold addTimeEffect
  (repeat' split) <;> simp [SameRest, SamePortsButNotices]

@[simp] theorem warnMinute_frame (l : Lane) (s : State) :
    SameRest s (warnMinute l s) ∧ SamePortsButNotices s (warnMinute l s) ∧ (warnMinute l s).squads = s.squads ∧
    (warnMinute l s).pairMode = s.pairMode ∧ (warnMinute l s).ret = s.ret ∧ (warnMinute l s).rates = s.rates := by
  unfold warnMinute
  dsimp only
  split <;> simp [SameRest, SamePortsButNotices]

@[simp] theorem exhaustMinute_frame (l : Lane) (s : State) :
    SameRest s (exhaustMinute l s) ∧ SamePortsButNotices s (exhaustMinute l s) ∧
    (exhaustMinute l s).squads = s.squads ∧ (exhaustMinute l s).pairMode = s.pairMode ∧
    (exhaustMinute l s).ret = s.ret ∧ (exhaustMinute l s).rates = s.rates := by
  unfold exhaustMinute
  (repeat' split) <;> simp [SameRest, SamePortsButNotices]

@[simp] theorem runSecond_frame (l : Lane) (s : State) :
    SameRest s (runSecond l s) ∧ SamePortsButNotices s (runSecond l s) ∧ (runSecond l s).squads = s.squads ∧
    (runSecond l s).pairMode = s.pairMode ∧ (runSecond l s).ret = s.ret ∧ (runSecond l s).rates = s.rates := by
  unfold runSecond
  (repeat' split) <;> simp [SameRest, SamePortsButNotices]


/-! ### Machine/Play.lean -/

@[simp] theorem beginGames_frame (q : SquadId) (g : Games) (s : State) :
    SameRest s (beginGames q g s) ∧ SamePorts s (beginGames q g s) ∧ (beginGames q g s).pairMode = s.pairMode ∧
    (beginGames q g s).ret = s.ret ∧ (beginGames q g s).rates = s.rates := by
  simp [SameRest, SamePorts, beginGames]

@[simp] theorem setFoulDetect_frame (l : Lane) (on : Bool) (s : State) :
    SameRest s (setFoulDetect l on s) ∧ SamePorts s (setFoulDetect l on s) ∧
    (setFoulDetect l on s).squads = s.squads ∧ (setFoulDetect l on s).pairMode = s.pairMode ∧
    (setFoulDetect l on s).ret = s.ret ∧ (setFoulDetect l on s).rates = s.rates := by
  simp [SameRest, SamePorts, setFoulDetect]

@[simp] theorem mapReopens_frame (f : ReopenMark → Option ReopenMark) (s : State) :
    SameRest s (mapReopens f s) ∧ SamePorts s (mapReopens f s) ∧ (mapReopens f s).squads = s.squads ∧
    (mapReopens f s).pairMode = s.pairMode ∧ (mapReopens f s).ret = s.ret ∧ (mapReopens f s).rates = s.rates := by
  simp [SameRest, SamePorts, mapReopens]

@[simp] theorem unmarkBowler_frame (q : SquadId) (slot : Nat) (renumber : Nat → Nat) (s : State) :
    SameRest s (unmarkBowler q slot renumber s) ∧ SamePorts s (unmarkBowler q slot renumber s) ∧
    (unmarkBowler q slot renumber s).squads = s.squads ∧ (unmarkBowler q slot renumber s).pairMode = s.pairMode ∧
    (unmarkBowler q slot renumber s).ret = s.ret ∧ (unmarkBowler q slot renumber s).rates = s.rates := by
  simp [SameRest, SamePorts, unmarkBowler]

@[simp] theorem replaceCurrent_frame (q : SquadId) (s : State) :
    SameRest s (replaceCurrent q s) ∧ SamePortsButNotices s (replaceCurrent q s) ∧
    (replaceCurrent q s).pairMode = s.pairMode ∧ (replaceCurrent q s).ret = s.ret ∧
    (replaceCurrent q s).rates = s.rates := by
  simp [SameRest, SamePortsButNotices, replaceCurrent]

@[simp] theorem modBowler_frame (q : SquadId) (slot : Nat) (f : Bowler → Bowler) (s : State) :
    SameRest s (modBowler q slot f s) ∧ SamePorts s (modBowler q slot f s) ∧ (modBowler q slot f s).lanes = s.lanes ∧
    (modBowler q slot f s).pairMode = s.pairMode ∧ (modBowler q slot f s).ret = s.ret ∧
    (modBowler q slot f s).rates = s.rates := by
  simp [SameRest, SamePorts, modBowler]


/-! ### Machine/Correct.lean -/

@[simp] theorem rotateCorrected_frame (q : SquadId) (l : Lane) (n k : Nat) (before after : List BallEntry) (s : State) :
    SameRest s (rotateCorrected q l n k before after s) ∧
    SamePortsButNotices s (rotateCorrected q l n k before after s) ∧
    (rotateCorrected q l n k before after s).pairMode = s.pairMode ∧
    (rotateCorrected q l n k before after s).ret = s.ret ∧
    (rotateCorrected q l n k before after s).rates = s.rates := by
  unfold rotateCorrected
  (repeat' split) <;> simp [SameRest, SamePortsButNotices]

@[simp] theorem staleAfterCorrection_frame (l : Lane) (before : Leave) (s : State) :
    SameRest s (staleAfterCorrection l before s) ∧ SamePortsButNotices s (staleAfterCorrection l before s) ∧
    (staleAfterCorrection l before s).squads = s.squads ∧ (staleAfterCorrection l before s).pairMode = s.pairMode ∧
    (staleAfterCorrection l before s).ret = s.ret ∧ (staleAfterCorrection l before s).rates = s.rates := by
  unfold staleAfterCorrection
  dsimp only
  (repeat' split) <;> simp [SameRest, SamePortsButNotices]

@[simp] theorem takeCorrection_frame (p : Port) (q : SquadId) (n k : Nat) (b : Bowler) (after : List BallEntry) (s : State) :
    SameRest s (takeCorrection p q n k b after s) ∧ SamePortsButNotices s (takeCorrection p q n k b after s) ∧
    (takeCorrection p q n k b after s).pairMode = s.pairMode ∧ (takeCorrection p q n k b after s).ret = s.ret ∧
    (takeCorrection p q n k b after s).rates = s.rates := by
  unfold takeCorrection
  dsimp only
  split <;> simp [SameRest, SamePortsButNotices]

@[simp] theorem afterEntered_frame (l : Lane) (r : Recorded) (s : State) :
    SameRest s (afterEntered l r s) ∧ SamePorts s (afterEntered l r s) ∧ (afterEntered l r s).pairMode = s.pairMode ∧
    (afterEntered l r s).ret = s.ret ∧ (afterEntered l r s).rates = s.rates := by
  unfold afterEntered
  split <;> simp [SameRest, SamePorts]


/-! ### Machine/Delivery.lean -/

@[simp] theorem runsNow_frame (l : Lane) (s : State) :
    SameRest s (runsNow l s) ∧ SamePortsButNotices s (runsNow l s) ∧ (runsNow l s).pairMode = s.pairMode ∧
    (runsNow l s).ret = s.ret ∧ (runsNow l s).rates = s.rates := by
  unfold runsNow
  (repeat' split) <;> simp [SameRest, SamePortsButNotices]

@[simp] theorem latch_frame (l : Lane) (c : CycleRec) (s : State) :
    SameRest s (latch l c s) ∧ SamePortsButNotices s (latch l c s) ∧ (latch l c s).squads = s.squads ∧
    (latch l c s).pairMode = s.pairMode ∧ (latch l c s).ret = s.ret ∧ (latch l c s).rates = s.rates := by
  unfold latch
  dsimp only
  split <;> simp [SameRest, SamePortsButNotices]

@[simp] theorem endCycle_frame (l : Lane) (c : CycleRec) (s : State) :
    SameRest s (endCycle l c s) ∧ SamePortsButNotices s (endCycle l c s) ∧ (endCycle l c s).squads = s.squads ∧
    (endCycle l c s).pairMode = s.pairMode ∧ (endCycle l c s).ret = s.ret ∧ (endCycle l c s).rates = s.rates := by
  unfold endCycle
  split <;> simp [SameRest, SamePortsButNotices]

@[simp] theorem afterTest_frame (l : Lane) (s : State) :
    SameRest s (afterTest l s) ∧ SamePortsButNotices s (afterTest l s) ∧ (afterTest l s).pairMode = s.pairMode ∧
    (afterTest l s).ret = s.ret ∧ (afterTest l s).rates = s.rates := by
  unfold afterTest
  (repeat' split) <;> simp [SameRest, SamePortsButNotices]

@[simp] theorem afterPurpose_frame (l : Lane) (p : Purpose) (s : State) :
    SameRest s (afterPurpose l p s) ∧ SamePortsButNotices s (afterPurpose l p s) ∧
    (afterPurpose l p s).pairMode = s.pairMode ∧ (afterPurpose l p s).ret = s.ret ∧
    (afterPurpose l p s).rates = s.rates := by
  unfold afterPurpose
  split <;> simp [SameRest, SamePortsButNotices]

@[simp] theorem afterClosing_frame (l : Lane) (c : CycleRec) (s : State) :
    SameRest s (afterClosing l c s) ∧ SamePorts s (afterClosing l c s) ∧ (afterClosing l c s).pairMode = s.pairMode ∧
    (afterClosing l c s).ret = s.ret ∧ (afterClosing l c s).rates = s.rates := by
  unfold afterClosing
  split <;> simp [SameRest, SamePorts]

@[simp] theorem countFault_frame (l : Lane) (s : State) :
    SameRest s (countFault l s) ∧ SamePorts s (countFault l s) ∧ (countFault l s).squads = s.squads ∧
    (countFault l s).pairMode = s.pairMode ∧ (countFault l s).ret = s.ret ∧ (countFault l s).rates = s.rates := by
  simp [SameRest, SamePorts, countFault]

@[simp] theorem startDelivery_frame (l : Lane) (s : State) :
    SameRest s (startDelivery l s) ∧ SamePorts s (startDelivery l s) ∧ (startDelivery l s).squads = s.squads ∧
    (startDelivery l s).pairMode = s.pairMode ∧ (startDelivery l s).ret = s.ret ∧
    (startDelivery l s).rates = s.rates := by
  simp [SameRest, SamePorts, startDelivery]

@[simp] theorem deadBall_frame (l : Lane) (s : State) :
    SameRest s (deadBall l s) ∧ SamePortsButNotices s (deadBall l s) ∧ (deadBall l s).squads = s.squads ∧
    (deadBall l s).pairMode = s.pairMode ∧ (deadBall l s).ret = s.ret ∧ (deadBall l s).rates = s.rates := by
  unfold deadBall
  split <;> simp [SameRest, SamePortsButNotices]

@[simp] theorem readDeck_frame (l : Lane) (s : State) :
    SameRest s (readDeck l s) ∧ SamePorts s (readDeck l s) ∧ (readDeck l s).squads = s.squads ∧
    (readDeck l s).pairMode = s.pairMode ∧ (readDeck l s).ret = s.ret ∧ (readDeck l s).rates = s.rates := by
  unfold readDeck
  split <;> simp [SameRest, SamePorts]

@[simp] theorem secondRead_frame (l : Lane) (s : State) :
    SameRest s (secondRead l s) ∧ SamePorts s (secondRead l s) ∧ (secondRead l s).squads = s.squads ∧
    (secondRead l s).pairMode = s.pairMode ∧ (secondRead l s).ret = s.ret ∧ (secondRead l s).rates = s.rates := by
  simp [SameRest, SamePorts, secondRead]

@[simp] theorem enterEntry_frame (l : Lane) (s : State) :
    SameRest s (enterEntry l s) ∧ SamePortsButNotices s (enterEntry l s) ∧ (enterEntry l s).squads = s.squads ∧
    (enterEntry l s).pairMode = s.pairMode ∧ (enterEntry l s).ret = s.ret ∧ (enterEntry l s).rates = s.rates := by
  simp [SameRest, SamePortsButNotices, enterEntry]

@[simp] theorem retryCycle_frame (l : Lane) (c : CycleRec) (s : State) :
    SameRest s (retryCycle l c s) ∧ SamePorts s (retryCycle l c s) ∧ (retryCycle l c s).squads = s.squads ∧
    (retryCycle l c s).pairMode = s.pairMode ∧ (retryCycle l c s).ret = s.ret ∧
    (retryCycle l c s).rates = s.rates := by
  simp [SameRest, SamePorts, retryCycle]

@[simp] theorem watchdogFault_frame (l : Lane) (s : State) :
    SameRest s (watchdogFault l s) ∧ SamePortsButNotices s (watchdogFault l s) ∧
    (watchdogFault l s).pairMode = s.pairMode ∧ (watchdogFault l s).ret = s.ret ∧
    (watchdogFault l s).rates = s.rates := by
  simp [SameRest, SamePortsButNotices, watchdogFault]


/-! ### Machine/Return.lean -/

@[simp] theorem addReturnHolds_frame (s : State) :
    SameRest s (addReturnHolds s) ∧ SamePorts s (addReturnHolds s) ∧ (addReturnHolds s).squads = s.squads ∧
    (addReturnHolds s).pairMode = s.pairMode ∧ (addReturnHolds s).ret = s.ret ∧
    (addReturnHolds s).rates = s.rates := by
  simp [SameRest, SamePorts, addReturnHolds]

@[simp] theorem removeReturnHolds_frame (s : State) :
    SameRest s (removeReturnHolds s) ∧ SamePortsButNotices s (removeReturnHolds s) ∧
    (removeReturnHolds s).pairMode = s.pairMode ∧ (removeReturnHolds s).ret = s.ret ∧
    (removeReturnHolds s).rates = s.rates := by
  simp [SameRest, SamePortsButNotices, removeReturnHolds]

@[simp] theorem sensorFault_frame (s : State) :
    SameRest s (sensorFault s) ∧ SamePortsButNotices s (sensorFault s) ∧ (sensorFault s).squads = s.squads ∧
    (sensorFault s).pairMode = s.pairMode ∧ (sensorFault s).rates = s.rates := by
  simp [SameRest, SamePortsButNotices, sensorFault]

@[simp] theorem declareJam_frame (s : State) :
    SameRest s (declareJam s) ∧ SamePortsButNotices s (declareJam s) ∧ (declareJam s).squads = s.squads ∧
    (declareJam s).pairMode = s.pairMode ∧ (declareJam s).rates = s.rates := by
  simp [SameRest, SamePortsButNotices, declareJam]

@[simp] theorem jamFreed_frame (s : State) :
    SameRest s (jamFreed s) ∧ SamePortsButNotices s (jamFreed s) ∧ (jamFreed s).pairMode = s.pairMode ∧
    (jamFreed s).rates = s.rates := by
  have h : ∀ x, (headArrives s).port x = s.port x := fun x => by cases x <;> rfl
  simp [SameRest, SamePortsButNotices, jamFreed, h]
  simp [headArrives]

@[simp] theorem emptyReturn_frame (st : ReturnState) (s : State) :
    SameRest s (emptyReturn st s) ∧ SamePortsButNotices s (emptyReturn st s) ∧
    (emptyReturn st s).pairMode = s.pairMode ∧ (emptyReturn st s).rates = s.rates := by
  unfold emptyReturn
  split <;> simp [SameRest, SamePortsButNotices]


/-! ### Machine/Rates.lean -/

@[simp] theorem reevaluate_frame (s : State) :
    SameRest s (reevaluate s) ∧ SamePortsButNotices s (reevaluate s) ∧ (reevaluate s).lanes = s.lanes ∧
    (reevaluate s).squads = s.squads ∧ (reevaluate s).pairMode = s.pairMode ∧ (reevaluate s).ret = s.ret := by
  unfold reevaluate
  dsimp only
  split <;> simp [SameRest, SamePortsButNotices]

@[simp] theorem writeWorking_frame (n : Nat) (v : RateEntry) (s : State) :
    SameRest s (writeWorking n v s) ∧ SamePorts s (writeWorking n v s) ∧ (writeWorking n v s).lanes = s.lanes ∧
    (writeWorking n v s).squads = s.squads ∧ (writeWorking n v s).pairMode = s.pairMode ∧
    (writeWorking n v s).ret = s.ret := by
  simp [SameRest, SamePorts, writeWorking]

@[simp] theorem modStored_frame (n : Nat) (f : StoredEntry → StoredEntry) (s : State) :
    SameRest s (modStored n f s) ∧ SamePorts s (modStored n f s) ∧ (modStored n f s).lanes = s.lanes ∧
    (modStored n f s).squads = s.squads ∧ (modStored n f s).pairMode = s.pairMode ∧
    (modStored n f s).ret = s.ret := by
  simp [SameRest, SamePorts, modStored]

@[simp] theorem startProgramming_frame (n : Nat) (v : RateEntry) (s : State) :
    SameRest s (startProgramming n v s) ∧ SamePorts s (startProgramming n v s) ∧
    (startProgramming n v s).lanes = s.lanes ∧ (startProgramming n v s).squads = s.squads ∧
    (startProgramming n v s).pairMode = s.pairMode ∧ (startProgramming n v s).ret = s.ret := by
  simp [SameRest, SamePorts, startProgramming]

end Sys2Proof.Machine
end

