-- ==== Sys2Proof/Laws/Ops.lean ====
section
/-! SUPPORT. What each shared operation on one lane leaves as it was on the other lane and on its own, what a hold set and a
notice set hold after an operation, and when an arming decision arms. -/

namespace Sys2Proof.Machine

/-- Everything held for a lane but its supervisor. -/
abbrev SameLaneButSup (r t : LaneRec) : Prop :=
  t.state = r.state ∧ t.holds = r.holds ∧ t.squad = r.squad ∧ t.foulDetect = r.foulDetect ∧
    t.latchedFault = r.latchedFault ∧ t.reopen = r.reopen ∧ t.serial = r.serial ∧ t.acct = r.acct ∧
    t.runTicks = r.runTicks ∧ t.summary = r.summary

/-- Everything held for a lane but its hold set and its supervisor. -/
abbrev SameLaneButHolds (r t : LaneRec) : Prop :=
  t.state = r.state ∧ t.squad = r.squad ∧ t.foulDetect = r.foulDetect ∧ t.latchedFault = r.latchedFault ∧
    t.reopen = r.reopen ∧ t.serial = r.serial ∧ t.acct = r.acct ∧ t.runTicks = r.runTicks ∧ t.summary = r.summary

@[simp] theorem modLane_lane_other (l : Lane) (f : LaneRec → LaneRec) (s : State) :
    (modLane l f s).lane l.other = s.lane l.other := by cases l <;> rfl

@[simp] theorem modSup_lane_other (l : Lane) (f : Supervisor → Supervisor) (s : State) :
    (modSup l f s).lane l.other = s.lane l.other := by cases l <;> rfl

@[simp] theorem modAcct_lane_other (l : Lane) (f : Account → Account) (s : State) :
    (modAcct l f s).lane l.other = s.lane l.other := by cases l <;> rfl

@[simp] theorem modCounters_lane_other (l : Lane) (f : Counters → Counters) (s : State) :
    (modCounters l f s).lane l.other = s.lane l.other := by cases l <;> rfl

@[simp] theorem modSup_same_but_sup (l : Lane) (f : Supervisor → Supervisor) (s : State) (k : Lane) :
    SameLaneButSup (s.lane k) ((modSup l f s).lane k) := by
  cases l <;> cases k <;> simp [SameLaneButSup, modSup, modLane, State.setLane, State.lane, Pair.set, Pair.get]

@[simp] theorem modCounters_same_but_sup (l : Lane) (f : Counters → Counters) (s : State) (k : Lane) :
    SameLaneButSup (s.lane k) ((modCounters l f s).lane k) := modSup_same_but_sup _ _ _ _

@[simp] theorem raiseLane_lane (n : NoticeKind) (l : Lane) (s : State) (k : Lane) :
    (raiseLane n l s).lane k = s.lane k := by simp [State.lane]

@[simp] theorem raisePair_lane (n : NoticeKind) (s : State) (k : Lane) : (raisePair n s).lane k = s.lane k := by
  simp [State.lane]

@[simp] theorem modSquad_lane' (q : SquadId) (f : Squad → Squad) (s : State) (k : Lane) :
    (modSquad q f s).lane k = s.lane k := by cases q <;> rfl

@[simp] theorem sendMessage_lane_other (l : Lane) (m : MachineMessage) (s : State) :
    (sendMessage l m s).lane l.other = s.lane l.other := by
  simp [sendMessage]

@[simp] theorem startWatchdog_lane_other (l : Lane) (s : State) :
    (startWatchdog l s).lane l.other = s.lane l.other := by
  simp [startWatchdog]

@[simp] theorem wake_lane_other (l : Lane) (s : State) :
    (wake l s).lane l.other = s.lane l.other := by
  unfold wake
  split <;> simp

@[simp] theorem powerDown_lane_other (l : Lane) (s : State) :
    (powerDown l s).lane l.other = s.lane l.other := by
  unfold powerDown
  split <;> simp

@[simp] theorem restartIdle_lane_other (l : Lane) (s : State) :
    (restartIdle l s).lane l.other = s.lane l.other := by
  unfold restartIdle
  split <;> simp

@[simp] theorem maintTest_lane_other (l : Lane) (s : State) :
    (maintTest l s).lane l.other = s.lane l.other := by
  unfold maintTest
  dsimp only
  (repeat' split) <;> simp

@[simp] theorem countCycle_lane_other (l : Lane) (s : State) :
    (countCycle l s).lane l.other = s.lane l.other := by
  simp [countCycle]

@[simp] theorem writeNextDeck_lane_other (l : Lane) (leave : Leave) (s : State) :
    (writeNextDeck l leave s).lane l.other = s.lane l.other := by
  simp [writeNextDeck]

@[simp] theorem setStale_lane_other (l : Lane) (s : State) :
    (setStale l s).lane l.other = s.lane l.other := by
  unfold setStale
  split <;> simp

@[simp] theorem dropHold_lane_other (l : Lane) (h : Hold) (s : State) :
    (dropHold l h s).lane l.other = s.lane l.other := by
  simp [dropHold]

@[simp] theorem gate_lane_other (l : Lane) (s : State) :
    (gate l s).lane l.other = s.lane l.other := by
  simp [gate]

@[simp] theorem addHold_lane_other (l : Lane) (h : Hold) (s : State) :
    (addHold l h s).lane l.other = s.lane l.other := by
  unfold addHold
  dsimp only
  (repeat' split) <;> simp

@[simp] theorem issueCycle_lane_other (l : Lane) (purpose : Purpose) (kind : CycleKind) (picked : Option Leave) (s : State) :
    (issueCycle l purpose kind picked s).lane l.other = s.lane l.other := by
  simp [issueCycle]

@[simp] theorem armOrAlign_lane_other (l : Lane) (s : State) :
    (armOrAlign l s).lane l.other = s.lane l.other := by
  unfold armOrAlign
  split <;> simp

@[simp] theorem enterClosed_lane_other (l : Lane) (s : State) :
    (enterClosed l s).lane l.other = s.lane l.other := by
  simp [enterClosed]

@[simp] theorem park_lane_other (l : Lane) (faulted : Bool) (s : State) :
    (park l faulted s).lane l.other = s.lane l.other := by
  simp [park]

@[simp] theorem endTest_lane_other (l : Lane) (faulted : Bool) (s : State) :
    (endTest l faulted s).lane l.other = s.lane l.other := by
  simp [endTest]

@[simp] theorem recoverActs_lane_other (l : Lane) (s : State) :
    (recoverActs l s).lane l.other = s.lane l.other := by
  unfold recoverActs
  cases (s.sup l).power <;> dsimp only <;> (try split) <;> simp

@[simp] theorem enterRecover_lane_other (l : Lane) (s : State) :
    (enterRecover l s).lane l.other = s.lane l.other := by
  simp [enterRecover]

@[simp] theorem closingCycle_lane_other (l : Lane) (s : State) :
    (closingCycle l s).lane l.other = s.lane l.other := by
  unfold closingCycle
  split <;> simp

/-- A delivery that ends with the machine not RUNNING ends in RECOVER (R58, R157). -/
theorem issueDelivery_recovers {l : Lane} {s : State} (after : Leave) (sameFrame : Bool) (h : (s.sup l).power ≠ .running) :
    issueDelivery l after sameFrame s = enterRecover l (modSup l (fun u => { u with delivery := none }) s) := if_neg h

/-- A delivery that ends with the machine RUNNING issues its cycle (R58). -/
theorem issueDelivery_cycles {l : Lane} {s : State} (after : Leave) (sameFrame : Bool) (h : (s.sup l).power = .running) :
    issueDelivery l after sameFrame s =
      if sameFrame = true ∧ (s.sup l).nextDeck ≠ fullRack then
        issueCycle l .delivery .respot (some after) (modSup l (fun u => { u with delivery := none }) s)
      else issueCycle l .delivery .reset none (modSup l (fun u => { u with delivery := none }) s) := if_pos h

@[simp] theorem issueDelivery_lane_other (l : Lane) (after : Leave) (sameFrame : Bool) (s : State) :
    (issueDelivery l after sameFrame s).lane l.other = s.lane l.other := by
  unfold issueDelivery
  dsimp only
  (repeat' split) <;> simp

@[simp] theorem noteFault_lane_other (l : Lane) (cause : FaultCause) (s : State) :
    (noteFault l cause s).lane l.other = s.lane l.other := by
  simp [noteFault]

@[simp] theorem faultMove_lane_other (l : Lane) (code : Nat) (s : State) :
    (faultMove l code s).lane l.other = s.lane l.other := by
  unfold faultMove
  dsimp only
  (repeat' split) <;> simp

@[simp] theorem setReopen_lane_other (l : Lane) (m : Option ReopenMark) (s : State) :
    (setReopen l m s).lane l.other = s.lane l.other := by
  simp [setReopen]

@[simp] theorem setLaneState_lane_other (l : Lane) (st : LaneState) (s : State) :
    (setLaneState l st s).lane l.other = s.lane l.other := by
  simp [setLaneState]

@[simp] theorem syncIdle_lane_other (l : Lane) (s : State) :
    (syncIdle l s).lane l.other = s.lane l.other := by
  unfold syncIdle
  dsimp only
  (repeat' split) <;> simp

@[simp] theorem freezeSession_lane_other (l : Lane) (s : State) :
    (freezeSession l s).lane l.other = s.lane l.other := by
  simp [freezeSession]

@[simp] theorem abandonGame_lane_other (l : Lane) (s : State) :
    (abandonGame l s).lane l.other = s.lane l.other := by
  simp [abandonGame]

@[simp] theorem abandonDelivery_lane_other (l : Lane) (s : State) :
    (abandonDelivery l s).lane l.other = s.lane l.other := by
  simp [abandonDelivery]

@[simp] theorem closeSequence_lane_other (l : Lane) (s : State) :
    (closeSequence l s).lane l.other = s.lane l.other := by
  unfold closeSequence
  cases (s.sup l).cycle <;> dsimp only <;> (try split) <;> simp

@[simp] theorem sendMessage_same_but_sup (l : Lane) (m : MachineMessage) (s : State) (k : Lane) :
    SameLaneButSup (s.lane k) ((sendMessage l m s).lane k) := by
  simp [SameLaneButSup, sendMessage]

@[simp] theorem startWatchdog_same_but_sup (l : Lane) (s : State) (k : Lane) :
    SameLaneButSup (s.lane k) ((startWatchdog l s).lane k) := by
  simp [SameLaneButSup, startWatchdog]

@[simp] theorem wake_same_but_sup (l : Lane) (s : State) (k : Lane) :
    SameLaneButSup (s.lane k) ((wake l s).lane k) := by
  unfold wake
  split <;> simp [SameLaneButSup]

@[simp] theorem powerDown_same_but_sup (l : Lane) (s : State) (k : Lane) :
    SameLaneButSup (s.lane k) ((powerDown l s).lane k) := by
  unfold powerDown
  split <;> simp [SameLaneButSup]

@[simp] theorem restartIdle_same_but_sup (l : Lane) (s : State) (k : Lane) :
    SameLaneButSup (s.lane k) ((restartIdle l s).lane k) := by
  unfold restartIdle
  split <;> simp [SameLaneButSup]

@[simp] theorem maintTest_same_but_sup (l : Lane) (s : State) (k : Lane) :
    SameLaneButSup (s.lane k) ((maintTest l s).lane k) := by
  unfold maintTest
  dsimp only
  (repeat' split) <;> simp [SameLaneButSup]

@[simp] theorem countCycle_same_but_sup (l : Lane) (s : State) (k : Lane) :
    SameLaneButSup (s.lane k) ((countCycle l s).lane k) := by
  simp [SameLaneButSup, countCycle]

@[simp] theorem writeNextDeck_same_but_sup (l : Lane) (leave : Leave) (s : State) (k : Lane) :
    SameLaneButSup (s.lane k) ((writeNextDeck l leave s).lane k) := by
  simp [SameLaneButSup, writeNextDeck]

@[simp] theorem setStale_same_but_sup (l : Lane) (s : State) (k : Lane) :
    SameLaneButSup (s.lane k) ((setStale l s).lane k) := by
  unfold setStale
  split <;> simp [SameLaneButSup]

@[simp] theorem gate_same_but_sup (l : Lane) (s : State) (k : Lane) :
    SameLaneButSup (s.lane k) ((gate l s).lane k) := by
  simp [SameLaneButSup, gate]

@[simp] theorem issueCycle_same_but_sup (l : Lane) (purpose : Purpose) (kind : CycleKind) (picked : Option Leave) (s : State) (k : Lane) :
    SameLaneButSup (s.lane k) ((issueCycle l purpose kind picked s).lane k) := by
  simp [SameLaneButSup, issueCycle]

@[simp] theorem noteFault_same_but_sup (l : Lane) (cause : FaultCause) (s : State) (k : Lane) :
    SameLaneButSup (s.lane k) ((noteFault l cause s).lane k) := by
  simp [SameLaneButSup, noteFault]

@[simp] theorem syncIdle_same_but_sup (l : Lane) (s : State) (k : Lane) :
    SameLaneButSup (s.lane k) ((syncIdle l s).lane k) := by
  unfold syncIdle
  dsimp only
  (repeat' split) <;> simp [SameLaneButSup]

@[simp] theorem abandonDelivery_same_but_sup (l : Lane) (s : State) (k : Lane) :
    SameLaneButSup (s.lane k) ((abandonDelivery l s).lane k) := by
  simp [SameLaneButSup, abandonDelivery]

@[simp] theorem dropHold_same_but_holds (l : Lane) (h : Hold) (s : State) (k : Lane) :
    SameLaneButHolds (s.lane k) ((dropHold l h s).lane k) := by
  cases l <;> cases k <;> simp [SameLaneButHolds, dropHold, modLane, State.setLane, State.lane, Pair.set, Pair.get]

@[simp] theorem dropHold_sup (l : Lane) (h : Hold) (s : State) (k : Lane) : (dropHold l h s).sup k = s.sup k := by
  cases l <;> cases k <;> rfl

@[simp] theorem addHold_same_but_holds (l : Lane) (h : Hold) (s : State) (k : Lane) :
    SameLaneButHolds (s.lane k) ((addHold l h s).lane k) := by
  unfold addHold
  split
  · simp [SameLaneButHolds]
  · dsimp only
    split <;> cases l <;> cases k <;>
      simp [SameLaneButHolds, gate, modSup, modLane, State.setLane, State.lane, Pair.set, Pair.get]

/-- What a hold set holds after a reason was asked to enter it: the reason, unless the lane is CLOSED. -/
theorem addHold_has (l : Lane) (h : Hold) (s : State) (hs : (s.lane l).state ≠ .closed) :
    ((addHold l h s).lane l).holds.has h = true := by
  unfold addHold
  split
  · rename_i hc
    exact hc.resolve_left hs
  · dsimp only
    split <;> simp [gate]

/-- A reason taken out is not in the hold set. -/
theorem dropHold_has (l : Lane) (h : Hold) (s : State) : ((dropHold l h s).lane l).holds.has h = false := by
  simp [dropHold]

/-- The arming decision ends in GATED when one of its first four conditions fails. -/
theorem arm_of_not_conditions (l : Lane) (s : State) (h : armingConditions s l = false) : arm l s = gate l s := by
  simp [arm, h]

/-- The arming decision without a credit attempt. -/
theorem arm_of_no_credit (l : Lane) (s : State) (h : armingConditions s l = true) (hc : needsCredit s l = false) :
    arm l s = armOrAlign l s := by
  simp [arm, h, hc]

end Sys2Proof.Machine
end

