-- ==== Sys2Proof/Laws/PerInstr.lean ====
section
/-! SUPPORT. Statements made for every command, one lemma per constructor. -/

namespace Sys2Proof.Laws

/-- The body a well-formed command encodes to has the length of its row in the table of requests (R185), a command is encoded
just when it has a row, and an unknown code's body has the length its envelope says. -/
def BodyLength.Statement (i : Instr) : Prop :=
  i.wellFormed = true →
    match requestBody i, i.requestRow with
    | some b, some r => b.length = if r.ports = [] then r.envelope.bodyLen else r.length
    | none, none => True
    | _, _ => False

theorem BodyLength.openLane (e : Envelope) (lane : Coded Lane) (mode : Coded AccountMode) (credit : BitVec 16) (warn : Option (BitVec 16)) :
    BodyLength.Statement (.openLane e lane mode credit warn) := fun _ => rfl

theorem BodyLength.closeLane (e : Envelope) (lane : Coded Lane) :
    BodyLength.Statement (.closeLane e lane) := fun _ => rfl

theorem BodyLength.pauseLane (e : Envelope) (lane : Coded Lane) :
    BodyLength.Statement (.pauseLane e lane) := fun _ => rfl

theorem BodyLength.resumeLane (e : Envelope) (lane : Coded Lane) :
    BodyLength.Statement (.resumeLane e lane) := fun _ => rfl

theorem BodyLength.addCredit (e : Envelope) (lane : Coded Lane) (amount : BitVec 16) :
    BodyLength.Statement (.addCredit e lane amount) := fun _ => rfl

theorem BodyLength.addTime (e : Envelope) (lane : Coded Lane) (amount : BitVec 16) :
    BodyLength.Statement (.addTime e lane amount) := fun _ => rfl

theorem BodyLength.readAccount (e : Envelope) (lane : Coded Lane) :
    BodyLength.Statement (.readAccount e lane) := fun _ => rfl

theorem BodyLength.readSession (e : Envelope) (lane : Coded Lane) :
    BodyLength.Statement (.readSession e lane) := fun _ => rfl

theorem BodyLength.startGame (e : Envelope) (lane : Coded Lane) (games : Byte) :
    BodyLength.Statement (.startGame e lane games) := fun _ => rfl

theorem BodyLength.bowlerReady (e : Envelope) (lane : Coded Lane) :
    BodyLength.Statement (.bowlerReady e lane) := fun _ => rfl

theorem BodyLength.foulDetect (e : Envelope) (lane : Coded Lane) (enable : Coded OnOff) :
    BodyLength.Statement (.foulDetect e lane enable) := fun _ => rfl

theorem BodyLength.resetDeck (e : Envelope) (lane : Coded Lane) :
    BodyLength.Statement (.resetDeck e lane) := fun _ => rfl

theorem BodyLength.addBowler (e : Envelope) (squad : Coded SquadId) (name : List Byte) (handicap : Option Byte) (blind : Option (BitVec 16)) :
    BodyLength.Statement (.addBowler e squad name handicap blind) := fun h => by
  have hn : name.length = 12 := by
    have h' : (e.wellFormed && squad.wellFormed 2 && name.length == 12 && presentWellFormed handicap &&
      presentWellFormed blind) = true := h
    simp at h'
    exact h'.1.1.2
  show ((sideByte squad :: name) ++ optionalBits handicap :: halfBytes (optionalBits blind)).length = 16
  simp [hn, halfBytes]

theorem BodyLength.removeBowler (e : Envelope) (squad : Coded SquadId) (slot : Byte) :
    BodyLength.Statement (.removeBowler e squad slot) := fun _ => rfl

theorem BodyLength.moveBowler (e : Envelope) (squad : Coded SquadId) (slot : Byte) (newSlot : Byte) :
    BodyLength.Statement (.moveBowler e squad slot newSlot) := fun _ => rfl

theorem BodyLength.markAbsent (e : Envelope) (squad : Coded SquadId) (slot : Byte) (blind : BitVec 16) :
    BodyLength.Statement (.markAbsent e squad slot blind) := fun _ => rfl

theorem BodyLength.markPresent (e : Envelope) (squad : Coded SquadId) (slot : Byte) :
    BodyLength.Statement (.markPresent e squad slot) := fun _ => rfl

theorem BodyLength.setHandicap (e : Envelope) (squad : Coded SquadId) (slot : Byte) (handicap : Option Byte) :
    BodyLength.Statement (.setHandicap e squad slot handicap) := fun _ => rfl

theorem BodyLength.readSheet (e : Envelope) (lane : Coded Lane) (part : Byte) :
    BodyLength.Statement (.readSheet e lane part) := fun _ => rfl

theorem BodyLength.correctBall (e : Envelope) (squad : Coded SquadId) (c : CorrectFields) :
    BodyLength.Statement (.correctBall e squad c) := fun _ => rfl

theorem BodyLength.enterBall (e : Envelope) (lane : Coded Lane) (leave : BitVec 16) (foul : Bool) :
    BodyLength.Statement (.enterBall e lane leave foul) := fun _ => rfl

theorem BodyLength.setPairMode (e : Envelope) (mode : Coded PairMode) :
    BodyLength.Statement (.setPairMode e mode) := fun _ => rfl

theorem BodyLength.splitPair (e : Envelope) :
    BodyLength.Statement (.splitPair e) := fun _ => rfl

theorem BodyLength.splitPairForce (e : Envelope) :
    BodyLength.Statement (.splitPairForce e) := fun _ => rfl

theorem BodyLength.rateSet (e : Envelope) (entry : Byte) (value : RateFields) :
    BodyLength.Statement (.rateSet e entry value) := fun _ => rfl

theorem BodyLength.rateClear (e : Envelope) (entry : Byte) :
    BodyLength.Statement (.rateClear e entry) := fun _ => rfl

theorem BodyLength.rateStore (e : Envelope) (entry : Byte) (value : RateFields) (key : Bool) :
    BodyLength.Statement (.rateStore e entry value key) := fun _ => rfl

theorem BodyLength.rateReadWorking (e : Selected Envelope) :
    BodyLength.Statement (.rateReadWorking e) := fun _ => rfl

theorem BodyLength.rateReadStored (e : Envelope) :
    BodyLength.Statement (.rateReadStored e) := fun _ => rfl

theorem BodyLength.clockSet (e : Envelope) (weekday : Byte) (hour : Byte) (minute : Byte) (second : Byte) :
    BodyLength.Statement (.clockSet e weekday hour minute second) := fun _ => rfl

theorem BodyLength.clockRead (e : Envelope) :
    BodyLength.Statement (.clockRead e) := fun _ => rfl

theorem BodyLength.clearFault (e : Envelope) (lane : Coded Lane) :
    BodyLength.Statement (.clearFault e lane) := fun _ => rfl

theorem BodyLength.readMachine (e : Envelope) (lane : Coded Lane) :
    BodyLength.Statement (.readMachine e lane) := fun _ => rfl

theorem BodyLength.setTiming (e : Envelope) (lanes : Coded LaneChoice) (settings : TimingFields) :
    BodyLength.Statement (.setTiming e lanes settings) := fun _ => rfl

theorem BodyLength.setMachineOff (e : Envelope) (lane : Coded Lane) :
    BodyLength.Statement (.setMachineOff e lane) := fun _ => rfl

theorem BodyLength.setMachineOn (e : Envelope) (lane : Selected (Coded Lane)) :
    BodyLength.Statement (.setMachineOn e lane) := fun _ => rfl

theorem BodyLength.testCycle (e : Envelope) (lane : Coded Lane) :
    BodyLength.Statement (.testCycle e lane) := fun _ => rfl

theorem BodyLength.clearCounters (e : Envelope) (lane : Coded Lane) :
    BodyLength.Statement (.clearCounters e lane) := fun _ => rfl

theorem BodyLength.setMaintInterval (e : Envelope) (lane : Coded Lane) (interval : BitVec 32) :
    BodyLength.Statement (.setMaintInterval e lane interval) := fun _ => rfl

theorem BodyLength.maintDone (e : Envelope) (lane : Coded Lane) :
    BodyLength.Statement (.maintDone e lane) := fun _ => rfl

theorem BodyLength.clearReturn (e : Envelope) :
    BodyLength.Statement (.clearReturn e) := fun _ => rfl

theorem BodyLength.setReturn (e : Envelope) (power : Option (Coded OnOff)) (limit : Option Byte) :
    BodyLength.Statement (.setReturn e power limit) := fun _ => rfl

theorem BodyLength.readReturn (e : Envelope) (clearStray : Bool) (clearJam : Bool) :
    BodyLength.Statement (.readReturn e clearStray clearJam) := fun _ => rfl

theorem BodyLength.readSupply (e : Envelope) (clear : Bool) :
    BodyLength.Statement (.readSupply e clear) := fun _ => rfl

theorem BodyLength.resetPair (e : Envelope) :
    BodyLength.Statement (.resetPair e) := fun _ => rfl

theorem BodyLength.readNotices (e : Envelope) :
    BodyLength.Statement (.readNotices e) := fun _ => rfl

theorem BodyLength.ackNotices (e : Envelope) (notices : List NoticeFields) :
    BodyLength.Statement (.ackNotices e notices) := fun _ => by
  show (BitVec.ofNat 8 notices.length :: notices.flatMap fun n => [n.kind, n.scope]).length = 1 + 2 * notices.length
  simp
  omega

theorem BodyLength.setNoticeMask (e : Envelope) (mask : BitVec 32) (mode : Coded AttentionMode) :
    BodyLength.Statement (.setNoticeMask e mask mode) := fun _ => rfl

theorem BodyLength.frameDiscard (port : Port) (bytes : List Byte) :
    BodyLength.Statement (.frameDiscard port bytes) := fun _ => trivial

theorem BodyLength.interByteTimeout (port : Port) (bytes : List Byte) :
    BodyLength.Statement (.interByteTimeout port bytes) := fun _ => trivial

theorem BodyLength.consoleBytesUnderHold : BodyLength.Statement .consoleBytesUnderHold := fun _ => trivial

theorem BodyLength.selectRise : BodyLength.Statement .selectRise := fun _ => trivial

theorem BodyLength.replyTurnaround (port : Port) :
    BodyLength.Statement (.replyTurnaround port) := fun _ => trivial

theorem BodyLength.replySent (port : Port) :
    BodyLength.Statement (.replySent port) := fun _ => trivial

theorem BodyLength.warm (lane : Lane) :
    BodyLength.Statement (.warm lane) := fun _ => trivial

theorem BodyLength.deck (lane : Lane) (leave : Leave) :
    BodyLength.Statement (.deck lane leave) := fun _ => trivial

theorem BodyLength.respotPoint (lane : Lane) :
    BodyLength.Statement (.respotPoint lane) := fun _ => trivial

theorem BodyLength.cycleDone (lane : Lane) :
    BodyLength.Statement (.cycleDone lane) := fun _ => trivial

theorem BodyLength.machineFault (lane : Lane) (code : Byte) :
    BodyLength.Statement (.machineFault lane code) := fun _ => trivial

theorem BodyLength.ballDetection (lane : Lane) :
    BodyLength.Statement (.ballDetection lane) := fun _ => trivial

theorem BodyLength.foulEvent (lane : Lane) :
    BodyLength.Statement (.foulEvent lane) := fun _ => trivial

theorem BodyLength.pitExit (lane : Lane) :
    BodyLength.Statement (.pitExit lane) := fun _ => trivial

theorem BodyLength.arrival : BodyLength.Statement .arrival := fun _ => trivial

theorem BodyLength.keyRelease : BodyLength.Statement .keyRelease := fun _ => trivial

theorem BodyLength.programmingComplete : BodyLength.Statement .programmingComplete := fun _ => trivial

theorem BodyLength.settleExpiry (lane : Lane) :
    BodyLength.Statement (.settleExpiry lane) := fun _ => trivial

theorem BodyLength.deckLimitExpiry (lane : Lane) :
    BodyLength.Statement (.deckLimitExpiry lane) := fun _ => trivial

theorem BodyLength.cycleWatchdogExpiry (lane : Lane) :
    BodyLength.Statement (.cycleWatchdogExpiry lane) := fun _ => trivial

theorem BodyLength.warmUpExpiry (lane : Lane) :
    BodyLength.Statement (.warmUpExpiry lane) := fun _ => trivial

theorem BodyLength.idleStandbyExpiry (lane : Lane) :
    BodyLength.Statement (.idleStandbyExpiry lane) := fun _ => trivial

theorem BodyLength.runOnExpiry : BodyLength.Statement .runOnExpiry := fun _ => trivial

theorem BodyLength.transitExpiry : BodyLength.Statement .transitExpiry := fun _ => trivial

theorem BodyLength.reversePhaseEnd : BodyLength.Statement .reversePhaseEnd := fun _ => trivial

theorem BodyLength.forwardPhaseEnd : BodyLength.Statement .forwardPhaseEnd := fun _ => trivial

theorem BodyLength.runningSecond (lane : Lane) :
    BodyLength.Statement (.runningSecond lane) := fun _ => trivial

theorem BodyLength.pulseEnd (port : Port) :
    BodyLength.Statement (.pulseEnd port) := fun _ => trivial

theorem BodyLength.clockSecond : BodyLength.Statement .clockSecond := fun _ => trivial

theorem BodyLength.crystalStop : BodyLength.Statement .crystalStop := fun _ => trivial

theorem BodyLength.crystalRestart : BodyLength.Statement .crystalRestart := fun _ => trivial

theorem BodyLength.mainFailure : BodyLength.Statement .mainFailure := fun _ => trivial

theorem BodyLength.mainReturn : BodyLength.Statement .mainReturn := fun _ => trivial

theorem BodyLength.retentionLoss : BodyLength.Statement .retentionLoss := fun _ => trivial

theorem BodyLength.batteryLowSet : BodyLength.Statement .batteryLowSet := fun _ => trivial

theorem BodyLength.batteryLowClear : BodyLength.Statement .batteryLowClear := fun _ => trivial

theorem BodyLength.externalResetAssert : BodyLength.Statement .externalResetAssert := fun _ => trivial

theorem BodyLength.externalResetRelease : BodyLength.Statement .externalResetRelease := fun _ => trivial

theorem BodyLength.unknownRequestCode (e : Envelope) (code : Byte) :
    BodyLength.Statement (.unknownRequestCode e code) := fun _ => List.length_replicate

end Sys2Proof.Laws
end

