-- ==== Sys2Proof/Laws/Requests.lean ====
section
/-! SUPPORT. What hearing a request frame can do, once for all requests: how a taken request completes, how it is refused, and
how a frame is turned away. -/

namespace Sys2Proof.Machine

/-- Putting a request into execution on a port is the claims' `Safety.heard`. -/
theorem beginRequest_eq_heard (e : Envelope) (code : Byte) (s : State) :
    beginRequest e.port code e.tag s = Safety.heard e code s := by
  rcases e with ⟨p, a, t, n⟩
  cases p <;> rfl

/-- The port of a heard request holds it in execution. -/
@[simp] theorem heard_port_request (e : Envelope) (code : Byte) (s : State) :
    ((Safety.heard e code s).port e.port).request = some { code := code, tag := e.tag } := by
  rcases e with ⟨p, a, t, n⟩
  cases p <;> rfl

/-- A reply queued for the request in execution is the claims' `Safety.replied`. -/
theorem answerRequest_eq_replied (e : Envelope) (code : Byte) (st : Status) (body : List Byte) (t : State)
    (h : (t.port e.port).request = some { code := code, tag := e.tag }) :
    answerRequest e.port st body t = Safety.replied e code st body t := by
  rcases e with ⟨p, a, tg, n⟩
  unfold answerRequest
  rw [h]
  cases p <;> rfl

/-- A taken frame is neither a broadcast nor for another pair. -/
theorem taken_addressed {e : Envelope} {p : Port} {len : Nat} {s : State} (h : Safety.Taken e p len s) :
    isBroadcast e = false ∧ forAnotherPair e s = false := by
  obtain ⟨-, rfl, -, -, ha⟩ := h
  unfold isBroadcast forAnotherPair
  cases hp : e.port <;> simp_all <;> omega

/-- What a request that a port takes answers (R178), for any meaning whose own part leaves the request in execution. -/
theorem request_taken {e : Envelope} {p : Port} {code : Byte} {allowed broadcastOk : Bool} {len : Nat}
    {body : State → Answer} {s : State} (h : Safety.Taken e p len s) :
    request e code allowed broadcastOk len body s =
      .next (settle s (deliver e.port (answerOf allowed true body (Safety.heard e code s)))) := by
  obtain ⟨h1, h2⟩ := taken_addressed h
  obtain ⟨hon, rfl, hl, hf, -⟩ := h
  simp [request, coreEvent, hon, heardRequest, h1, h2, hf, serve, hl, beginRequest_eq_heard]

/-- A taken request answered at once completes with its own part's state and reply. -/
theorem request_completes {e : Envelope} {p : Port} {code : Byte} {broadcastOk : Bool} {len : Nat}
    {body : State → Answer} {s t : State} {st : Status} {bytes : List Byte} (h : Safety.Taken e p len s)
    (hb : body (Safety.heard e code s) = .now st bytes t)
    (hr : (t.port e.port).request = some { code := code, tag := e.tag }) :
    request e code true broadcastOk len body s = .next (settle s (Safety.replied e code st bytes t)) := by
  rw [request_taken h]
  simp [answerOf, hb, deliver, answerRequest_eq_replied e code st bytes t hr]

/-- A taken request that its own checks refuse changes nothing but its port. -/
theorem request_refused {e : Envelope} {p : Port} {code : Byte} {broadcastOk : Bool} {len : Nat}
    {body : State → Answer} {s : State} {st : Status} (h : Safety.Taken e p len s)
    (hb : body (Safety.heard e code s) = refuse st (Safety.heard e code s)) :
    request e code true broadcastOk len body s =
      .next (settle s (Safety.replied e code st [] (Safety.heard e code s))) :=
  request_completes h hb (heard_port_request e code s)

/-- With the core stopped no request is heard. -/
theorem request_stopped {e : Envelope} {code : Byte} {allowed broadcastOk : Bool} {len : Nat} {body : State → Answer}
    {s : State} (h : coreOn s = false) : request e code allowed broadcastOk len body s = .next s := by
  simp [request, coreEvent, h]

/-- A broadcast (R175): taken under its own checks and without a reply where its request allows one, and otherwise without
effect. -/
theorem request_broadcast {e : Envelope} {code : Byte} {allowed broadcastOk : Bool} {len : Nat} {body : State → Answer}
    {s : State} (hon : coreOn s = true) (h : isBroadcast e = true) :
    request e code allowed broadcastOk len body s =
      .next (settle s (if broadcastOk && e.bodyLen == len then (body s).state else s)) := by
  simp [request, coreEvent, hon, heardRequest, h]

/-- A frame for another pair (R174). -/
theorem request_other_pair {e : Envelope} {code : Byte} {allowed broadcastOk : Bool} {len : Nat} {body : State → Answer}
    {s : State} (hon : coreOn s = true) (h : forAnotherPair e s = true) :
    request e code allowed broadcastOk len body s = .next (settle s s) := by
  have hb : isBroadcast e = false := by
    unfold forAnotherPair at h
    unfold isBroadcast
    cases e.port <;> simp_all
  simp [request, coreEvent, hon, heardRequest, h, hb]

/-- A frame that finds its port busy (R176, R178). -/
theorem request_busy {e : Envelope} {code : Byte} {allowed broadcastOk : Bool} {len : Nat} {body : State → Answer}
    {s : State} (hon : coreOn s = true) (hb : isBroadcast e = false) (ha : forAnotherPair e s = false)
    (hf : portFree s e.port = false) :
    request e code allowed broadcastOk len body s = .next (settle s (portBusy e code s)) := by
  simp [request, coreEvent, hon, heardRequest, ha, hb, hf]

/-- Where a BUSY reply goes (R178): behind the BUSY replies that stand first, and before the first reply of a request. -/
theorem insertBusy_spec (busy : Reply) {front back : List Reply} (hf : ∀ r ∈ front, r.own = false)
    (hb : ∀ r ∈ back.head?, r.own = true) : insertBusy busy (front ++ back) = front ++ busy :: back := by
  induction front with
  | nil =>
    cases back with
    | nil => rfl
    | cons r rest => simp [insertBusy, hb r (by simp)]
  | cons r rest ih =>
    simp [insertBusy, hf r (by simp), ih fun x hx => hf x (by simp [hx])]

/-- A BUSY reply is added, and no reply is lost. -/
theorem mem_insertBusy (busy r : Reply) (rs : List Reply) : r ∈ insertBusy busy rs ↔ r = busy ∨ r ∈ rs := by
  induction rs with
  | nil => simp [insertBusy]
  | cons x rest ih =>
    unfold insertBusy
    split
    · simp
    · simp only [List.mem_cons, ih]
      exact or_left_comm

@[simp] theorem withBusy_notices (busy : Reply) (v : PortState) : (v.withBusy busy).notices = v.notices := rfl
@[simp] theorem withBusy_mask (busy : Reply) (v : PortState) : (v.withBusy busy).mask = v.mask := rfl
@[simp] theorem withBusy_mode (busy : Reply) (v : PortState) : (v.withBusy busy).mode = v.mode := rfl
@[simp] theorem withBusy_pulse (busy : Reply) (v : PortState) : (v.withBusy busy).pulse = v.pulse := rfl
@[simp] theorem withBusy_request (busy : Reply) (v : PortState) : (v.withBusy busy).request = v.request := rfl
@[simp] theorem withBusy_phase (busy : Reply) (v : PortState) : (v.withBusy busy).phase = v.phase := rfl
@[simp] theorem withBusy_transmitting (busy : Reply) (v : PortState) : (v.withBusy busy).transmitting = v.transmitting := rfl

/-- What a transit expiry does (R111): a clearing attempt when the head of a return that carries is overdue, else nothing. -/
theorem takeTransit_cases (s : State) :
    (s.ret.state = .carrying ∧ headOverdue s = true ∧ takeTransit s = startAttempt 1 s) ∨
      (¬(s.ret.state = .carrying ∧ headOverdue s = true) ∧ takeTransit s = s) := by
  unfold takeTransit
  split
  next h => exact .inl ⟨h.1, h.2, rfl⟩
  next h => exact .inr ⟨h, rfl⟩

end Sys2Proof.Machine
end

