-- ==== Sys2Proof/Tests/Slice0.lean ====
section
/-! SUPPORT. The model's own tests: what WellFormed refuses, words of the wire written out from the spec's layouts, worked values of
the spec's tables, one small step per family, and for each statement with hypotheses a witness that meets them. -/

open Sys2Proof Sys2Proof.Machine

/-! ### Small states -/

/-- An envelope at the pair's own address. -/
def Tests.env (p : Port) (n : Nat) : Envelope := { port := p, address := 64, tag := 7#8, bodyLen := n }

/-- The state after reset with lane A in a lane state, a cycle state and a machine power state. -/
def Tests.laneA (st : LaneState) (cy : CycleState) (pw : Power) : State :=
  modLane .a (fun r => { r with state := st, sup := { r.sup with cycle := cy, power := pw } }) State.reset

/-- A bowler with an empty sheet. -/
def Tests.bowler (st : BowlerStatus) : Bowler :=
  { name := [0x41#8], handicap := none, blind := none, status := st, charged := false, completed := 0, last := none,
    sheet := emptySheet, pending := [] }

/-- A squad in a squad state, with a current bowler slot, a frame round and an order. -/
def Tests.squadWith (st : SquadState) (slot : Option Nat) (k : Nat) (order : List Bowler) (s : State) : State :=
  modSquad .a (fun v => { v with state := st, slot := slot, round := k, order := order }) s

/-- A ball entry, its count from its leaves. -/
def Tests.ball (faced after : Leave) (foul : Bool) : BallEntry := makeEntry 1 1 faced after foul .sensed false

/-- A sheet whose first frames hold the balls given. -/
def Tests.sheetOf (frames : List (List BallEntry)) : List FrameRec :=
  (rebuild ((frames ++ List.replicate (10 - frames.length) []).map fun b => { unbowledFrame with balls := b })).1

/-- Lane A at play: PLAYING, ARMED, RUNNING, a deck latched, one ACTIVE bowler current. -/
def Tests.playing : State :=
  Tests.squadWith .bowling (some 1) 1 [Tests.bowler .active]
    (modLane .a (fun r => { r with acct := { r.acct with gameCredit := 2, creditsLoaded := 2 } , sup := { r.sup with latched := some fullRack } })
      (Tests.laneA .playing .armed .running))

/-- The same lane in another cycle state. -/
def Tests.playingIn (cy : CycleState) : State := modSup .a (fun u => { u with cycle := cy }) Tests.playing

/-- The state with the return in a state, holding balls. -/
def Tests.returnIn (st : ReturnState) (n : Nat) (s : State) : State :=
  { s with ret := { s.ret with state := st, queue := List.replicate n { origin := .a, exitTime := 0 } } }

/-- The next state of an outcome. -/
def Tests.nextOf (o : Host.Outcome State Fault Refusal) : Option State :=
  match o with
  | .next t => some t
  | .fault _ => none
  | .refused _ => none

/-- The state after a command, which every command has. -/
def Tests.after (c : Instr) (s : State) : State := (Tests.nextOf (exec c s)).getD s

/-! ### WellFormed refuses each ill-formed term -/

theorem test_wf_address : (Instr.clockRead { (Tests.env .desk 0) with address := 65 }).wellFormed = false := by decide
theorem test_wf_bodyLen : (Instr.clockRead (Tests.env .desk 249)).wellFormed = false := by decide
theorem test_wf_lane : (Instr.closeLane (Tests.env .desk 1) (.bad 1#8)).wellFormed = false := by decide
theorem test_wf_absence : (Instr.openLane (Tests.env .desk 6) (.val .a) (.val .game) 0#16 (some 0xFFFF#16)).wellFormed = false := by
  decide
theorem test_wf_absence_byte :
    (Instr.setHandicap (Tests.env .console 3) (.val .a) 1#8 (some 0xFF#8)).wellFormed = false := by decide
theorem test_wf_weekdays :
    (Instr.rateSet (Tests.env .desk 13) 1#8 { present := true, weekdays := some 0#8, start := 0, stop := 0, perGame := 0, perHour := 0 }).wellFormed
      = false := by decide
theorem test_wf_form :
    (Instr.correctBall (Tests.env .desk 11) (.val .a)
      { slot := 1, frame := 1, ball := 1, expectedCount := 0, expectedFoul := false, form := .bad 0#8, newLeave := none,
        newCount := none, newFoul := false }).wellFormed = false := by decide
theorem test_wf_timing :
    (Instr.setTiming (Tests.env .service 5) (.val .both) { settle := some 0xFF#8, watchdog := none, warmUp := none, idle := none }).wellFormed
      = false := by decide
theorem test_wf_power : (Instr.setReturn (Tests.env .service 2) (some (.bad 0xFF#8)) none).wellFormed = false := by decide
theorem test_wf_stray : (Instr.rateReadWorking ⟨Tests.env .service 1, some 1#8⟩).wellFormed = false ∧
    (Instr.setMachineOn (Tests.env .service 2) ⟨.val .a, some 0#8⟩).wellFormed = false := by decide
theorem test_wf_name : (Instr.addBowler (Tests.env .console 16) (.val .a) [0x41#8] none none).wellFormed = false := by decide
theorem test_wf_ack_count :
    (Instr.ackNotices (Tests.env .desk 0) (List.replicate 256 { kind := 0#8, scope := 0#8 })).wellFormed = false := by decide +kernel
theorem test_wf_timeout_port : (Instr.interByteTimeout .console []).wellFormed = false := by decide
theorem test_wf_discard_length : (Instr.frameDiscard .desk (List.replicate 256 0#8)).wellFormed = false := by
  decide +kernel
theorem test_wf_fault_code : (Instr.machineFault .a 0#8).wellFormed = false := by decide
theorem test_wf_unknown_code : (Instr.unknownRequestCode (Tests.env .desk 0) 45#8).wellFormed = false := by decide
theorem test_wf_accepts : (Instr.openLane (Tests.env .desk 6) (.bad 2#8) (.val .time) 720#16 (some 30#16)).wellFormed = true := by
  decide

/-! ### Words of the wire, written out from chapter 12 -/

/-- R184: the published check value of CRC-16/CCITT-FALSE over the nine digits. -/
theorem test_crc_check_value :
    crc16 [0x31#8, 0x32#8, 0x33#8, 0x34#8, 0x35#8, 0x36#8, 0x37#8, 0x38#8, 0x39#8] = 0x29B1#16 := by decide +kernel

/-- R174, R184: sync, pair address, body length with code and tag, code, tag, body. -/
theorem test_frame_layout :
    (Frame.bytes { address := 64#8, code := 2#8, tag := 9#8, body := [1#8] }).take 6 =
      [0xC5#8, 64#8, 3#8, 2#8, 9#8, 1#8] := by decide +kernel

/-- The frame of a body on the desk line at address 64, tag 7. -/
def Tests.onWire (p : Port) (code : Byte) (body : List Byte) : Option Instr :=
  decodeFrame p true { address := 64#8, code := code, tag := 7#8, body := body }

theorem test_word_openLane : Tests.onWire .desk 1#8 [1#8, 1#8, 0x02#8, 0xD0#8, 0xFF#8, 0xFF#8] =
    some (.openLane (Tests.env .desk 6) (.val .b) (.val .time) 720#16 none) := by decide +kernel
theorem test_word_startGame : Tests.onWire .console 9#8 [0#8, 3#8] =
    some (.startGame (Tests.env .console 2) (.val .a) 3#8) := by decide +kernel
theorem test_word_removeBowler : Tests.onWire .console 14#8 [1#8, 2#8] =
    some (.removeBowler (Tests.env .console 2) (.val .b) 2#8) := by decide +kernel
theorem test_word_correctBall : Tests.onWire .console 20#8 [0#8, 1#8, 10#8, 3#8, 7#8, 0#8, 1#8, 0xFF#8, 0xFF#8, 9#8, 1#8] =
    some (.correctBall (Tests.env .console 11) (.val .a)
      { slot := 1#8, frame := 10#8, ball := 3#8, expectedCount := 7#8, expectedFoul := false, form := .val .count,
        newLeave := none, newCount := some 9#8, newFoul := true }) := by decide +kernel
theorem test_word_enterBall : Tests.onWire .desk 21#8 [0#8, 0x02#8, 0x40#8, 1#8] =
    some (.enterBall (Tests.env .desk 4) (.val .a) 0x0240#16 true) := by decide +kernel
theorem test_word_setPairMode : Tests.onWire .desk 22#8 [1#8] = some (.setPairMode (Tests.env .desk 1) (.val .cross)) := by
  decide +kernel
theorem test_word_rateSet :
    Tests.onWire .desk 24#8 [3#8, 128#8, 0x60#8, 0x04#8, 0x38#8, 0x05#8, 0xA0#8, 0x01#8, 0xF4#8, 0#8, 0#8, 0x0B#8, 0xB8#8] =
      some (.rateSet (Tests.env .desk 13) 3#8
        { present := true, weekdays := some 0x60#8, start := 1080#16, stop := 1440#16, perGame := 500#16,
          perHour := 3000#32 }) := by decide +kernel
theorem test_word_clockSet : Tests.onWire .desk 28#8 [5#8, 23#8, 59#8, 58#8] =
    some (.clockSet (Tests.env .desk 4) 5#8 23#8 59#8 58#8) := by decide +kernel
theorem test_word_setTiming : Tests.onWire .service 32#8 [2#8, 0xFF#8, 15#8, 0xFF#8, 0#8] =
    some (.setTiming (Tests.env .service 5) (.val .both) { settle := none, watchdog := some 15#8, warmUp := none, idle := some 0#8 }) := by
  decide +kernel
theorem test_word_rateRead : Tests.onWire .service 27#8 [0#8] = some (.rateReadWorking ⟨Tests.env .service 1, none⟩) ∧
    Tests.onWire .service 27#8 [1#8] = some (.rateReadStored (Tests.env .service 1)) ∧
    Tests.onWire .desk 27#8 [2#8] = some (.rateReadWorking ⟨Tests.env .desk 1, some 2#8⟩) := by decide +kernel
theorem test_word_setMachine : Tests.onWire .service 33#8 [1#8, 0#8] = some (.setMachineOn (Tests.env .service 2) ⟨.val .b, none⟩) ∧
    Tests.onWire .service 33#8 [0#8, 1#8] = some (.setMachineOff (Tests.env .service 2) (.val .a)) ∧
    Tests.onWire .service 33#8 [0#8, 9#8] = some (.setMachineOn (Tests.env .service 2) ⟨.val .a, some 9#8⟩) := by decide +kernel
theorem test_word_setReturn : Tests.onWire .service 39#8 [1#8, 0xFF#8] =
    some (.setReturn (Tests.env .service 2) (some (.val .off)) none) := by decide +kernel
theorem test_word_ackNotices : Tests.onWire .console 44#8 [1#8, 18#8, 2#8] =
    some (.ackNotices (Tests.env .console 3) [{ kind := 18#8, scope := 2#8 }]) := by decide +kernel
theorem test_word_unknown : Tests.onWire .service 46#8 [] = some (.unknownRequestCode (Tests.env .service 0) 46#8) := by
  decide +kernel
theorem test_no_table_word : decodeTableWord 8 1 = none := rfl

/-! ### Worked values of the spec -/

/-- Section 2.2, examples of pinfall: 7-10 left of a full rack; 6-7-10 supplied against 3-6-10; a foul on a full rack. -/
theorem test_pinfall_split : ballCount fullRack 0x240#10 false = 8 := by decide
theorem test_pinfall_clamped : ballCount 0x224#10 (0x260#10 &&& 0x224#10) false = 1 := by decide
theorem test_pinfall_foul : ballCount fullRack 0x048#10 true = 0 := by decide

/-- R39's examples: 7-10, 2-7, 3-10, 4-7-10 and 5-8-10 are splits; 4-5, 9-10, 1-2-10 and 10 are not. -/
theorem test_splits : [0x240#10, 0x042#10, 0x204#10, 0x248#10, 0x290#10].all (fun l => splitMark 1 1 fullRack l false) = true := by
  decide
theorem test_no_splits : [0x018#10, 0x300#10, 0x203#10, 0x200#10].all (fun l => !splitMark 1 1 fullRack l false) = true := by
  decide

/-- R41: a foul, a spare after it on the full rack, and a strike. -/
theorem test_marks_spare_after_foul :
    marksOf 1 [Tests.ball fullRack 0x001#10 true, Tests.ball fullRack clearDeck false] = [markFoul, markSpare] := by decide
theorem test_marks_tenth :
    marksOf 10 [Tests.ball fullRack clearDeck false, Tests.ball fullRack 0x003#10 false, Tests.ball 0x003#10 clearDeck false] =
      [markX, 0x38#8, markSpare] := by decide

/-- Section 2.4's worked game, records 1 to 4: a strike, a spare 7 and 3, and a 9: frame 1 final at 20, frame 2 at 39. -/
theorem test_game_start :
    ((Tests.sheetOf [[Tests.ball fullRack clearDeck false],
        [Tests.ball fullRack 0x007#10 false, Tests.ball 0x007#10 clearDeck false],
        [Tests.ball fullRack 0x200#10 false]]).map (·.total)).take 3 = [some 20, some 39, none] := by decide +kernel

/-- R38's example: after strikes in frames 4 and 5 the pending list is (4, 1), (5, 2). -/
theorem test_pending_after_two_strikes :
    (rebuild (setFrame (setFrame emptySheet 4 { unbowledFrame with balls := [Tests.ball fullRack clearDeck false] }) 5
      { unbowledFrame with balls := [Tests.ball fullRack clearDeck false] })).2 = [4, 5] := by decide +kernel

/-- R132: 30 sixtieths round up, 29 do not; R133: the charge saturates. -/
theorem test_time_part : timePart { Account.cleared with centMinutes := 90 } = 2 ∧
    timePart { Account.cleared with centMinutes := 89 } = 1 := by decide
theorem test_charge_saturates : sessionCharge { Account.cleared with centMinutes := 599999999 } = 9999999 := by decide

/-- R140: a wrapping window from 22:00 to 02:00 on weekday 5 reaches into weekday 6, and not into weekday 5's early hours. -/
theorem test_wrapping_window :
    rateMatches { present := true, weekdays := some 0x10#7, start := 1320, stop := 120, perGame := 0, perHour := 0 } 6 119 = true ∧
    rateMatches { present := true, weekdays := some 0x10#7, start := 1320, stop := 120, perGame := 0, perHour := 0 } 6 120 = false ∧
    rateMatches { present := true, weekdays := some 0x10#7, start := 1320, stop := 120, perGame := 0, perHour := 0 } 5 0 = false := by
  decide

/-- R164: Saturday midnight goes on to Sunday, and day 7 to day 1. -/
theorem test_clock_week : (Clock.advance { weekday := 7, hour := 23, minute := 59, second := 59, valid := true, crystal := true }) =
    { weekday := 1, hour := 0, minute := 0, second := 0, valid := true, crystal := true } := by decide

/-! ### Witnesses: states and operands that meet the hypotheses of each statement, clause by clause -/

/-- The core stopped in BACKUP, its retention kept. -/
def Tests.backup : State := Tests.after .mainFailure State.reset

/-- A port of the state after reset holding a request. -/
def Tests.busyDesk : State := { State.reset with desk := { State.reset.desk with request := some { code := 1, tag := 1 } } }

/-- The console port executing or with a reply ready. -/
def Tests.console (ph : ConsolePhase) : State := { State.reset with console := { State.reset.console with phase := ph } }

theorem witness_EmptyQueueIsOneCoreTick :
    (State.reset.pending = [] ∧ coreOn State.reset = true) ∧ Tests.backup.pending = [] ∧ coreOn Tests.backup = false := by decide

theorem witness_StoppedCoreHearsNothing : coreOn Tests.backup = false ∧
    Instr.arrival ∉ [Instr.clockSecond, .crystalStop, .crystalRestart, .mainFailure, .mainReturn, .retentionLoss, .batteryLowSet,
      .batteryLowClear, .externalResetRelease] := by decide

theorem witness_RequestTurnedAway :
    (Instr.clockRead (Tests.env .console 0)).requestRow = some ⟨Tests.env .console 0, 29#8, [.desk], false, 0⟩ ∧
    Safety.Taken (Tests.env .console 0) .console 0 State.reset ∧ Port.console ∉ [Port.desk] ∧
    (Instr.clockRead (Tests.env .desk 1)).requestRow = some ⟨Tests.env .desk 1, 29#8, [.desk], false, 0⟩ ∧
    Safety.Taken (Tests.env .desk 1) .desk 1 State.reset ∧
    Safety.Taken (Tests.env .service 0) .service 0 State.reset := by unfold Safety.Taken; decide

theorem witness_FramesNotTaken :
    coreOn Tests.busyDesk = true ∧ Tests.busyDesk.desk.request ≠ none ∧ Tests.busyDesk.address = 64 ∧
    coreOn (Tests.console .executing) = true ∧ (Tests.console .executing).console.phase = .executing ∧
    coreOn (Tests.console .replyReady) = true ∧ (Tests.console .replyReady).console.phase = .replyReady ∧
    (∀ x ∈ [({ code := 1, tag := 1, status := .busy, body := [], own := false } : Reply)], x.own = false) ∧
    (∀ y ∈ [({ code := 1, tag := 1, status := .ok, body := [], own := true } : Reply)].head?, y.own = true) ∧
    ({ State.reset with service := { State.reset.service with request := some { code := 1, tag := 1 } } } : State).service.request ≠ none ∧
    ((63 : Nat) ≠ 0 ∧ (63 : Nat) ≠ State.reset.address) ∧
    (Instr.clockRead { (Tests.env .desk 0) with address := 0 }).requestRow =
      some ⟨{ (Tests.env .desk 0) with address := 0 }, 29#8, [.desk], false, 0⟩ ∧
    (Instr.rateClear { (Tests.env .desk 2) with address := 0 } 1#8).requestRow =
      some ⟨{ (Tests.env .desk 2) with address := 0 }, 25#8, [.desk], true, 1⟩ := by decide

theorem witness_RequestFramesRoundTrip :
    syncByte ∉ [0#8, 0xFF#8] ∧ (List.replicate 248 0xC5#8).length ≤ 248 ∧
    (Instr.clockRead (Tests.env .desk 0)).wellFormed = true ∧
    (Instr.ackNotices (Tests.env .desk 3) [{ kind := 255#8, scope := 255#8 }]).wellFormed = true := by decide +kernel

/-- Every standing condition holds in a lane at play, and a ball detection leads on from it. -/
theorem witness_standing_ArmedReady : Safety.ArmedReady Tests.playing ∧ (Tests.playing.sup .a).cycle = .armed := by
  refine ⟨fun l => ?_, by decide⟩
  cases l <;> decide
theorem witness_standing_records : Safety.ClosedUnheld Tests.playing ∧ Safety.OrdersFit Tests.playing ∧ Safety.RetentionKept Tests.playing ∧
    Safety.StoreUnworn Tests.playing := by
  refine ⟨fun l => ?_, fun q => ?_, by unfold Safety.RetentionKept; decide, by unfold Safety.StoreUnworn; decide⟩
  · cases l <;> decide
  · cases q <;> decide
theorem witness_standing_squads : Safety.SquadsPlaced Tests.playing := by
  refine ⟨fun q => ?_, fun q => ?_, by decide⟩ <;> cases q <;> decide
theorem witness_standing_accounts : Safety.AccountsBalanced Tests.playing := by
  intro l
  unfold Safety.AccountBalanced
  cases l <;> decide
theorem witness_standing_return : Safety.ReturnSound Tests.playing := by
  intro _
  exact ⟨by decide, rfl, rfl, rfl, rfl, rfl, rfl, rfl⟩
/-- A programming of entry 3 under way. -/
def Tests.storing : State := startProgramming 3 RateEntry.factory Tests.busyDesk

/-- Two balls on the way, the first of them 300 ticks old. -/
def Tests.twoBalls : State :=
  { Tests.playing with
    tick := 500
    ret := { Tests.playing.ret with
      state := .carrying, lift := .forward, queue := [{ origin := .a, exitTime := 200 }, { origin := .b, exitTime := 450 }] } }
theorem witness_standing_queue : Safety.QueueInOrder Tests.twoBalls ∧
    ∀ x ∈ Tests.twoBalls.ret.queue, ticksSince Tests.twoBalls.tick x.exitTime ≠ 4294967295 := by
  unfold Safety.QueueInOrder; decide
theorem witness_standing_rates : Safety.RatesSound Tests.storing := by
  unfold Safety.RatesSound Safety.RateSound; decide
theorem witness_standing_notices : Safety.NoticeSetsOrdered Tests.playing ∧ Safety.NoticesRouted Tests.playing := by
  refine ⟨fun p => ?_, fun p => ?_⟩
  · unfold Safety.NoticesOrdered
    cases p <;> decide
  · cases p <;> decide
theorem witness_standing_entries : Safety.EntriesSound
    (Tests.squadWith .bowling (some 1) 1 [{ Tests.bowler .active with sheet := Tests.sheetOf [[Tests.ball fullRack 1#10 false]] }] State.reset) := by
  intro q
  unfold Safety.EntrySound
  cases q <;> decide +kernel
/-- Two strikes, then a ball that leaves the head pin. -/
def Tests.thirdSheet : List FrameRec :=
  Tests.sheetOf [[Tests.ball fullRack clearDeck false], [Tests.ball fullRack clearDeck false], [Tests.ball fullRack 1#10 false]]
/-- Lane A's bowler after two strikes, between the balls of frame 3, with frame 2 still owed a ball. -/
def Tests.thirdFrame : State :=
  modSup .a (fun u => { u with nextDeck := 1#10, latched := some 1#10 })
    (modSquad .a (fun v => { v with round := 3, ball := 2, order :=
      [{ Tests.bowler .active with pending := [2], sheet := Tests.thirdSheet }] }) Tests.playing)

theorem witness_standing_sheet : ∀ b ∈ (Tests.thirdFrame.squad .a).order, Safety.SheetSound b := by
  intro b hb
  obtain rfl : b = _ := List.mem_singleton.mp hb
  refine ⟨by decide +kernel, fun k h1 h2 => ?_, by decide +kernel, by decide +kernel, fun k => ?_, fun k h1 h2 => ?_,
    fun k h1 h2 => ?_⟩
  · interval_cases k <;> decide +kernel
  · by_cases h : k ≤ 9
    · interval_cases k <;> decide +kernel
    · have : k ≠ 2 := by omega
      simp [h, this]
  · interval_cases k <;> decide +kernel
  · interval_cases k <;> first
      | exact fun h => absurd rfl h
      | exact fun _ => ⟨by decide +kernel, by decide +kernel, fun j h3 h4 => by omega⟩
theorem witness_standing_games : Safety.GamesSound Tests.thirdFrame ∧ Safety.EntriesSound Tests.thirdFrame := by
  refine ⟨⟨⟨fun q => ?_, fun q => ?_, by decide⟩, fun q => ?_, fun l => ?_, fun l => ?_, fun l => ?_, fun l => ?_, fun _ q => ?_,
    fun q => ?_, fun h => ?_⟩, fun q => ?_⟩
  · cases q <;> decide
  · cases q <;> decide
  · cases q
    · refine ⟨by decide, by decide, by decide, by decide, witness_standing_sheet, by decide, by decide +kernel,
        fun _ b hb => ?_, fun _ i b hb _ h => ?_⟩
      · obtain rfl : b = _ := List.mem_singleton.mp hb
        refine ⟨fun k h1 h2 => ?_, fun _ k h1 h2 => ?_⟩
        · change 3 < k at h1
          interval_cases k <;> decide +kernel
        · change k ≤ 2 at h2
          interval_cases k <;> decide +kernel
      · match i, h with
        | 0, _ => exact absurd (show (none : Option Bowler) = some b from hb) nofun
        | 1, h => exact absurd rfl h
        | n + 2, _ => exact absurd (show (none : Option Bowler) = some b from hb) nofun
    · exact ⟨by decide, by decide, by decide, by decide, fun b hb => absurd (show b ∈ [] from hb) nofun, by decide, nofun, nofun, nofun⟩
  · intro _
    cases l <;> decide
  · unfold Safety.DeckFollows
    cases l <;> decide +kernel
  · cases l <;> decide
  · cases l <;> decide
  · cases q <;> decide
  · cases q <;> decide
  · exact absurd h (by decide)
  · intro b hb
    cases q
    · obtain rfl : b = _ := List.mem_singleton.mp hb
      unfold Safety.EntrySound
      decide +kernel
    · exact absurd (show b ∈ [] from hb) nofun
theorem witness_step_goes_on : (Tests.nextOf (step { Tests.playing with pending := [.ballDetection .a] })).isSome = true := by decide

theorem witness_HoldSetChanges :
    (State.reset.lane .a).state = .closed ∧ (Tests.playing.lane .a).state ≠ .closed ∧ (Tests.playing.lane .a).holds.has .desk = false ∧
    ((addHold .a .desk Tests.playing).lane .a).holds.has .desk = true := by decide

/-- Lane A at play with no credit left. -/
def Tests.noCredit : State := modAcct .a (fun a => { a with gameCredit := 0, creditsTaken := 2 }) Tests.playing

theorem witness_ArmingDecision :
    ((Tests.laneA .opened .gated .running).lane .a).state = .opened := by decide
theorem witness_ArmingDecision_credit :
    (Tests.playing.lane .a).state = .playing ∧ (Tests.playing.squad .a).slot ≠ none ∧ (Tests.playing.sup .a).power = .running ∧
    (Tests.playing.lane .a).holds = HoldSet.none ∧ (Tests.playing.acct .a).mode = .game ∧ (Tests.playing.squad .a).round = 1 ∧
    (Tests.playing.squad .a).ball = 1 ∧ (∃ b ∈ (Tests.playing.squad .a).currentBowler, b.charged = false) ∧
    (Tests.playing.acct .a).gameCredit = 2 ∧ (Tests.noCredit.acct .a).gameCredit = 0 := by decide

/-- Lane A's bowler on ball 2 of frame 1, and one strike away from the end of a frame. -/
def Tests.secondBall : State :=
  modSup .a (fun u => { u with nextDeck := 1#10 })
    (modSquad .a (fun v => { v with ball := 2, order := [{ Tests.bowler .active with sheet := Tests.sheetOf [[Tests.ball fullRack 1#10 false]] }] })
      (Tests.playingIn .reading))

theorem witness_BallRecorded :
    (Tests.playing.squadOn .a).slot = some 1 ∧ (bowlerAt (Tests.playing.squadOn .a).order 1).isSome = true ∧
    ballsComplete 1 (frameAt (scoreBall 1 (Tests.ball fullRack 1#10 false) emptySheet []).1 1).balls = false ∧
    ballsComplete 1 (frameAt (scoreBall 1 (Tests.ball fullRack clearDeck false) emptySheet []).1 1).balls = true := by decide +kernel
theorem witness_BonusStep : emptySheet.length = 10 ∧ [8, 9].Nodup ∧ (∀ j ∈ [8, 9], 1 ≤ j ∧ j ≤ 10 ∧ j ≠ 10) := by decide
theorem witness_RebuildIsRecording :
    (∀ j, 10 < j → j ≤ 10 → (frameAt emptySheet j).balls = []) ∧
    Tests.ball fullRack 1#10 false = makeEntry 1 ((frameAt emptySheet 1).balls.length + 1) fullRack 1#10 false .sensed false :=
  ⟨fun j h1 h2 => absurd h2 (by omega), by decide⟩
theorem witness_RebuiltSheetScoresBowling : Safety.SheetLegal
    (Tests.sheetOf [[Tests.ball fullRack clearDeck false], [Tests.ball fullRack 1#10 true, Tests.ball fullRack clearDeck false],
      [Tests.ball fullRack 1#10 false]]) := by
  refine ⟨by decide +kernel, fun k h1 h2 => ?_, 3, by decide, by decide, fun k h1 h2 => ?_, fun k h1 h2 => ?_⟩
  · unfold Safety.FrameLegal Safety.EntrySound
    interval_cases k <;> decide +kernel
  · interval_cases k <;> decide +kernel
  · interval_cases k <;> decide +kernel
theorem witness_ScoreMarks : ∀ e ∈ [Tests.ball fullRack clearDeck false, Tests.ball fullRack 1#10 true], e.count ≤ 10 := by decide

/-- A squad whose only bowler has completed frame `k` of an otherwise empty sheet. -/
def Tests.roundOver (k : Nat) : State :=
  Tests.squadWith .bowling (some 1) k
    [{ Tests.bowler .active with sheet := setFrame emptySheet k { unbowledFrame with balls :=
      [Tests.ball fullRack clearDeck false, Tests.ball fullRack clearDeck false, Tests.ball fullRack clearDeck false] } }] Tests.playing

theorem witness_RotationInSingle :
    ((Tests.playing.squad .a).order[0]?.any fun b => b.status == .active && !frameComplete b.sheet 1) = true ∧
    (∀ b ∈ ((Tests.roundOver 9).squad .a).order, ¬(b.status = .active ∧ frameComplete b.sheet 9 = false)) ∧
    (∀ b ∈ ((Tests.roundOver 10).squad .a).order, ¬(b.status = .active ∧ frameComplete b.sheet 10 = false)) ∧
    (Tests.roundOver 10).pairMode = .single := by decide +kernel
theorem witness_GameEnd :
    ((Tests.playing.squad .a).game = 1 ∧ (Tests.playing.squad .a).games = .count 1) ∧
    ((Tests.playing.lane .a).state = .playing ∧ (Tests.playing.squad .a).current = .a ∧
      (modSquad .a (fun v => { v with games := .continuous }) Tests.playing |>.squad .a).games = .continuous) := by decide

/-- The pair in CROSS, squad B in a squad state at a round. -/
def Tests.cross (k : Nat) (o : SquadState) (ko : Nat) : State :=
  modSquad .b (fun v => { v with state := o, round := ko }) { Tests.roundOver k with pairMode := .cross }

theorem witness_RoundEndInCross :
    ((Tests.cross 9 .bowling 9).pairMode = .cross ∧ ((Tests.cross 9 .bowling 9).squad .a).round < 10 ∧
      ¬((Tests.cross 9 .bowling 9).squad .b).state = .swapWait) ∧
    (((Tests.cross 9 .swapWait 9).squad .b).state = .swapWait ∧ ((Tests.cross 9 .swapWait 9).squad .b).round = 9) ∧
    ((Tests.cross 10 .gameDone 10).squad .b).state = .gameDone ∧ 10 ≤ ((Tests.cross 10 .gameDone 10).squad .a).round := by
  decide +kernel

theorem witness_RoundEndInCross_home :
    (∀ q, (Tests.playing.squad q).home = q) ∧ ¬(∀ n, (Tests.playing.squad .a).games = .count n → (Tests.playing.squad .a).game < n) ∧
    (∀ n, (modSquad .a (fun v => { v with games := .continuous }) Tests.playing |>.squad .a).games = .count n → 1 < n) := by
  refine ⟨fun q => ?_, fun h => absurd (h 1 rfl) (by decide), fun n h => nomatch h⟩
  cases q <;> rfl
theorem witness_LaneOpening : Safety.Taken (Tests.env .desk 6) .desk 6 State.reset ∧ (State.reset.lane .a).state = .closed ∧
    Safety.Taken (Tests.env .desk 6) .desk 6 Tests.playing ∧ (Tests.playing.lane .a).state ≠ .closed := by
  unfold Safety.Taken; decide
theorem witness_LaneClosing : Safety.Taken (Tests.env .desk 1) .desk 1 State.reset ∧ (State.reset.lane .a).state = .closed ∧
    Safety.Taken (Tests.env .desk 1) .desk 1 Tests.playing ∧ (Tests.playing.lane .a).state = .playing ∧ Tests.playing.pairMode = .single ∧
    Safety.Taken (Tests.env .desk 1) .desk 1 (Tests.cross 9 .bowling 9) ∧ ((Tests.cross 9 .bowling 9).lane .a).state = .playing := by
  unfold Safety.Taken; decide +kernel

/-- Lane A at play in TIME mode with some minutes and a phase. -/
def Tests.timed (minutes phase : Nat) : State :=
  modAcct .a (fun a => { a with mode := .time, gameCredit := 0, creditsLoaded := 0, timeCredit := minutes, minutesLoaded := minutes, phase := phase })
    Tests.playing

theorem witness_PauseResumeAndCredit :
    Safety.Taken (Tests.env .desk 1) .desk 1 Tests.playing ∧ Safety.Taken (Tests.env .console 1) .console 1 Tests.playing ∧
    Safety.Taken (Tests.env .desk 1) .desk 1 State.reset ∧
    Safety.Taken (Tests.env .desk 3) .desk 3 Tests.playing ∧ (Tests.playing.acct .a).mode = .game ∧
    Safety.Taken (Tests.env .desk 3) .desk 3 (Tests.timed 720 0) ∧ ((Tests.timed 720 0).acct .a).mode = .time ∧
    Safety.Taken (Tests.env .desk 3) .desk 3 State.reset := by unfold Safety.Taken; decide
theorem witness_MeterSecond :
    (coreOn Tests.playing = true ∧ (Tests.playing.acct .a).mode ≠ .time) ∧
    (meterRunning ((Tests.timed 2 58).lane .a) = true ∧ ((Tests.timed 2 58).acct .a).phase + 1 < 60) ∧
    (meterRunning ((Tests.timed 2 59).lane .a) = true ∧ ((Tests.timed 2 59).acct .a).timeCredit - 1 ≠ 0) ∧
    (meterRunning ((Tests.timed 1 59).lane .a) = true ∧ ((Tests.timed 1 59).acct .a).timeCredit - 1 = 0) := by decide
theorem witness_SessionCharge :
    ({ Account.cleared with gameCharges := 9999999 }).gameCharges + timePart { Account.cleared with gameCharges := 9999999 } = 9999999 ∧
    9999999 < ({ Account.cleared with gameCharges := 9999999, centMinutes := 30 }).gameCharges +
      timePart { Account.cleared with gameCharges := 9999999, centMinutes := 30 } := by decide

/-- Both lanes OPEN with one ACTIVE bowler in each squad. -/
def Tests.bothOpen (m : PairMode) : State :=
  modSquad .b (fun v => { v with order := [Tests.bowler .active] })
    (modLane .b (fun r => { r with state := .opened })
      { Tests.squadWith .forming none 1 [Tests.bowler .active] (Tests.laneA .opened .gated .running) with pairMode := m })

theorem witness_GameStart :
    Safety.Taken (Tests.env .console 2) .console 2 (Tests.bothOpen .single) ∧ ((Tests.bothOpen .single).lane .a).state = .opened ∧
    (((Tests.bothOpen .single).squad .a).order.any fun b => b.status == .active) = true ∧
    Safety.Taken (Tests.env .console 2) .console 2 (Tests.bothOpen .cross) ∧ ((Tests.bothOpen .cross).lane .b).state = .opened ∧
    (9 : Nat) < (10#8 : Byte).toNat ∧ (9#8 : Byte).toNat ≤ 9 ∧
    Safety.Taken (Tests.env .console 2) .console 2 State.reset ∧ (State.reset.lane .a).state ≠ .opened := by
  unfold Safety.Taken; decide
theorem witness_FoulsAndReadiness :
    Safety.Taken (Tests.env .console 1) .console 1 Tests.playing ∧ (Tests.playing.sup .a).power ≠ .off ∧
    Safety.Taken (Tests.env .console 1) .console 1 (Tests.laneA .opened .gated .off) ∧
    Safety.Taken (Tests.env .console 2) .console 2 Tests.playing ∧
    (Tests.playing.lane .a).foulDetect = true ∧ (Tests.playing.sup .a).cycle = .armed ∧
    ((Tests.playingIn .ballIn).sup .a).cycle = .ballIn ∧ ((Tests.playingIn .gated).sup .a).cycle = .gated ∧
    coreOn (Tests.playingIn .ballIn) = true := by unfold Safety.Taken; decide

/-- Lane A at play with two ACTIVE bowlers, the first current without a ball in hand. -/
def Tests.twoBowlers : State := Tests.squadWith .bowling (some 1) 1 [Tests.bowler .active, Tests.bowler .active] Tests.playing

theorem witness_RosterEntries :
    Safety.Taken (Tests.env .console 16) .console 16 Tests.playing ∧ (Tests.playing.lane (Tests.playing.squad .a).home).state = .playing ∧
    (Tests.playing.squad .a).order.length < 8 ∧
    8 ≤ ((Tests.squadWith .bowling (some 1) 1 (List.replicate 8 (Tests.bowler .active)) Tests.playing).squad .a).order.length ∧
    Safety.Taken (Tests.env .console 4) .console 4 Tests.playing ∧ Safety.Taken (Tests.env .console 3) .console 3 Tests.playing ∧
    bowlerAt (Tests.playing.squad .a).order 2 = none ∧ (bowlerAt (Tests.playing.squad .a).order 1).isSome = true ∧
    ((Tests.playing.sup .a).cycle ≠ .ballIn ∧ ((Tests.playingIn .entry).sup .a).cycle = .entry) ∧
    (250#8 : Byte).toNat ≤ 250 ∧ ¬(251#8 : Byte).toNat ≤ 250 ∧
    Safety.Taken (Tests.env .console 16) .console 16 State.reset := by unfold Safety.Taken; decide
theorem witness_RosterRemovalsAndMoves :
    (Safety.Taken (Tests.env .console 2) .console 2 Tests.twoBowlers ∧ activeCount (Tests.twoBowlers.squad .a).order = 2) ∧
    (Safety.Taken (Tests.env .console 2) .console 2 Tests.playing ∧ activeCount (Tests.playing.squad .a).order = 1) ∧
    Safety.Taken (Tests.env .console 3) .console 3 Tests.twoBowlers ∧ Safety.Taken (Tests.env .console 4) .console 4 Tests.twoBowlers ∧
    bowlerAt (Tests.twoBowlers.squad .a).order 3 = none ∧ ((Tests.twoBowlers.squad .a).slot = some 1) ∧
    ((modSup .a (fun u => { u with cycle := .ballIn }) Tests.twoBowlers).sup .a).cycle = .ballIn ∧
    (300#16).toNat ≤ 300 ∧ 300 < (301#16).toNat := by unfold Safety.Taken; decide

/-- A correction of ball 1 of frame 1 of slot 1, in form LEAVE. -/
def Tests.fix (expected : Byte) (leave : BitVec 16) : CorrectFields :=
  { slot := 1, frame := 1, ball := 1, expectedCount := expected, expectedFoul := false, form := .val .leave, newLeave := some leave,
    newCount := none, newFoul := false }

/-- Lane A's bowler before ball 2 of frame 1, the supervisor GATED. -/
def Tests.betweenBalls : State := modSup .a (fun u => { u with cycle := .gated }) Tests.secondBall

theorem witness_BallCorrection :
    Safety.Taken (Tests.env .desk 11) .desk 11 Tests.betweenBalls ∧
    (Tests.betweenBalls.lane (Tests.betweenBalls.squad .a).current).state = .playing ∧
    (correctFieldsOk (Tests.fix 9 0x3FF#16) = true ∧ correctFieldsOk { Tests.fix 9 0 with ball := 3 } = false) ∧
    correctionOf (Tests.fix 9 0x3FF#16) = some (.leave fullRack) ∧
    ((bowlerAt (Tests.betweenBalls.squad .a).order 1).map fun b => ((frameAt b.sheet 1).balls.map (·.count))) = some [9] ∧
    Safety.Taken (Tests.env .console 11) .console 11 State.reset := by
  unfold Safety.Taken; decide +kernel
theorem witness_BallCorrection_content :
    (∃ x ∈ [Tests.ball fullRack 1#10 false], correctedLeave x (.leave 0x003#10) false = some 0x003#10 ∧
      correctedBalls 1 1 [x] x 0x003#10 false ≠ none ∧ shapeKept false 1 [x] [Tests.ball fullRack 0x003#10 false] = true) ∧
    shapeKept false 1 [Tests.ball fullRack clearDeck false] [Tests.ball fullRack 1#10 false] = false ∧
    correctedLeave (Tests.ball 0x003#10 1#10 false) (.leave 0x004#10) false = none ∧
    correctedBalls 1 1 [Tests.ball fullRack 0x007#10 false, Tests.ball 0x007#10 0x004#10 false] (Tests.ball fullRack 0x007#10 false) 0x003#10 false
      = none := by decide
theorem witness_CorrectionRules : leaveWithin 0x001#10 fullRack = true ∧ 10 ≤ leaveSize fullRack ∧
    (10 : Nat) ≤ leaveSize fullRack - leaveSize clearDeck ∧
    (∀ e ∈ [Tests.ball fullRack 1#10 false], bowlerAt [{ Tests.bowler .active with sheet := Tests.sheetOf [[e]] }] 1 ≠ none ∧
      (frameAt (Tests.sheetOf [[e]]) 1).balls[0]? = some e ∧ (marksOf 1 [e])[0]? = some 0x39#8) := by decide +kernel
theorem witness_BallResults :
    (coreOn (Tests.playingIn .reading) = true ∧ ((Tests.playingIn .reading).sup .a).cycle = .reading) ∧
    (Tests.playing.sup .a).cycle ≠ .reading ∧
    Safety.Taken (Tests.env .console 4) .console 4 (Tests.playingIn .entry) ∧ ((Tests.playingIn .entry).sup .a).cycle = .entry ∧
    1024 ≤ (1024#16).toNat ∧ (1023#16).toNat < 1024 := by unfold Safety.Taken; decide
/-- R58: a delivery that ends with the machine not RUNNING, after a SET_MACHINE OFF and ON, ends in RECOVER; one that ends with
it RUNNING issues its cycle. -/
def Tests.served (p : Power) : State :=
  modSup .a (fun u => { u with power := p }) (modLane .a (fun r => { r with holds := { r.holds with service := true } }) Tests.secondBall)
theorem test_delivery_after_service :
    ((Tests.after (.deck .a clearDeck) (Tests.served .warming)).sup .a).cycle = .recover ∧
    ((Tests.after (.deck .a clearDeck) (Tests.served .running)).sup .a).cycle = .cycling := by decide +kernel
theorem witness_DeliveryEvents :
    coreOn Tests.playing = true ∧ (Tests.playing.sup .a).cycle = .armed ∧ ((Tests.playingIn .gated).sup .a).cycle ≠ .armed ∧
    ((Tests.playingIn .ballIn).sup .a).cycle = .ballIn ∧ ((Tests.playingIn .reading).sup .a).cycle = .reading ∧
    ((some ({ foul := false, attempt := 1, pendingFault := none } : Delivery)).any fun d => d.attempt == 1) = true ∧
    (((Tests.playingIn .reading).sup .a).delivery.any fun d => d.attempt == 1) = false := by decide
theorem witness_PairModeRequests :
    Safety.Taken (Tests.env .desk 1) .desk 1 (Tests.bothOpen .single) ∧ (Tests.bothOpen .single).pairMode = .single ∧
    ((Tests.bothOpen .single).acct .b).mode = .game ∧
    Safety.Taken (Tests.env .console 1) .console 1 (Tests.bothOpen .cross) ∧ ((Tests.bothOpen .cross).squad .a).state = .forming ∧
    Safety.Taken (Tests.env .desk 1) .desk 1 (Tests.cross 9 .bowling 9) ∧ ((Tests.cross 9 .bowling 9).squad .a).state = .bowling := by
  unfold Safety.Taken; decide +kernel
theorem witness_EntryInEffect :
    State.reset.rates.working.length = 16 ∧
    rateMatches { present := true, weekdays := none, start := 0, stop := 0, perGame := 0, perHour := 0 } 7 1439 = true := by decide
theorem witness_RateWrites :
    Safety.Taken (Tests.env .desk 13) .desk 13 State.reset ∧ Safety.Taken (Tests.env .desk 1) .desk 1 State.reset ∧
    (15#8 : Byte).toNat ≤ 15 ∧ 15 < (16#8 : Byte).toNat ∧ coreOn State.reset = true := by unfold Safety.Taken; decide

theorem witness_RateStoring :
    Safety.Taken (Tests.env .desk 13) .desk 13 State.reset ∧ (State.reset.rates.store.getD 15 .blank).writes < 32 ∧
    32 ≤ ({ StoredEntry.blank with writes := 32 }).writes ∧ Tests.storing.rates.programming = some { entry := 3, value := .factory } ∧
    (RateEntry.factory.present = false → RateEntry.factory = RateEntry.absent) ∧ 3 < Tests.storing.rates.store.length ∧ coreOn Tests.storing = true ∧ State.reset.rates.programming = none := by
  unfold Safety.Taken; decide
theorem witness_ClockCommands :
    Safety.Taken (Tests.env .desk 4) .desk 4 State.reset ∧ State.reset.clock.crystal = true ∧
    clockFieldsOk 7 23 59 59 = true ∧ clockFieldsOk 0 0 0 0 = false ∧ clockFieldsOk 1 24 0 0 = false ∧
    (Tests.after .crystalStop State.reset).clock.crystal = false := by unfold Safety.Taken; decide

/-- Lane A with a cycle under way. -/
def Tests.cycling (p : Purpose) (k : CycleKind) (st : LaneState) : State :=
  modLane .a (fun r => { r with state := st }) (issueCycle .a p k none Tests.playing)

theorem witness_FaultsAndExpiries :
    coreOn Tests.playing = true ∧ ((Tests.playingIn .entry).sup .a).cycle = .entry ∧ (State.reset.sup .a).cycle = .parked ∧
    (((Tests.cycling .delivery .reset .playing).sup .a).cycle = .cycling ∧
      ((Tests.cycling .delivery .reset .playing).sup .a).cycleRec.any (fun c => c.attempt == 1) = true) ∧
    ((Tests.after (.cycleWatchdogExpiry .a) (Tests.cycling .delivery .reset .playing)).sup .a).cycleRec.any (fun c => c.attempt != 1) = true ∧
    ((Tests.laneA .opened .gated .warming).sup .a).power = .warming ∧
    idleRuns ((settle Tests.playing Tests.playing).sup .a) = true ∧
    ((settle Tests.playing Tests.playing).sup .a).idleTimer ≠ none := by decide +kernel
theorem witness_MachineMessages :
    coreOn (Tests.laneA .opened .gated .warming) = true ∧ ((Tests.laneA .opened .gated .warming).sup .a).power = .warming ∧
    (Tests.playing.sup .a).power ≠ .warming ∧
    ((Tests.cycling .delivery .respot .playing).sup .a).cycleRec.any (fun c => !c.latched) = true ∧
    ((Tests.after (.respotPoint .a) (Tests.cycling .close .reset .closing)).sup .a).cycleRec.any (fun c => c.latched) = true ∧
    ((Tests.after (.respotPoint .a) (Tests.cycling .close .reset .closing)).sup .a).latched = some fullRack ∧
    ((Tests.cycling .close .reset .closing).lane .a).state = .closing ∧
    ((Tests.cycling .recovery .reset .playing).sup .a).cycle = .recover ∧
    ((Tests.cycling .test .reset .closed).lane .a).state = .closed ∧
    ((addHold .a .machine (Tests.cycling .test .reset .opened)).lane .a).holds.machine = true := by decide
theorem witness_MachinePower :
    (Safety.Taken (Tests.env .service 1) .service 1 (Tests.laneA .playing .fault .running) ∧
      ((Tests.laneA .playing .fault .running).sup .a).cycle = .fault) ∧
    (Safety.Taken (Tests.env .service 2) .service 2 (Tests.laneA .playing .gated .off) ∧
      ((Tests.laneA .playing .gated .off).sup .a).power = .off) ∧
    (Safety.Taken (Tests.env .service 2) .service 2 Tests.playing ∧ (Tests.playing.sup .a).power ≠ .off) := by
  unfold Safety.Taken; decide
theorem witness_ServiceSettings :
    Safety.Taken (Tests.env .service 5) .service 5 State.reset ∧ Safety.Taken (Tests.env .service 1) .service 1 State.reset ∧
    ((State.reset.lane .a).state = .closed ∧ (State.reset.sup .a).cycle = .parked ∧ (State.reset.sup .a).testMark = false ∧
      (State.reset.sup .a).power ≠ .off) ∧
    (Tests.playing.lane .a).state ≠ .closed := by unfold Safety.Taken; decide
theorem witness_ReturnEvents :
    coreOn State.reset = true ∧ State.reset.ret.state = .idle ∧ (Tests.returnIn .jammed 9 State.reset).ret.queue.length = 9 ∧
    (Tests.returnIn .carrying 10 State.reset).ret.queue.length = 10 ∧ (Tests.returnIn .fault 10 State.reset).ret.state = .fault ∧
    (Tests.returnIn .carrying 0 State.reset).ret.queue = [] ∧ (Tests.returnIn .carrying 1 State.reset).ret.queue ≠ [] ∧
    (startAttempt 3 (Tests.returnIn .carrying 1 State.reset)).ret.phase ≠ some .forward ∧
    (takeReverseEnd (startAttempt 2 (Tests.returnIn .carrying 1 State.reset))).ret.phase = some .forward ∧
    (takeReverseEnd (startAttempt 3 (Tests.returnIn .carrying 1 State.reset))).ret.attempt = 3 := by decide
theorem witness_ReturnRequests :
    Safety.Taken (Tests.env .service 0) .service 0 State.reset ∧ State.reset.ret.state ≠ .off ∧
    (Tests.returnIn .off 0 State.reset).ret.state = .off ∧ Safety.Taken (Tests.env .service 2) .service 2 State.reset ∧
    (Tests.returnIn .fault 10 State.reset).ret.state = .fault := by unfold Safety.Taken; decide
theorem witness_RecordReads_layouts : (bowlerAt (Tests.thirdFrame.squadOn .a).order 1).isSome = true ∧
    ((bowlerAt (Tests.thirdFrame.squadOn .a).order 1).all fun b => b.sheet.length == 10) = true ∧
    bowlerAt (Tests.thirdFrame.squadOn .a).order 2 = none ∧ State.reset.rates.working[15]? = some .absent ∧
    State.reset.rates.store[15]? = some .blank ∧ State.reset.desk.notices[1]? = some { kind := .power, scope := .pair } := by
  decide +kernel
theorem witness_RecordReads :
    Safety.Taken (Tests.env .console 1) .console 1 State.reset ∧ Safety.Taken (Tests.env .desk 1) .desk 1 State.reset ∧
    (State.reset.lane .a).summary = none ∧ ((freezeSession .a Tests.playing).lane .a).summary ≠ none ∧
    Safety.Taken (Tests.env .desk 2) .desk 2 State.reset ∧ (8#8 : Byte).toNat ≤ 8 ∧ 8 < (9#8 : Byte).toNat ∧
    Safety.Taken (Tests.env .desk 0) .desk 0 State.reset ∧ Safety.Taken (Tests.env .service 1) .service 1 State.reset ∧
    Tests.storing.rates.programming ≠ none ∧ State.reset.rates.store.length = 16 := by unfold Safety.Taken; decide +kernel
theorem witness_StartLeaves : (State.reset.lane .a).state = .closed ∧ (Tests.playing.lane .a).state = .playing ∧
    ((Tests.laneA .closing .cycling .running).lane .a).state = .closing ∧
    ((addHold .a .machine (Tests.laneA .closing .cycling .running)).lane .a).holds.machine = true ∧
    ((Tests.laneA .closing .recover .off).sup .a).power = .off := by decide
theorem witness_PairReset :
    Safety.Taken (Tests.env .service 0) .service 0 State.reset ∧ (State.reset.lane .b).state = .closed ∧
    (∀ l ∈ [State.reset.sup .a, State.reset.sup .b], l.cycle = .parked ∧ l.testMark = false) ∧
    Safety.Taken (Tests.env .service 0) .service 0 Tests.storing ∧ Tests.storing.rates.programming ≠ none ∧
    Safety.Taken (Tests.env .service 0) .service 0 Tests.playing := by unfold Safety.Taken; decide
theorem witness_NoticeRequests :
    Safety.Taken (Tests.env .desk 3) .desk 3 State.reset ∧ Safety.Taken (Tests.env .service 65) .service 65 State.reset ∧
    (19#8 : Byte).toNat ≤ 19 ∧ (2#8 : Byte).toNat ≤ 2 ∧ Safety.Taken (Tests.env .console 5) .console 5 State.reset ∧
    (0xFFFFF#32).toNat < 2 ^ 20 ∧ 2 ^ 20 ≤ (0x100000#32).toNat := by unfold Safety.Taken; decide
/-- The desk port in PULSE mode with a pulse under way. -/
def Tests.pulsing : State := { State.reset with desk := { State.reset.desk with mode := .pulse, pulse := true } }
theorem witness_NoticeRequests_attention :
    (coreOn State.reset = true ∧ (State.reset.port .desk).mode = .level) ∧
    (coreOn Tests.pulsing = true ∧ (Tests.pulsing.port .desk).mode = .pulse ∧ attentionLine Tests.pulsing .desk = true) ∧
    coreOn (Tests.after .mainFailure State.reset) = false := by decide
theorem witness_PortEvents :
    coreOn (Tests.console .replyReady) = true ∧ (Tests.console .replyReady).console.phase = .replyReady ∧
    (queueReply .desk { code := 1, tag := 1, status := .ok, body := [], own := true } Tests.busyDesk).desk.outgoing ≠ [] ∧
    (takeTurnaround .desk (queueReply .desk { code := 1, tag := 1, status := .ok, body := [], own := true } Tests.busyDesk)).desk.transmitting
      = true := by decide

/-! ### Small steps of each family -/

/-- R178: the BUSY reply to a later request goes before the earlier request's own reply, but not before one being sent. -/
theorem test_busy_first :
    let own : Reply := { code := 1, tag := 1, status := .ok, body := [], own := true }
    let queued := queueReply .desk own Tests.busyDesk
    (Tests.after (.clockRead (Tests.env .desk 0)) queued).desk.outgoing.map (·.status) = [.busy, .ok] ∧
    (Tests.after (.clockRead (Tests.env .desk 0)) (takeTurnaround .desk queued)).desk.outgoing.map (·.status) = [.ok, .busy] := by
  decide
/-- R175: a reply carries the pair's own address. -/
theorem test_reply_address : (sendingFrame (takeTurnaround .desk (queueReply .desk
    { code := 1, tag := 9, status := .range, body := [5#8], own := true } Tests.busyDesk)) .desk) =
      some { address := 64#8, code := 1#8, tag := 9#8, body := [5#8] } := by decide
/-- R178: a copy selector that names neither copy is RANGE, after LENGTH. -/
theorem test_stray_selector :
    (Tests.after (.rateReadWorking ⟨Tests.env .service 1, some 2#8⟩) State.reset).service.outgoing.map (·.status) = [.range] ∧
    (Tests.after (.rateReadWorking ⟨Tests.env .service 2, some 2#8⟩) State.reset).service.outgoing.map (·.status) = [.length] := by
  decide
/-- R111: the transit test does not expire at 20 s of age, and expires above it. -/
theorem test_transit_age :
    (Tests.after .transitExpiry { Tests.twoBalls with tick := 2200 }).ret.state = .carrying ∧
    (Tests.after .transitExpiry { Tests.twoBalls with tick := 2201 }).ret.state = .clearing := by decide
/-- R54: a test cycle that latched leaves a full rack latched in its CLOSED lane. -/
theorem test_test_cycle_latch :
    let t := Tests.after (.cycleDone .a) (Tests.after (.respotPoint .a) (Tests.cycling .test .reset .closed))
    (t.sup .a).latched = some fullRack ∧ (t.sup .a).cycle = .parked ∧ (t.sup .a).power = .standby := by decide


/-- R2, R122: OPEN_LANE answers LIMITED over 99 credits, and wakes the machine. -/
theorem test_openLane : ((Tests.after (.openLane (Tests.env .desk 6) (.val .a) (.val .game) 100#16 none) State.reset).acct .a).gameCredit = 99 ∧
    ((Tests.after (.openLane (Tests.env .desk 6) (.val .a) (.val .game) 100#16 none) State.reset).sup .a).power = .warming := by decide
/-- R5, R158: a close of a lane that is ARMED parks at once. -/
theorem test_closeLane : ((Tests.after (.closeLane (Tests.env .desk 1) (.val .a)) Tests.playing).lane .a).state = .closed ∧
    ((Tests.after (.closeLane (Tests.env .desk 1) (.val .a)) Tests.playing).sup .a).cycle = .parked := by decide
/-- R7, R9: a pause disarms. -/
theorem test_pauseLane : ((Tests.after (.pauseLane (Tests.env .desk 1) (.val .a)) Tests.playing).sup .a).cycle = .gated := by decide
/-- R123: ADD_CREDIT to 99. -/
theorem test_addCredit : ((Tests.after (.addCredit (Tests.env .desk 3) (.val .a) 200#16) Tests.playing).acct .a).gameCredit = 99 := by decide
/-- R130: the last second of the last minute leads to GRACE. -/
theorem test_runningSecond : ((Tests.after (.runningSecond .a) (Tests.timed 1 59)).lane .a).state = .grace := by decide
/-- R3, R51, R124: the first bowler's credit is taken when the lane arms. -/
theorem test_startGame : ((Tests.after (.startGame (Tests.env .console 2) (.val .a) 2#8)
    (modSup .a (fun u => { u with latched := some fullRack }) (modAcct .a (fun a => { a with gameCredit := 1, creditsLoaded := 1 }) (Tests.bothOpen .single)))).acct .a).creditsTaken = 1 := by
  decide
/-- R56, R55: a detection in ARMED. -/
theorem test_detection : ((Tests.after (.ballDetection .a) Tests.playing).sup .a).cycle = .ballIn := by decide
/-- R58: a ball that leaves pin 1 is followed by a RESPOT cycle. -/
theorem test_deck : ((Tests.after (.deck .a 1#10) (Tests.playingIn .reading)).sup .a).cycleRec.map (·.kind) = some .respot := by
  decide +kernel
/-- R59: the second deck limit leads to ENTRY. -/
theorem test_deckLimit : ((Tests.after (.deckLimitExpiry .a) (Tests.playingIn .reading)).lane .a).holds.entry = true := by decide
/-- R77, R87: the recorded 9 becomes an 8 with pins 1 and 2 standing, and the Next Deck follows. -/
theorem test_correct : ((Tests.after (.correctBall (Tests.env .desk 11) (.val .a) (Tests.fix 9 0x003#16)) Tests.betweenBalls).sup .a).nextDeck = 0x003#10 := by
  decide +kernel
/-- R68: a fault at play leads to FAULT under the MACHINE hold. -/
theorem test_machineFault : ((Tests.after (.machineFault .a 5#8) Tests.playing).sup .a).cycle = .fault ∧
    ((Tests.after (.machineFault .a 5#8) Tests.playing).lane .a).holds.machine = true := by decide
/-- R108, R115: the eleventh ball is the sensor fault. -/
theorem test_pitExit : (Tests.after (.pitExit .b) (Tests.returnIn .jammed 10 State.reset)).ret.sensorFault = true := by decide
/-- R143: a rate entry written. -/
theorem test_rateSet : (workingEntry (Tests.after (.rateSet (Tests.env .desk 13) 2#8
    { present := true, weekdays := none, start := 0, stop := 0, perGame := 450, perHour := 0 }) State.reset) 2).perGame = 450 := by decide
/-- R149: the key released during a programming leaves the entry COMPROMISED. -/
theorem test_keyRelease : (storedEntry (Tests.after .keyRelease Tests.storing) 3).state = .compromised := by decide
/-- R156: SET_MACHINE OFF gates an ARMED lane under SERVICE. -/
theorem test_setMachineOff : ((Tests.after (.setMachineOff (Tests.env .service 2) (.val .a)) Tests.playing).lane .a).holds.service = true := by
  decide
/-- R168, R169, R22: main back after a failure holds a PLAYING lane with POWER. -/
theorem test_mainReturn : ((Tests.after .mainReturn (Tests.after .mainFailure Tests.playing)).lane .a).holds.power = true := by decide
/-- R173: RESET_PAIR leaves both sheet serials at 0. -/
theorem test_resetPair : ((Tests.after (.resetPair (Tests.env .service 0)) (modLane .a (fun r => { r with serial := 9 }) State.reset)).lane .a).serial = 0 := by
  decide
/-- R181: the acknowledged notice leaves the set. -/
theorem test_ackNotices : (Tests.after (.ackNotices (Tests.env .desk 3) [{ kind := 18#8, scope := 2#8 }]) State.reset).desk.notices =
    [{ kind := .clock, scope := .pair }] := by decide
/-- R178: an unknown code is answered DENIED. -/
theorem test_unknown : (Tests.after (.unknownRequestCode (Tests.env .desk 0) 99#8) State.reset).desk.outgoing.map (·.status) = [.denied] := by
  decide
end

namespace Sys2Proof.Machine

/-! ### Equations of the setters and rewriters -/

@[simp] theorem Pair.set_set {α : Type} (p : Pair α) (k : Side) (v w : α) : (p.set k v).set k w = p.set k w := by
  cases k <;> rfl

@[simp] theorem Pair.set_get {α : Type} (p : Pair α) (k : Side) : p.set k (p.get k) = p := by cases k <;> rfl

@[simp] theorem State.setLane_setLane (s : State) (l : Lane) (r r' : LaneRec) :
    (s.setLane l r).setLane l r' = s.setLane l r' := by simp [State.setLane]

@[simp] theorem State.setLane_self (s : State) (l : Lane) : s.setLane l (s.lane l) = s := by
  simp [State.setLane, State.lane]

@[simp] theorem State.setSquad_setSquad (s : State) (q : SquadId) (v w : Squad) :
    (s.setSquad q v).setSquad q w = s.setSquad q w := by simp [State.setSquad]

@[simp] theorem State.setSquad_self (s : State) (q : SquadId) : s.setSquad q (s.squad q) = s := by
  simp [State.setSquad, State.squad]

/-- Writing a squad and writing a lane commute; squads are written last. -/
@[simp] theorem State.setLane_setSquad (s : State) (q : SquadId) (v : Squad) (l : Lane) (r : LaneRec) :
    (s.setSquad q v).setLane l r = (s.setLane l r).setSquad q v := rfl

@[simp] theorem State.setLane_sup_same (s : State) (l : Lane) (r : LaneRec) : (s.setLane l r).sup l = r.sup := by
  simp [State.sup]

@[simp] theorem State.setSquad_sup (s : State) (q : SquadId) (v : Squad) (l : Lane) :
    (s.setSquad q v).sup l = s.sup l := rfl

theorem State.lane_sup (s : State) (l : Lane) : (s.lane l).sup = s.sup l := rfl

theorem State.lane_acct (s : State) (l : Lane) : (s.lane l).acct = s.acct l := rfl

theorem modLane_eq (l : Lane) (f : LaneRec → LaneRec) (s : State) : modLane l f s = s.setLane l (f (s.lane l)) := rfl

theorem modSup_eq (l : Lane) (f : Supervisor → Supervisor) (s : State) :
    modSup l f s = s.setLane l { s.lane l with sup := f (s.sup l) } := rfl

theorem modSquad_eq (q : SquadId) (f : Squad → Squad) (s : State) : modSquad q f s = s.setSquad q (f (s.squad q)) := rfl

/-! ### The shared operations on one lane, as one write each -/

/-- A cycle issued (R62). -/
theorem issueCycle_eq (l : Lane) (p : Purpose) (k : CycleKind) (x : Option Leave) (s : State) :
    issueCycle l p k x s = s.setLane l { s.lane l with sup := { s.sup l with
      cycle := if p = .recovery then .recover else .cycling
      foulPending := false
      cycleRec := some { purpose := p, kind := k, picked := x, attempt := 1, latched := false }
      watchdogTimer := some { startedAt := s.tick, length := 100 * (s.sup l).timing.watchdog }
      link := (s.sup l).link ++ [.cycle k] } } := by
  simp [issueCycle, startWatchdog, sendMessage, modSup_eq, startTimer]

/-- A wake (R154). -/
theorem wake_eq (l : Lane) (s : State) :
    wake l s = if (s.sup l).power = .standby then
        s.setLane l { s.lane l with sup := { s.sup l with
          power := .warming
          warmUpTimer := some { startedAt := s.tick, length := 100 * (s.sup l).timing.warmUp }
          link := (s.sup l).link ++ [.powerOn] } }
      else s := by
  unfold wake
  split
  · simp [sendMessage, modSup_eq, startTimer]
  · rfl

/-- Entry into RECOVER, by the machine power state (R71). -/
theorem enterRecover_eq (l : Lane) (s : State) :
    enterRecover l s =
      match (s.sup l).power with
      | .running => issueCycle l .recovery .reset none
          (s.setLane l { s.lane l with sup := { s.sup l with cycle := .recover, foulPending := false } })
      | .standby => wake l
          (s.setLane l { s.lane l with sup := { s.sup l with cycle := .recover, foulPending := false } })
      | .warming => s.setLane l { s.lane l with sup := { s.sup l with cycle := .recover, foulPending := false } }
      | .off => if (s.lane l).state = .closing then park l false
            (s.setLane l { s.lane l with sup := { s.sup l with cycle := .recover, foulPending := false } })
          else s.setLane l { s.lane l with sup := { s.sup l with cycle := .recover, foulPending := false } } := by
  unfold enterRecover recoverActs
  rw [modSup_eq]
  cases h : (s.sup l).power <;> simp [h]

/-- The supervisor as parking leaves it (R153, R159). -/
def Supervisor.afterPark (u : Supervisor) : Supervisor :=
  { u.parked with
    latched := none
    stale := false
    power := if u.power = .warming ∨ u.power = .running then .standby else u.power
    warmUpTimer := if u.power = .warming ∨ u.power = .running then none else u.warmUpTimer
    link := if u.power = .warming ∨ u.power = .running then u.link ++ [.powerOff] else u.link }

/-- Parking (R5, R159), as one write of the lane and one of its squad. -/
theorem park_eq (l : Lane) (faulted : Bool) (s : State) :
    park l faulted s =
      (s.setLane l { s.lane l with
        state := .closed
        holds := .none
        latchedFault := (s.lane l).latchedFault || faulted
        reopen := none
        acct := .cleared
        runTicks := 0
        sup := (s.sup l).afterPark }).setSquad (s.lane l).squad (s.squad (s.lane l).squad).closed := by
  unfold park enterClosed powerDown
  by_cases h : (s.sup l).power = .warming ∨ (s.sup l).power = .running
  · simp [modLane_eq, modSquad_eq, modSup_eq, sendMessage, Supervisor.parked, Supervisor.afterPark, h, State.lane_sup]
  · simp [modLane_eq, modSquad_eq, Supervisor.parked, Supervisor.afterPark, h, State.lane_sup]

/-! ### The hold set (R6 to R8) -/

/-- A reason that enters: nothing for a CLOSED lane or a reason already there (R6). -/
theorem addHold_of_idle (l : Lane) (h : Hold) (s : State)
    (hi : (s.lane l).state = .closed ∨ (s.lane l).holds.has h = true) : addHold l h s = s := if_pos hi

/-- A reason that enters, as one write of the lane (R6, R7). -/
theorem addHold_eq (l : Lane) (h : Hold) (s : State) (hc : (s.lane l).state ≠ .closed)
    (hh : (s.lane l).holds.has h = false) :
    addHold l h s = s.setLane l { s.lane l with
      holds := (s.lane l).holds.put h true
      sup := if (s.sup l).cycle = .armed then { s.sup l with cycle := .gated, foulPending := false } else s.sup l } := by
  unfold addHold
  rw [if_neg (by simp [hc, hh])]
  by_cases ha : (s.sup l).cycle = .armed
  · simp [ha, gate, modSup_eq, modLane_eq, State.lane_sup]
  · simp [ha, modLane_eq, State.lane_sup]

/-- A reason that leaves, as one write of the lane, and the decision when none is left (R6, R8). -/
theorem removeHold_eq (l : Lane) (h : Hold) (s : State) (hh : (s.lane l).holds.has h = true) :
    removeHold l h s =
      if (s.lane l).holds.put h false = HoldSet.none ∧ (s.sup l).cycle = .gated then
        arm l (s.setLane l { s.lane l with holds := (s.lane l).holds.put h false })
      else s.setLane l { s.lane l with holds := (s.lane l).holds.put h false } := by
  unfold removeHold
  rw [if_pos hh]
  simp [dropHold, modLane_eq, HoldSet.isEmpty_iff]

end Sys2Proof.Machine

namespace Sys2Proof.Machine

/-- Settles O9: each field of the first power-up is read off, the lanes, squads and ports one by one. -/
theorem firstPowerUpValues : Obligations.FirstPowerUpValues := by
  unfold Obligations.FirstPowerUpValues
  refine ⟨fun l => ?lane, rfl, fun q => ?squad, rfl, rfl, fun n => ?working, rfl, rfl, fun x hx => ?store, rfl, rfl, rfl,
    rfl, rfl, rfl, rfl, rfl, rfl, rfl, rfl, fun p => ?port, rfl, rfl, rfl, rfl, rfl⟩
  case lane => cases l <;> decide
  case squad => cases q <;> rfl
  case working =>
    rcases n with _ | n
    · rfl
    · have hw : State.reset.rates.working[n + 1]? = (List.replicate 15 RateEntry.absent)[n]? := rfl
      rw [hw, List.getElem?_replicate, if_neg n.succ_ne_zero]
      simp only [Nat.succ_lt_succ_iff, show 16 = 15 + 1 from rfl]
  case store => rw [List.eq_of_mem_replicate hx]; exact ⟨rfl, rfl⟩
  case port => cases p <;> decide

/-- Settles O18, from the equations of a reason that enters and of one that leaves. -/
theorem holdSetChanges : Obligations.HoldSetChanges := by
  unfold Obligations.HoldSetChanges
  refine fun l h s => ⟨addHold_of_idle l h s, fun hc hh => ⟨_, fun r => ?_, addHold_eq l h s hc hh⟩,
    fun hh => if_neg (by simp [hh]), fun hh => ⟨_, fun r => ?_, removeHold_eq l h s hh⟩⟩ <;>
  · rw [HoldSet.has_put]
    split <;> simp [*]

/-- Settles O21, from the equation of each operation. -/
theorem supervisorOperations : Obligations.SupervisorOperations := by
  unfold Obligations.SupervisorOperations
  refine ⟨fun l s => ⟨fun p k x => issueCycle_eq l p k x s, wake_eq l s, ?_⟩, fun l faulted s => ?_⟩
  · refine (enterRecover_eq l s).trans ?_
    cases (s.sup l).power <;> rfl
  · exact park_eq l faulted s

end Sys2Proof.Machine

namespace Sys2Proof.Machine

/-! ### Requests that a port takes, and what stands in a state in which one is heard -/

/-- Hearing a request touches its port alone. -/
@[simp] theorem heard_frame (e : Envelope) (code : Byte) (s : State) :
    SameRest s (Safety.heard e code s) ∧ (Safety.heard e code s).lanes = s.lanes ∧
    (Safety.heard e code s).squads = s.squads ∧ (Safety.heard e code s).pairMode = s.pairMode ∧
    (Safety.heard e code s).ret = s.ret ∧ (Safety.heard e code s).rates = s.rates := by
  rcases e with ⟨p, a, t, n⟩
  cases p <;> exact ⟨⟨rfl, rfl, rfl, rfl, rfl, rfl, rfl, rfl⟩, rfl, rfl, rfl, rfl, rfl⟩

@[simp] theorem heard_lane (e : Envelope) (code : Byte) (s : State) (l : Lane) :
    (Safety.heard e code s).lane l = s.lane l := by simp [State.lane]

@[simp] theorem heard_sup (e : Envelope) (code : Byte) (s : State) (l : Lane) :
    (Safety.heard e code s).sup l = s.sup l := by simp [State.sup]

@[simp] theorem heard_acct (e : Envelope) (code : Byte) (s : State) (l : Lane) :
    (Safety.heard e code s).acct l = s.acct l := by simp [State.acct]

@[simp] theorem heard_squad (e : Envelope) (code : Byte) (s : State) (q : SquadId) :
    (Safety.heard e code s).squad q = s.squad q := by simp [State.squad]

@[simp] theorem heard_squadOn (e : Envelope) (code : Byte) (s : State) (l : Lane) :
    (Safety.heard e code s).squadOn l = s.squadOn l := by simp [State.squadOn]

/-- A request whose own checks refuse it, from a port that may send it. -/
theorem refuses_of {c : Instr} {e : Envelope} {p : Port} {code : Byte} {allowed broadcastOk : Bool} {len : Nat}
    {body : State → Answer} {s : State} {st : Status} (hx : exec c s = request e code allowed broadcastOk len body s)
    (h : Safety.Taken e p len s) (ha : allowed = true)
    (hb : body (Safety.heard e code s) = refuse st (Safety.heard e code s)) : Safety.Refuses c e code s st := by
  subst ha
  exact hx.trans (request_refused h hb)

/-- A request answered at once, from a port that may send it. -/
theorem completes_of {c : Instr} {e : Envelope} {p : Port} {code : Byte} {allowed broadcastOk : Bool} {len : Nat}
    {body : State → Answer} {s t : State} {st : Status} {bytes : List Byte}
    (hx : exec c s = request e code allowed broadcastOk len body s) (h : Safety.Taken e p len s) (ha : allowed = true)
    (hb : body (Safety.heard e code s) = .now st bytes t)
    (hr : (t.port e.port).request = some { code := code, tag := e.tag }) :
    Safety.Completes c e code s st bytes t := by
  subst ha
  exact hx.trans (request_completes h hb hr)

section
variable {e : Envelope} {len : Nat} {s : State}

theorem deskOnly_of_taken (h : Safety.Taken e .desk len s) : deskOnly e = true := by simp [deskOnly, h.2.1]

theorem consoleOnly_of_taken (h : Safety.Taken e .console len s) : consoleOnly e = true := by simp [consoleOnly, h.2.1]

theorem deskOrConsole_of_taken {p : Port} (h : Safety.Taken e p len s) (hp : p ≠ .service) : deskOrConsole e = true := by
  obtain ⟨-, rfl, -⟩ := h
  cases hq : e.port <;> simp_all [deskOrConsole]

end

/-- A lane in session is OPEN, PLAYING or GRACE. -/
theorem inSession_iff (st : LaneState) : st.inSession = true ↔ st = .opened ∨ st = .playing ∨ st = .grace := by
  cases st <;> simp [LaneState.inSession]

theorem plays_iff (st : LaneState) : st.plays = true ↔ st = .playing ∨ st = .grace := by
  cases st <;> simp [LaneState.plays]

end Sys2Proof.Machine

namespace Sys2Proof.Machine

/-! ### ADD_CREDIT and ADD_TIME -/

theorem okOrLimited_decide (p : Prop) [Decidable p] : okOrLimited (decide p) = if p then .limited else .ok := by
  by_cases h : p <;> simp [okOrLimited, h]


/-- ADD_CREDIT's effect, its account written in one (R123). -/
theorem addCreditEffect_eq (l : Lane) (n : Nat) (s : State) :
    addCreditEffect l n s =
      let credited := s.setLane l { s.lane l with
        acct := { s.acct l with
          gameCredit := (s.acct l).gameCredit + n, creditsLoaded := (s.acct l).creditsLoaded + n } }
      if (s.acct l).gameCredit = 0 ∧ 1 ≤ n then removeHold l .credit credited else credited := rfl

/-- ADD_TIME's effect, its lane state and account written in one (R126). -/
theorem addTimeEffect_eq (l : Lane) (n : Nat) (s : State) :
    addTimeEffect l n s =
      let credited := s.setLane l { s.lane l with
        state := if 1 ≤ n ∧ (s.lane l).state = .grace then .playing else (s.lane l).state
        acct := { s.acct l with
          timeCredit := (s.acct l).timeCredit + n
          minutesLoaded := (s.acct l).minutesLoaded + n
          warned := if 1 ≤ n ∧ (s.acct l).warn < (s.acct l).timeCredit + n then false else (s.acct l).warned } }
      if 1 ≤ n then removeHold l .time credited else credited := by
  unfold addTimeEffect
  by_cases hn : 1 ≤ n
  · by_cases hg : (s.lane l).state = .grace <;> by_cases hw : (s.acct l).warn < (s.acct l).timeCredit + n <;>
      simp [hn, hg, hw, setLaneState, modAcct, modLane_eq, State.lane_acct]
  · simp [hn, modAcct, modLane_eq, State.lane_acct]

/-- ADD_CREDIT's own part, once its checks pass (R123). -/
theorem addCreditBody_taken {amount : BitVec 16} {l : Lane} {s : State} (ha : amount.toNat ≠ 0)
    (hs : (s.lane l).state.inSession = true) (hm : (s.acct l).mode = .game) :
    addCreditBody amount l s =
      .now (okOrLimited (decide (creditAdded (s.acct l) amount.toNat < amount.toNat)))
        (be1 (creditAdded (s.acct l) amount.toNat) ++
          be1 ((addCreditEffect l (creditAdded (s.acct l) amount.toNat) s).acct l).gameCredit)
        (addCreditEffect l (creditAdded (s.acct l) amount.toNat) s) := by
  have h0 : amount ≠ 0#16 := by rintro rfl; exact ha rfl
  simp [addCreditBody, h0, hs, hm]

/-- ADD_TIME's own part, once its checks pass (R126). -/
theorem addTimeBody_taken {amount : BitVec 16} {l : Lane} {s : State} (ha : amount.toNat ≠ 0)
    (hs : (s.lane l).state.inSession = true) (hm : (s.acct l).mode = .time) :
    addTimeBody amount l s =
      .now (okOrLimited (decide (minutesAdded (s.acct l) amount.toNat < amount.toNat)))
        (be2 (minutesAdded (s.acct l) amount.toNat) ++
          be2 ((addTimeEffect l (minutesAdded (s.acct l) amount.toNat) s).acct l).timeCredit)
        (addTimeEffect l (minutesAdded (s.acct l) amount.toNat) s) := by
  have h0 : amount ≠ 0#16 := by rintro rfl; exact ha rfl
  simp [addTimeBody, h0, hs, hm]

/-- Settles O33: each request's checks in their order, and the effects as one write of the lane. -/
theorem pauseResumeAndCredit : Obligations.PauseResumeAndCredit := by
  unfold Obligations.PauseResumeAndCredit
  intro e l bad amount s inSession a n
  have hses : (s.lane l).state.inSession = true ↔ inSession := inSession_iff _
  have h0 : amount = 0#16 ↔ n = 0 := BitVec.toNat_eq.trans Iff.rfl
  refine ⟨fun h => ⟨?_, fun hi => ?_, fun hi => ?_, fun hc => ?_⟩, fun h hc => ?_, fun h hp => ⟨?_, fun hc => ?_⟩,
    fun h => ?_, fun h => ?_⟩
  · exact refuses_of rfl h (deskOnly_of_taken h) rfl
  · exact refuses_of rfl h (deskOnly_of_taken h) (by simp [withLane, pauseBody, hses, hi])
  · exact completes_of rfl h (deskOnly_of_taken h) (by simp [withLane, pauseBody, hses, hi, done])
      (by simp)
  · exact completes_of rfl h (deskOrConsole_of_taken h (by decide))
      (by simp [withLane, resumeBody, hc, done, h.2.1]) (by simp)
  · exact completes_of rfl h (deskOrConsole_of_taken h (by decide))
      (by simp [withLane, resumeBody, hc, done, h.2.1]) (by simp)
  · exact refuses_of rfl h (deskOrConsole_of_taken h hp) rfl
  · exact refuses_of rfl h (deskOrConsole_of_taken h hp) (by simp [withLane, resumeBody, hc])
  · refine ⟨refuses_of rfl h (deskOnly_of_taken h) rfl, fun hn => ?_, fun hn hi => ?_, fun hn hi hm => ?_, fun hn hi hm => ?_⟩
    · exact refuses_of rfl h (deskOnly_of_taken h) (by simp [withLane, addCreditBody, h0, hn])
    · exact refuses_of rfl h (deskOnly_of_taken h) (by simp [withLane, addCreditBody, h0, hn, hses, hi])
    · exact refuses_of rfl h (deskOnly_of_taken h)
        (by simp [withLane, addCreditBody, h0, hn, hses, hi, show (s.acct l).mode = .time from hm])
    · refine completes_of rfl h (deskOnly_of_taken h) ((addCreditBody_taken hn ?_ ?_).trans ?_) ?_
      · simpa using hses.mpr hi
      · simpa using hm
      · rw [okOrLimited_decide, addCreditEffect_eq]
        simp [creditAdded, be1, a, n]
      · dsimp only
        split <;> simp
  · refine ⟨refuses_of rfl h (deskOnly_of_taken h) rfl, fun hn => ?_, fun hn hi => ?_, fun hn hi hm => ?_, fun hn hi hm => ?_⟩
    · exact refuses_of rfl h (deskOnly_of_taken h) (by simp [withLane, addTimeBody, h0, hn])
    · exact refuses_of rfl h (deskOnly_of_taken h) (by simp [withLane, addTimeBody, h0, hn, hses, hi])
    · exact refuses_of rfl h (deskOnly_of_taken h)
        (by simp [withLane, addTimeBody, h0, hn, hses, hi, show (s.acct l).mode = .game from hm])
    · refine completes_of rfl h (deskOnly_of_taken h) ((addTimeBody_taken hn ?_ ?_).trans ?_) ?_
      · simpa using hses.mpr hi
      · simpa using hm
      · rw [okOrLimited_decide, addTimeEffect_eq]
        simp [minutesAdded, a, n]
      · dsimp only
        split <;> simp

end Sys2Proof.Machine

namespace Sys2Proof.Machine

/-! ### OPEN_LANE -/

/-- The account OPEN_LANE loads, by its fields (R122). -/
theorem loadedAccount_eq (m : AccountMode) (credit warn : Nat) (now : Option ClockReading) :
    loadedAccount m credit warn now =
      { mode := m, gameCredit := if m = .game then min (if m = .game then 99 else 720) credit else 0,
        creditsLoaded := if m = .game then min (if m = .game then 99 else 720) credit else 0, creditsTaken := 0,
        timeCredit := if m = .time then min (if m = .game then 99 else 720) credit else 0,
        minutesLoaded := if m = .time then min (if m = .game then 99 else 720) credit else 0, minutesMetered := 0,
        phase := 0, centMinutes := 0, gameCharges := 0, warn := min 30 warn, warned := false, openTime := now } := by
  cases m <;> rfl

/-- The clamp OPEN_LANE reports (R122). -/
theorem openLimited_iff (m : AccountMode) (credit warn : Nat) :
    openLimited m credit warn = true ↔ (if m = .game then 99 else 720) < credit ∨ 30 < warn := by
  cases m <;> simp [openLimited]

/-- OPEN_LANE's effect, as one write of the lane (R2, R122, R154). -/
theorem openEffect_eq (l : Lane) (m : AccountMode) (credit warn : Nat) (s : State) :
    openEffect l m credit warn s = s.setLane l { s.lane l with
      state := .opened
      holds := openHolds s (s.lane l) (loadedAccount m credit warn (clockReading s.clock))
      latchedFault := false
      acct := loadedAccount m credit warn (clockReading s.clock)
      runTicks := 0
      summary := none
      sup := { s.sup l with
        cycle := if (s.sup l).cycle = .parked then (if (s.lane l).latchedFault = true then .fault else .gated)
          else (s.sup l).cycle
        testMark := if (s.sup l).cycle = .parked then false else (s.sup l).testMark
        power := if (s.sup l).power = .standby then .warming else (s.sup l).power
        warmUpTimer := if (s.sup l).power = .standby then
            some { startedAt := s.tick, length := 100 * (s.sup l).timing.warmUp } else (s.sup l).warmUpTimer
        link := if (s.sup l).power = .standby then (s.sup l).link ++ [.powerOn] else (s.sup l).link } } := by
  unfold openEffect
  rw [wake_eq, modLane_eq]
  by_cases hp : (s.sup l).cycle = .parked <;> by_cases hw : (s.sup l).power = .standby <;>
    simp [openSupervisor, State.lane_sup, hp, hw]

/-- Settles O31: the checks in their order, then the effect and the reply field by field. -/
theorem laneOpening : Obligations.LaneOpening := by
  unfold Obligations.LaneOpening
  intro e l m credit warn bad mode s h0 h r w top n now acct loaded holds woken parked
  have ha := deskOnly_of_taken h0
  refine ⟨refuses_of rfl h0 ha rfl, refuses_of rfl h0 ha rfl, fun hc => ?_, fun hc => ?_⟩
  · exact refuses_of rfl h0 ha (by simp [withLane, openBody, hc])
  · have hacct : loadedAccount m credit.toNat w (clockReading h.clock) = acct := by
      rw [show h.clock = s.clock by simp [h]]
      exact loadedAccount_eq _ _ _ _
    have hholds : openHolds h r acct = holds := by
      cases m <;> simp [openHolds, holds, acct, h, beq_eq_decide]
    have hstatus : okOrLimited (openLimited m credit.toNat w) = if top < credit.toNat ∨ 30 < w then .limited else .ok := by
      simp only [okOrLimited, openLimited_iff, top]
    have hbytes : accountBytes acct = loaded := by
      cases m <;> rcases hv : s.clock.valid <;> simp [accountBytes, acct, loaded, now, hv] <;> rfl
    have hbody : withLane (.val l) (openBody (.val m) credit warn) h =
        .now (okOrLimited (openLimited m credit.toNat w)) (accountBytes ((openEffect l m credit.toNat w h).acct l))
          (openEffect l m credit.toNat w h) := by
      simp [withLane, openBody, h, hc, w]
    refine completes_of rfl h0 ha (hbody.trans ?_) (by simp [h])
    rw [hstatus, openEffect_eq, hacct, hholds, ← hbytes, show h.tick = s.tick by simp [h]]
    simp only [State.acct, State.setLane_lane_same]
    rfl

end Sys2Proof.Machine

namespace Sys2Proof.Machine

/-! ### BOWLER_READY, RESET_DECK, FOUL_DETECT and foul events -/

/-- When the idle standby timer runs (R155). -/
theorem idleRuns_iff (u : Supervisor) :
    idleRuns u = true ↔ u.power = .running ∧ (u.cycle = .armed ∨ u.cycle = .gated) ∧ u.timing.idle ≠ 0 := by
  simp [idleRuns, and_assoc]

/-- The idle standby timer restarted, as one write of the lane (R155). -/
theorem restartIdle_eq (l : Lane) (s : State) :
    restartIdle l s =
      if (s.sup l).power = .running ∧ ((s.sup l).cycle = .armed ∨ (s.sup l).cycle = .gated) ∧ (s.sup l).timing.idle ≠ 0 then
        s.setLane l { s.lane l with sup := { s.sup l with
          idleTimer := some { startedAt := s.tick, length := 6000 * (s.sup l).timing.idle } } }
      else s :=
  if_congr (idleRuns_iff _) rfl rfl

/-- BOWLER_READY wakes a machine in STANDBY, and restarts the idle timer of any other (R155). -/
theorem restartIdle_wake (l : Lane) (s : State) :
    restartIdle l (wake l s) = if (s.sup l).power = .standby then wake l s else restartIdle l s := by
  by_cases h : (s.sup l).power = .standby
  · rw [if_pos h, restartIdle_eq, if_neg]
    simp [wake_eq, h]
  · rw [if_neg h, wake_eq, if_neg h]

/-- The machine power state that BOWLER_READY answers. -/
theorem powerCode_restartIdle_wake (l : Lane) (s : State) (h : (s.sup l).power ≠ .off) :
    be1 (powerCode ((restartIdle l (wake l s)).sup l).power) = [if (s.sup l).power = .running then 3#8 else 2#8] := by
  rw [restartIdle_wake, wake_eq, restartIdle_eq]
  cases hp : (s.sup l).power
  case off => exact absurd hp h
  case standby => simp [be1, powerCode]
  all_goals
    simp only [reduceCtorEq, if_false, if_true]
    split <;> simp [hp, be1, powerCode]

/-- FOUL_DETECT's effect, as one write of the lane (R10). -/
theorem setFoulDetect_eq (l : Lane) (on : Bool) (s : State) :
    setFoulDetect l on s = s.setLane l { s.lane l with
      foulDetect := on, sup := { s.sup l with foulPending := if on then (s.sup l).foulPending else false } } := rfl

/-- A foul event, as one write of the lane (R55). -/
theorem takeFoul_eq (l : Lane) (s : State) :
    takeFoul l s =
      if (s.lane l).foulDetect = true ∧ (s.sup l).cycle = .armed then
        s.setLane l { s.lane l with sup := { s.sup l with foulPending := true } }
      else if (s.lane l).foulDetect = true ∧ (s.sup l).cycle = .ballIn then
        s.setLane l { s.lane l with sup := { s.sup l with
          delivery := (s.sup l).delivery.map fun d => { d with foul := true } } }
      else s := by
  unfold takeFoul
  by_cases hf : (s.lane l).foulDetect = true
  · cases hc : (s.sup l).cycle <;> simp [hf, modSup_eq]
  · simp [hf]

/-- An event that the core must run to hear (R168). -/
theorem does_of {c : Instr} {f : State → State} {s t : State} (hx : exec c s = coreEvent f s) (hon : coreOn s = true)
    (ht : f s = t) : Safety.Does c s t := by
  subst ht
  exact hx.trans (by simp [coreEvent, hon])

/-- Settles O37: each request's checks in their order, and each effect as one write of the lane. -/
theorem foulsAndReadiness : Obligations.FoulsAndReadiness := by
  unfold Obligations.FoulsAndReadiness
  intro l s r u
  refine ⟨?requests, ?detect, fun hon => ?events⟩
  case requests =>
    intro e bad h0 h open' idles t resets
    have ha := consoleOnly_of_taken h0
    have hses : (s.lane l).state.inSession = true ↔ open' := inSession_iff _
    refine ⟨refuses_of rfl h0 ha rfl, fun hc => ?_, fun ho hp => ?_, refuses_of rfl h0 ha rfl, fun hr => ?_, fun hr => ?_⟩
    · refine refuses_of rfl h0 ha ?_
      rcases hc with hc | hc
      · simp [withLane, bowlerReadyBody, hses, hc]
      · simp [withLane, bowlerReadyBody, show (s.sup l).power = .off from hc]
    · have hp' : (s.sup l).power ≠ .off := hp
      have ht : restartIdle l (wake l h) = t := by
        rw [restartIdle_wake, restartIdle_eq]
        simp only [h, heard_sup, heard_lane, show (Safety.heard e 10#8 s).tick = s.tick by simp]
        rfl
      have hcode : be1 (powerCode (t.sup l).power) = [if u.power = .running then 3#8 else 2#8] := by
        rw [← ht, powerCode_restartIdle_wake _ _ (by simpa [h] using hp')]
        simp only [h, heard_sup]
        rfl
      refine completes_of rfl h0 ha ?_ (by rw [← ht]; simp [h])
      rw [← hcode, ← ht]
      simp [withLane, bowlerReadyBody, hses, ho, hp', h]
    · have hr' : ¬(((s.sup l).cycle = .armed ∨ (s.sup l).cycle = .gated) ∧ (s.sup l).power = .running) := hr
      exact refuses_of rfl h0 ha (by simp only [withLane, resetDeckBody, heard_sup, if_neg hr'])
    · have hr' : ((s.sup l).cycle = .armed ∨ (s.sup l).cycle = .gated) ∧ (s.sup l).power = .running := hr
      exact completes_of rfl h0 ha (by simp only [withLane, resetDeckBody, heard_sup, if_pos hr', done]) (by simp)
  case detect =>
    intro e bad v h0 h
    have ha := consoleOnly_of_taken h0
    refine ⟨refuses_of rfl h0 ha rfl, refuses_of rfl h0 ha rfl, completes_of rfl h0 ha ?_ (by simp [h]),
      completes_of rfl h0 ha ?_ (by simp [h])⟩
    all_goals
      simp only [withLane, foulDetectBody, done, setFoulDetect_eq, h, heard_lane, heard_sup]
      rfl
  case events =>
    refine ⟨fun hf hc => does_of rfl hon ((takeFoul_eq l s).trans (if_pos ⟨hf, hc⟩)),
      fun hf hc => does_of rfl hon ((takeFoul_eq l s).trans ?_), fun hi => does_of rfl hon ((takeFoul_eq l s).trans ?_)⟩
    · have hc' : (s.sup l).cycle = .ballIn := hc
      exact (if_neg (by simp [hc'])).trans (if_pos ⟨hf, hc⟩)
    · have hi' : (s.lane l).foulDetect = false ∨ (s.sup l).cycle ≠ .armed ∧ (s.sup l).cycle ≠ .ballIn := hi
      rw [if_neg (by rcases hi' with hf | hc <;> simp [*]), if_neg (by rcases hi' with hf | hc <;> simp [*])]

end Sys2Proof.Machine

namespace Sys2Proof.Machine

/-! ### START_GAME -/

/-- The games-to-play a byte spells, when it is in range (R3). -/
theorem gamesOf_eq (n : Byte) :
    gamesOf n = if n.toNat ≤ 9 then some (if n.toNat = 0 then .continuous else .count n.toNat) else none := by
  unfold gamesOf
  by_cases h0 : n.toNat = 0
  · simp [h0]
  · simp [h0]

/-- A test holds of some bowler of a list exactly when a first slot is found. -/
theorem firstSlot_isSome (test : Bowler → Bool) (n : Nat) (bs : List Bowler) :
    (firstSlot test n bs).isSome = bs.any test := by
  induction bs generalizing n with
  | nil => rfl
  | cons b rest ih =>
    unfold firstSlot
    cases h : test b <;> simp [h, ih]

/-- A squad holds an ACTIVE bowler. -/
theorem hasActive_eq (v : Squad) : hasActive v = v.order.any fun b => b.status == .active :=
  firstSlot_isSome _ _ _

/-- A squad's first game, as one write of the squad and one of its lane (R3, R19). -/
theorem beginGames_eq (q : SquadId) (g : Games) (s : State) :
    beginGames q g s =
      (s.setSquad q { s.squad q with
        state := .bowling, round := 1, ball := 1, game := 1, games := g, order := (s.squad q).order.map freshGame
        slot := firstActive ((s.squad q).order.map freshGame) }).setLane (s.squad q).current
        { s.lane (s.squad q).current with
          reopen := none, sup := { s.sup (s.squad q).current with nextDeck := fullRack } } := by
  simp [beginGames, startSquadGame, modSquad_eq, Squad.started, Squad.toRound, setReopen, writeNextDeck, modSup_eq,
    modLane_eq]

/-- Settles O36: the checks in their order, then the start of one squad or of both. -/
theorem gameStart : Obligations.GameStart := by
  unfold Obligations.GameStart
  intro e l bad n s h0 h games c active fresh starts plays decides
  have ha := consoleOnly_of_taken h0
  have hact : ∀ q, hasActive (s.squad q) = active q := fun q => hasActive_eq _
  have hgames : n.toNat ≤ 9 → gamesOf n = some games := fun hn => (gamesOf_eq n).trans (if_pos hn)
  have hstart : ∀ q t, beginGames q games t = starts q t := fun q t => beginGames_eq q games t
  refine ⟨refuses_of rfl h0 ha rfl, fun hn => ?_, fun hn hm => ⟨fun hr => ?_, fun ho hact' => ?_⟩,
    fun hn hm => ⟨fun hr => ?_, fun hoa hob ha' hb' => ?_⟩⟩
  · refine refuses_of rfl h0 ha ?_
    simp [withLane, startBody, gamesOf_eq, not_le.mpr hn]
  · refine refuses_of rfl h0 ha ?_
    by_cases ho : (s.lane l).state = .opened
    · have hno := hr.resolve_left (not_not.mpr ho)
      simp [withLane, startBody, hgames hn, hm, startSingle, State.squadOn, hact, ho, hno]
    · simp [withLane, startBody, hgames hn, hm, startSingle, ho]
  · have ht : decides l (plays l (starts (s.lane l).squad h)) =
        decide52 l (setLaneState l .playing (beginGames (s.lane l).squad games h)) := by rw [hstart]; rfl
    rw [ht]
    refine completes_of rfl h0 ha ?_ (by simp [h])
    simp [withLane, startBody, hgames hn, hm, startSingle, State.squadOn, hact, ho, hact', done, h]
  · refine refuses_of rfl h0 ha ?_
    by_cases ho : (s.lane .a).state = .opened ∧ (s.lane .b).state = .opened
    · have hno : active .a = false ∨ active .b = false := by simpa [ho] using hr
      have hno' : (!active .a || !active .b) = true := by rcases hno with hno | hno <;> simp [hno]
      simp [withLane, startBody, hgames hn, hm, startCross, hact, ho, -Bool.or_eq_true, -Bool.not_eq_eq_eq_not, hno']
    · simp [withLane, startBody, hgames hn, hm, startCross, not_and_or.mp ho]
  · have ht : decides .b (decides .a (plays .b (plays .a (starts .b (starts .a h))))) =
        decide52 .b (decide52 .a
          (setLaneState .b .playing (setLaneState .a .playing (beginGames .b games (beginGames .a games h))))) := by
      rw [hstart, hstart]; rfl
    rw [ht]
    refine completes_of rfl h0 ha ?_ (by simp [h])
    simp [withLane, startBody, hgames hn, hm, startCross, hact, hoa, hob, ha', hb', done, h]

end Sys2Proof.Machine

namespace Sys2Proof.Machine

/-! ### The rosters (section 1.4) -/

section
variable {e : Envelope} {q : SquadId} {code : Byte} {slots : List Nat} {f : SquadId → State → Answer} {s : State}

/-- A roster request for a squad whose home lane is not in session (R13). -/
theorem withRoster_closed (ho : ¬((s.lane (s.squad q).home).state = .opened ∨ (s.lane (s.squad q).home).state = .playing ∨
    (s.lane (s.squad q).home).state = .grace)) :
    withRoster (.val q) slots f (Safety.heard e code s) = refuse .state (Safety.heard e code s) := by
  rw [← inSession_iff] at ho
  simp [withRoster, ho]

/-- A roster request that names a slot without a bowler (R13). -/
theorem withRoster_absent {n : Nat} (ho : (s.lane (s.squad q).home).state = .opened ∨
    (s.lane (s.squad q).home).state = .playing ∨ (s.lane (s.squad q).home).state = .grace)
    (hn : bowlerAt (s.squad q).order n = none) :
    withRoster (.val q) [n] f (Safety.heard e code s) = refuse .absent (Safety.heard e code s) := by
  rw [← inSession_iff] at ho
  simp [withRoster, ho, hn]

/-- A roster request past its shared conditions (R13). -/
theorem withRoster_open (ho : (s.lane (s.squad q).home).state = .opened ∨
    (s.lane (s.squad q).home).state = .playing ∨ (s.lane (s.squad q).home).state = .grace)
    (hn : ∀ n ∈ slots, bowlerAt (s.squad q).order n ≠ none) :
    withRoster (.val q) slots f (Safety.heard e code s) = f q (Safety.heard e code s) := by
  rw [← inSession_iff] at ho
  have hall : ¬(slots.any fun k => (bowlerAt (s.squad q).order k).isNone) = true := by
    simpa [List.any_eq_true] using hn
  simp [withRoster, ho, hall]

/-- A roster request past its shared conditions that names one bowler (R13). -/
theorem withRoster_named {n : Nat} {b : Bowler} (ho : (s.lane (s.squad q).home).state = .opened ∨
    (s.lane (s.squad q).home).state = .playing ∨ (s.lane (s.squad q).home).state = .grace)
    (hb : bowlerAt (s.squad q).order n = some b) :
    withRoster (.val q) [n] f (Safety.heard e code s) = f q (Safety.heard e code s) :=
  withRoster_open ho (by simp [hb])

end

/-- A slot that holds a bowler, in the order's own numbering. -/
theorem bowlerAt_eq_some {order : List Bowler} {n : Nat} {b : Bowler} (h : bowlerAt order n = some b) :
    n ≠ 0 ∧ order[n - 1]? = some b := by
  unfold bowlerAt at h
  split at h
  · cases h
  · exact ⟨‹_›, h⟩

/-- The bowler at a slot rewritten, as one write of the squad. -/
theorem modBowler_eq {q : SquadId} {n : Nat} {b : Bowler} {s : State} (f : Bowler → Bowler)
    (h : bowlerAt (s.squad q).order n = some b) :
    modBowler q n f s = s.setSquad q { s.squad q with order := (s.squad q).order.set (n - 1) (f b) } := by
  simp [modBowler, modSquad_eq, h, setBowler]

theorem delivering_iff (c : CycleState) : c.delivering = true ↔ c = .ballIn ∨ c = .reading ∨ c = .entry := by
  cases c <;> simp [CycleState.delivering]

theorem inGame_iff (v : Squad) : v.inGame = true ↔ v.state ≠ .forming := by simp [Squad.inGame]

/-- The ball in hand of the bowler at a slot who is current (R13). -/
theorem ballInHand_iff {s : State} {q : SquadId} {n : Nat} {b : Bowler} (hs : (s.squad q).slot = some n)
    (hb : bowlerAt (s.squad q).order n = some b) :
    ballInHand s q = true ↔ (frameAt b.sheet (s.squad q).round).balls ≠ [] ∨
      (s.sup (s.squad q).current).cycle = .ballIn ∨ (s.sup (s.squad q).current).cycle = .reading ∨
      (s.sup (s.squad q).current).cycle = .entry := by
  simp [ballInHand, Squad.currentBowler, hs, hb, delivering_iff]

@[simp] theorem ballInHand_heard (e : Envelope) (code : Byte) (s : State) (q : SquadId) :
    ballInHand (Safety.heard e code s) q = ballInHand s q := by
  simp [ballInHand]

/-- A handicap in range, as the roster holds it (R14, R18). -/
theorem handicapOf_of_le {h : Option Byte} (hh : ∀ x ∈ h, x.toNat ≤ 250) : handicapOf h = some (h.map BitVec.toNat) := by
  cases h with
  | none => rfl
  | some x => simp [handicapOf, hh x rfl]

theorem handicapOf_eq_none {h : Option Byte} (hh : ¬∀ x ∈ h, x.toNat ≤ 250) : handicapOf h = none := by
  cases h with
  | none => simp at hh
  | some x => simpa [handicapOf] using hh

/-- An optional blind score in range (R14). -/
theorem optionalBlindOf_of_le {h : Option (BitVec 16)} (hh : ∀ x ∈ h, x.toNat ≤ 300) :
    optionalBlindOf h = some (h.map BitVec.toNat) := by
  cases h with
  | none => rfl
  | some x => simp [optionalBlindOf, blindOf, hh x rfl]

theorem optionalBlindOf_eq_none {h : Option (BitVec 16)} (hh : ¬∀ x ∈ h, x.toNat ≤ 300) : optionalBlindOf h = none := by
  cases h with
  | none => simp at hh
  | some x => simpa [optionalBlindOf, blindOf] using hh

/-- A name's characters, when there are any and each is printable (R14, R185). -/
theorem nameOf_eq (raw : List Byte) :
    nameOf raw = if raw.takeWhile (· != 0#8) ≠ [] ∧ (raw.takeWhile (· != 0#8)).length ≤ 12 ∧
        ∀ x ∈ raw.takeWhile (· != 0#8), 0x20 ≤ x.toNat ∧ x.toNat ≤ 0x7E then
      some (raw.takeWhile (· != 0#8)) else none :=
  if_congr (by simp [printable, and_assoc]) rfl rfl

/-- ADD_BOWLER's own part with a field out of range (R14). -/
theorem addBowlerBody_range {name : List Byte} {hc : Option Byte} {blind : Option (BitVec 16)} {q : SquadId} {s : State}
    (hlen : (s.squad q).order.length < 8)
    (hbad : nameOf name = none ∨ handicapOf hc = none ∨ optionalBlindOf blind = none) :
    addBowlerBody name hc blind q s = refuse .range s := by
  unfold addBowlerBody
  rw [if_neg (by omega)]
  rcases hbad with h | h | h <;> rw [h] <;> split <;> simp_all

/-- The record of a bowler who is added, by the squad's state (R14). -/
theorem newBowler_eq (name : List Byte) (hc : Option Nat) (blind : Option (BitVec 16)) (v : Squad) :
    newBowler name hc (blind.map BitVec.toNat) (!v.inGame) =
      { name := name, handicap := hc, blind := blind.map BitVec.toNat,
        status := if v.state = .forming then (if blind = none then .active else .absent) else .waiting,
        charged := false, completed := 0, last := none, sheet := emptySheet, pending := [] } := by
  unfold newBowler
  by_cases hv : v.state = .forming <;> cases blind <;> simp [Squad.inGame, hv]

/-- A WAITING bowler's or an ABSENT bowler's return, by cases (R17). -/
theorem presentAgain_eq (v : Squad) (b : Bowler) :
    presentAgain v.inGame b =
      if b.status ≠ .absent then { b with blind := none }
      else if v.state = .forming then { b with blind := none, status := .active }
      else { b with blind := none, status := .waiting, sheet := emptySheet, pending := [] } := by
  unfold presentAgain
  by_cases hs : b.status = .absent <;> by_cases hv : v.state = .forming <;> simp [Squad.inGame, hs, hv]

/-- Settles O38: the shared conditions, then each request's own checks and its write of the squad. -/
theorem rosterEntries : Obligations.RosterEntries := by
  unfold Obligations.RosterEntries
  intro e q bad slot name hc blind s v n open' hcOk
  refine ⟨?addBowler, ?markPresent, ?setHandicap⟩
  case addBowler =>
    intro h0 h c chars nameOk ok
    have ha := consoleOnly_of_taken h0
    have hopen : open' → withRoster (.val q) [] (addBowlerBody name hc blind) h = addBowlerBody name hc blind q h :=
      fun ho => withRoster_open ho (by simp)
    refine ⟨refuses_of rfl h0 ha rfl, fun ho => refuses_of rfl h0 ha (withRoster_closed ho), fun ho hl => ?_,
      fun ho hl hbad => ?_, fun ho hl hgood => ?_⟩
    · exact refuses_of rfl h0 ha ((hopen ho).trans (if_pos (by simpa [h] using hl)))
    · refine refuses_of rfl h0 ha ((hopen ho).trans (addBowlerBody_range (by simpa [h] using hl) ?_))
      by_cases hn : nameOk
      · by_cases hh : hcOk
        · exact .inr (.inr (optionalBlindOf_eq_none fun hb => hbad ⟨hn, hh, hb⟩))
        · exact .inr (.inl (handicapOf_eq_none hh))
      · exact .inl ((nameOf_eq name).trans (if_neg hn))
    · obtain ⟨hn, hh, hb⟩ := hgood
      refine completes_of rfl h0 ha ((hopen ho).trans ?_) (by simp [h])
      have hl' : ¬8 ≤ (s.squad q).order.length := by simpa using hl
      simp only [addBowlerBody, h, heard_squad, if_neg hl', (nameOf_eq name).trans (if_pos hn), handicapOf_of_le hh,
        optionalBlindOf_of_le hb, done, modSquad_eq, newBowler_eq]
      rfl
  case markPresent =>
    intro h0 h c
    have ha := consoleOnly_of_taken h0
    refine ⟨refuses_of rfl h0 ha rfl, fun ho => refuses_of rfl h0 ha (withRoster_closed ho),
      fun ho hb => refuses_of rfl h0 ha (withRoster_absent ho hb), fun b hb ho => ?_⟩
    intro inHand
    refine ⟨fun hi => ?_, fun hi => ?_⟩
    · obtain ⟨hs, hd⟩ := hi
      have hhand : ballInHand s q = true := (ballInHand_iff hs hb).mpr hd
      refine refuses_of rfl h0 ha ((withRoster_named ho hb).trans ?_)
      exact if_pos ⟨by simpa using hs, by simpa using hhand⟩
    · have hfree : ¬((s.squad q).slot = some slot.toNat ∧ ballInHand s q = true) := fun hf =>
        hi ⟨hf.1, (ballInHand_iff hf.1 hb).mp hf.2⟩
      refine completes_of rfl h0 ha ((withRoster_named ho hb).trans ?_) (by simp [h])
      simp only [markPresentBody, heard_squad, ballInHand_heard, if_neg hfree, done]
      rw [modBowler_eq _ (by simpa using hb)]
      simp only [heard_squad, presentAgain_eq]
      rfl
  case setHandicap =>
    intro h0 h c
    have ha := consoleOnly_of_taken h0
    refine ⟨refuses_of rfl h0 ha rfl, fun ho => refuses_of rfl h0 ha (withRoster_closed ho),
      fun ho hb => refuses_of rfl h0 ha (withRoster_absent ho hb), fun b hb ho => ⟨fun hh => ?_, fun hh => ?_⟩⟩
    · refine refuses_of rfl h0 ha ((withRoster_named ho hb).trans ?_)
      simp only [setHandicapBody, handicapOf_eq_none hh]
    · refine completes_of rfl h0 ha ((withRoster_named ho hb).trans ?_) (by simp [h])
      simp only [setHandicapBody, handicapOf_of_le hh, done]
      rw [modBowler_eq _ (by simpa using hb)]
      simp only [heard_squad]
      rfl

end Sys2Proof.Machine

namespace Sys2Proof.Machine

/-! ### REMOVE_BOWLER, MOVE_BOWLER, MARK_ABSENT -/

/-- The reopen marks rewritten, as one write of both lanes (R86). -/
theorem mapReopens_eq (f : ReopenMark → Option ReopenMark) (s : State) :
    mapReopens f s = { s with lanes := { a := { s.lanes.a with reopen := s.lanes.a.reopen.bind f }
                                         b := { s.lanes.b with reopen := s.lanes.b.reopen.bind f } } } := rfl

/-- The current bowler replaced (R15, R17, R20), with the reopen mark's write written out. -/
theorem replaceCurrent_eq (q : SquadId) (s : State) :
    replaceCurrent q s =
      bowlerChanged (s.squad q).current (chooseNext q (s.squad q).current
        (s.setLane (s.squad q).current { s.lane (s.squad q).current with reopen := none })) := rfl

/-- The bowler at a slot is ACTIVE and the only ACTIVE one (R15, R17). -/
theorem lastActive_iff {v : Squad} {n : Nat} {b : Bowler} (hb : bowlerAt v.order n = some b) :
    lastActive v n = true ↔ b.status = .active ∧ activeCount v.order = 1 := by
  simp [lastActive, hb, Bowler.isActive]

/-- A move that would pass the current bowler's ball in hand (R16). -/
theorem moveBlocked_iff (s : State) (q : SquadId) (i j : Nat) :
    moveBlocked s q i j = true ↔ ∃ k ∈ (s.squad q).slot, ∃ x ∈ bowlerAt (s.squad q).order k,
      ((frameAt x.sheet (s.squad q).round).balls ≠ [] ∨ (s.sup (s.squad q).current).cycle = .ballIn ∨
        (s.sup (s.squad q).current).cycle = .reading ∨ (s.sup (s.squad q).current).cycle = .entry) ∧
      (k = i ∨ (i < k ∧ k < j) ∨ (j < k ∧ k < i)) := by
  unfold moveBlocked
  cases hs : (s.squad q).slot with
  | none => simp
  | some k =>
    cases hb : bowlerAt (s.squad q).order k with
    | none => simp [ballInHand, Squad.currentBowler, hs, hb]
    | some x => simp [ballInHand_iff hs hb, hb, strictlyBetween]

@[simp] theorem moveBlocked_heard (e : Envelope) (code : Byte) (s : State) (q : SquadId) (i j : Nat) :
    moveBlocked (Safety.heard e code s) q i j = moveBlocked s q i j := by
  simp [moveBlocked]

/-- The marks of a bowler who leaves, in one test (R11, R86). -/
theorem unmarkBowler_eq (q : SquadId) (n : Nat) (f : Nat → Nat) (s : State) :
    unmarkBowler q n f s = mapReopens (fun m => if m.squad ≠ q then some m else if m.slot = n then none
      else some { m with slot := f m.slot }) s := by
  unfold unmarkBowler
  congr 1
  funext m
  by_cases hm : m.squad = q <;> simp [hm]

/-- The marks of a bowler who becomes absent, in one test (R86). -/
theorem unmarkBowler_id (q : SquadId) (n : Nat) (s : State) :
    unmarkBowler q n id s = mapReopens (fun m => if m.squad = q ∧ m.slot = n then none else some m) s := by
  unfold unmarkBowler
  congr 1
  funext m
  rcases m with ⟨x, k, f⟩
  by_cases hm : x = q <;> by_cases hn : k = n <;> simp [hm, hn]

@[simp] theorem unmarkBowler_squad (q : SquadId) (n : Nat) (f : Nat → Nat) (s : State) (k : SquadId) :
    (unmarkBowler q n f s).squad k = s.squad k := by simp [State.squad]

/-- A blind score in range (R17). -/
theorem blindOf_eq (raw : BitVec 16) : blindOf raw = if raw.toNat ≤ 300 then some raw.toNat else none := rfl

/-- Settles O39: the shared conditions, then each request's own checks and its effect. -/
theorem rosterRemovalsAndMoves : Obligations.RosterRemovalsAndMoves := by
  unfold Obligations.RosterRemovalsAndMoves
  intro e q bad slot new blind s v n j open' delivering inHand last replaced marks
  have hhand : ∀ {k b}, v.slot = some k → bowlerAt v.order k = some b → (ballInHand s q = true ↔ inHand b) :=
    fun hs hb => ballInHand_iff hs hb
  refine ⟨?remove, ?move, ?absent⟩
  case remove =>
    intro h0 c t
    have ha := consoleOnly_of_taken h0
    have ht : unmarkBowler q n (slotAfterRemoval n) (modSquad q (fun v => v.without n) (Safety.heard e 14#8 s)) = t := by
      rw [unmarkBowler_eq, mapReopens_eq, modSquad_eq, heard_squad]
      rfl
    have hrep : replaceCurrent q t = replaced t := by
      have hcur : (t.squad q).current = v.current := by rw [← ht]; simp [Squad.without, v]
      rw [replaceCurrent_eq, hcur]
    refine ⟨refuses_of rfl h0 ha rfl, fun ho => refuses_of rfl h0 ha (withRoster_closed ho),
      fun ho hb => refuses_of rfl h0 ha (withRoster_absent ho hb), fun b hb ho => ?_⟩
    intro barred
    have hbar : ((s.squad q).inGame = true ∧ (((s.squad q).slot = some n ∧ ballInHand s q = true) ∨
        lastActive (s.squad q) n = true)) ↔ barred := by
      rw [inGame_iff, lastActive_iff hb, and_congr_right fun hs => hhand hs hb]
    have hbody : removeBowlerBody n q (Safety.heard e 14#8 s) =
        if barred then refuse .state (Safety.heard e 14#8 s)
        else done (if v.slot = some n then replaced t else t) := by
      rw [← hrep, ← ht]
      simp only [removeBowlerBody, heard_squad, ballInHand_heard]
      exact if_congr hbar rfl rfl
    refine ⟨fun hx => refuses_of rfl h0 ha ((withRoster_named ho hb).trans (hbody.trans (if_pos hx))), fun hx =>
      completes_of rfl h0 ha ((withRoster_named ho hb).trans (hbody.trans (if_neg hx))) ?_⟩
    rw [← hrep, ← ht]
    split <;> simp
  case move =>
    intro h0 h c follows
    have ha := consoleOnly_of_taken h0
    refine ⟨refuses_of rfl h0 ha rfl, fun ho => refuses_of rfl h0 ha (withRoster_closed ho),
      fun ho hb => refuses_of rfl h0 ha (withRoster_absent ho hb), fun b hb ho => ?_⟩
    intro passed
    have hn0 : n ≠ 0 := (bowlerAt_eq_some hb).1
    have hpass : moveBlocked s q n j = true ↔ passed := moveBlocked_iff s q n j
    have hmoved : (s.squad q).moved n j = { v with
        order := (v.order.eraseIdx (n - 1)).insertIdx (j - 1) b, slot := v.slot.map follows } := by
      have hb' : bowlerAt (s.squad q).order n = some b := hb
      simp only [Squad.moved, moveInOrder, hb']
      rfl
    have hmarks : mapReopens (fun m => some (if m.squad = q then { m with slot := slotAfterMove n j m.slot } else m))
          (h.setSquad q ((s.squad q).moved n j)) =
        marks (fun m => some (if m.squad = q then { m with slot := follows m.slot } else m)) (h.setSquad q { v with
          order := (v.order.eraseIdx (n - 1)).insertIdx (j - 1) b, slot := v.slot.map follows }) := by
      rw [hmoved]
      rfl
    have hbody : moveBowlerBody n j q h =
        if j = 0 ∨ v.order.length < j then refuse .range h
        else if n = j then done h
        else if passed then refuse .state h
        else done (marks (fun m => some (if m.squad = q then { m with slot := follows m.slot } else m)) (h.setSquad q { v with
          order := (v.order.eraseIdx (n - 1)).insertIdx (j - 1) b, slot := v.slot.map follows })) := by
      rw [← hmarks]
      simp only [moveBowlerBody, h, heard_squad, moveBlocked_heard, modSquad_eq]
      exact if_congr Iff.rfl rfl (if_congr Iff.rfl rfl (if_congr hpass rfl rfl))
    have hrun := (withRoster_named (e := e) (code := 15#8) (f := moveBowlerBody n j) ho hb).trans hbody
    refine ⟨fun hj => refuses_of rfl h0 ha (hrun.trans (if_pos hj)), fun hj hl => ?_, fun hj h1 hl hx => ?_,
      fun hj h1 hl hx => ?_⟩
    · exact completes_of rfl h0 ha (hrun.trans ((if_neg (by omega)).trans (if_pos hj.symm))) (by simp [h])
    · exact refuses_of rfl h0 ha (hrun.trans ((if_neg (by omega)).trans ((if_neg (Ne.symm hj)).trans (if_pos hx))))
    · exact completes_of rfl h0 ha
        (hrun.trans ((if_neg (by omega)).trans ((if_neg (Ne.symm hj)).trans (if_neg hx)))) (by rw [← hmarks]; simp [h])
  case absent =>
    intro h0 c
    have ha := consoleOnly_of_taken h0
    refine ⟨refuses_of rfl h0 ha rfl, fun ho => refuses_of rfl h0 ha (withRoster_closed ho),
      fun ho hb => refuses_of rfl h0 ha (withRoster_absent ho hb), fun b hb ho => ?_⟩
    intro barred t
    have ht : unmarkBowler q n id (modBowler q n (absentWith blind.toNat) (Safety.heard e 16#8 s)) = t := by
      rw [unmarkBowler_id, mapReopens_eq, modBowler_eq _ (by simpa using hb), heard_squad]
      rfl
    have hrep : replaceCurrent q t = replaced t := by
      have hcur : (t.squad q).current = v.current := by
        rw [← ht, modBowler_eq _ (by simpa using hb)]
        simp [v]
      rw [replaceCurrent_eq, hcur]
    have hbody : markAbsentBody n blind q (Safety.heard e 16#8 s) =
        if blind.toNat ≤ 300 then
          (if barred then refuse .state (Safety.heard e 16#8 s) else done (if v.slot = some n then replaced t else t))
        else refuse .range (Safety.heard e 16#8 s) := by
      have hbar : (((s.squad q).slot = some n ∧ ballInHand s q = true) ∨
          ((s.squad q).inGame = true ∧ lastActive (s.squad q) n = true)) ↔ barred := by
        rw [inGame_iff, lastActive_iff hb, and_congr_right fun hs => hhand hs hb]
      by_cases hl : blind.toNat ≤ 300
      · rw [← hrep, ← ht, if_pos hl, ← if_congr hbar rfl rfl, ite_or]
        simp only [markAbsentBody, blindOf_eq, if_pos hl, heard_squad, ballInHand_heard]
        rfl
      · simp only [markAbsentBody, blindOf_eq, if_neg hl]
    have hrun := (withRoster_named (e := e) (code := 16#8) (f := markAbsentBody n blind) ho hb).trans hbody
    refine ⟨fun hl => refuses_of rfl h0 ha (hrun.trans (if_neg (by omega))),
      fun hl hx => refuses_of rfl h0 ha (hrun.trans ((if_pos hl).trans (if_pos hx))),
      fun hl hx => completes_of rfl h0 ha (hrun.trans ((if_pos hl).trans (if_neg hx))) ?_⟩
    rw [← hrep, ← ht]
    split <;> simp

end Sys2Proof.Machine

namespace Sys2Proof.Machine

/-! ### The choice of the next bowler and the end of a frame round in SINGLE -/

/-- The first slot found, counted from `n`: its bowler passes the test and none before does. -/
theorem firstSlot_eq_some {test : Bowler → Bool} {n k : Nat} {bs : List Bowler} :
    firstSlot test n bs = some k ↔
      ∃ i b, k = n + i ∧ bs[i]? = some b ∧ test b = true ∧ ∀ j c, j < i → bs[j]? = some c → test c = false := by
  induction bs generalizing n with
  | nil => simp [firstSlot]
  | cons b rest ih =>
    unfold firstSlot
    cases hb : test b with
    | true =>
      constructor
      · rintro ⟨⟩
        exact ⟨0, b, rfl, rfl, hb, by simp⟩
      · rintro ⟨i, c, rfl, -, -, hmin⟩
        cases i with
        | zero => rfl
        | succ i => exact absurd (hmin 0 b (by omega) rfl) (by simp [hb])
    | false =>
      simp only [Bool.false_eq_true, if_false, ih]
      constructor
      · rintro ⟨i, c, rfl, hc, ht, hmin⟩
        refine ⟨i + 1, c, by omega, hc, ht, fun j d hj hd => ?_⟩
        cases j with
        | zero => cases hd; exact hb
        | succ j => exact hmin j d (by omega) hd
      · rintro ⟨i, c, rfl, hc, ht, hmin⟩
        cases i with
        | zero => cases hc; simp [hb] at ht
        | succ i => exact ⟨i, c, by omega, hc, ht, fun j d hj hd => hmin (j + 1) d (by omega) hd⟩

theorem firstSlot_eq_none {test : Bowler → Bool} {n : Nat} {bs : List Bowler} :
    firstSlot test n bs = none ↔ ∀ b ∈ bs, test b = false := by
  rw [← Option.isNone_iff_eq_none, ← Option.not_isSome, firstSlot_isSome]
  simp

/-- The next bowler found (R20), as one write of the lane and one of the squad. -/
theorem chooseNext_some {q : SquadId} {l : Lane} {s : State} {k : Nat}
    (h : firstLacking (s.squad q).round (s.squad q).order = some k) :
    chooseNext q l s = (s.setLane l { s.lane l with sup := { s.sup l with nextDeck := fullRack } }).setSquad q
      { s.squad q with slot := some k, ball := 1 } := by
  simp only [chooseNext, h]
  rfl

/-- No next bowler (R20): the Next Deck is a full rack and the round is complete. -/
theorem chooseNext_none {q : SquadId} {l : Lane} {s : State}
    (h : firstLacking (s.squad q).round (s.squad q).order = none) :
    chooseNext q l s = roundDone q l (s.setLane l { s.lane l with sup := { s.sup l with nextDeck := fullRack } }) := by
  simp only [chooseNext, h]
  rfl

/-- The squad records stand where shared operations say they stay. -/
theorem State.squad_of_squads {s t : State} (h : t.squads = s.squads) (q : SquadId) : t.squad q = s.squad q := by
  simp [State.squad, h]

/-- A frame round completes in SINGLE, after FRAME and the report (R21). -/
theorem roundDone_single {q : SquadId} {l : Lane} {s : State} (h : s.pairMode = .single) :
    roundDone q l s = roundDoneSingle q l (reportRound l (raiseLane .frame l s)) := by
  simp [roundDone, h]

/-- Settles O28: the branch of the choice, and in the second the branch of the round. -/
theorem rotationInSingle : Obligations.RotationInSingle := by
  unfold Obligations.RotationInSingle
  intro q l s v lacks rack
  have hlack : ∀ b : Bowler, (b.isActive && !frameComplete b.sheet v.round) = true ↔ lacks b := by
    simp [Bowler.isActive, lacks]
  refine ⟨fun i b hi hb hmin => ?_, fun hnone hm => ?_⟩
  · have hk : firstLacking v.round v.order = some (i + 1) := by
      refine firstSlot_eq_some.mpr ⟨i, b, by omega, hi, (hlack b).mpr hb, fun j c hj hc => ?_⟩
      exact Bool.eq_false_iff.mpr fun ht => hmin j c hj hc ((hlack c).mp ht)
    exact chooseNext_some hk
  · intro t0 t
    have hk : firstLacking v.round v.order = none :=
      firstSlot_eq_none.mpr fun b hb => Bool.eq_false_iff.mpr fun ht => hnone b hb ((hlack b).mp ht)
    have ht : reportRound l (raiseLane .frame l rack) = t := by
      have hst : ((raiseLane .frame l rack).lane l).state = (s.lane l).state := by simp [rack]
      simp only [reportRound, hst]
      rfl
    have htv : t.squad q = v := by rw [← ht]; simp [State.squad, rack, v]
    have hrun : chooseNext q l s = roundDoneSingle q l t := by
      rw [← ht, ← roundDone_single (by simpa [rack] using hm)]
      exact chooseNext_none hk
    rw [hrun, roundDoneSingle, htv]
    refine ⟨fun hr => ?_, fun hr => ?_⟩
    · rw [if_pos hr, modSquad_eq, htv]
      rfl
    · rw [if_neg (by omega), convertSquad, storeTotals, modSquad_eq, modSquad_eq, State.setSquad_squad_same,
        State.setSquad_setSquad, htv]
      rfl

/-! ### The end of a game -/

/-- A WAITING bowler converted, as one write of the status (R19, R21). -/
theorem convertWaiting_eq (b : Bowler) :
    convertWaiting b = { b with status :=
      if b.status = .waiting then (if b.blind = none then .active else .absent) else b.status } := by
  rcases b with ⟨_, _, blind, st, _, _, _, _, _⟩
  cases st <;> cases blind <;> rfl

/-- Another game is left (R21). -/
theorem moreGames_iff (g : Games) (n : Nat) : moreGames g n = true ↔ ∀ k, g = .count k → n < k := by
  cases g <;> simp [moreGames]

/-- An ACTIVE bowler is there. -/
theorem firstActive_isSome (order : List Bowler) : (firstActive order).isSome = true ↔ ∃ b ∈ order, b.status = .active := by
  simp [firstActive, firstSlot_isSome, Bowler.isActive]

/-- A game started on the squad's lane, as one write of the squad and one of the lane (R19). -/
theorem startSquadGame_eq (q : SquadId) (game : Nat) (s : State) :
    startSquadGame q game s =
      (s.setSquad q { s.squad q with
        state := .bowling, round := 1, ball := 1, game := game, order := (s.squad q).order.map freshGame
        slot := firstActive ((s.squad q).order.map freshGame) }).setLane (s.squad q).current
        { s.lane (s.squad q).current with
          reopen := none, sup := { s.sup (s.squad q).current with nextDeck := fullRack } } := by
  simp [startSquadGame, modSquad_eq, Squad.started, Squad.toRound, setReopen, writeNextDeck, modSup_eq, modLane_eq]

/-- Settles O29: the totals and the conversion by status, then what follows the game. -/
theorem gameEnd : Obligations.GameEnd := by
  unfold Obligations.GameEnd
  refine ⟨fun b => ?_, convertWaiting_eq, fun q l s => ?_⟩
  · rcases b with ⟨_, _, blind, st, _, _, _, _, _⟩
    cases st <;> rfl
  · intro v goesOn
    have hgo : ((s.lane l).state = .playing ∧ moreGames v.games v.game = true ∧ (firstActive v.order).isSome = true) ↔
        goesOn := by rw [moreGames_iff, firstActive_isSome]
    refine ⟨fun hno => (if_neg (mt hgo.mp hno)).trans ?_, fun hyes hcur => ?_⟩
    · rfl
    · intro fresh t
      have ht : startSquadGame q (saturate 255 v.game) s = t := by
        rw [startSquadGame_eq, show (s.squad q).current = l from hcur]
        rfl
      refine (if_pos (hgo.mpr hyes)).trans ?_
      have hacct : t.acct l = s.acct l := by simp [t, State.acct]
      have horder : (t.squad q).order = v.order.map fresh := by simp [t]
      rw [ht, creditShort, hacct, horder]
      rfl

end Sys2Proof.Machine

namespace Sys2Proof.Machine

/-! ### CLOSE_LANE -/

/-- A notice is raised before or after a lane is written. -/
theorem raiseNotice_setLane (k : NoticeKind) (sc : Scope) (s : State) (l : Lane) (r : LaneRec) :
    raiseNotice k sc (s.setLane l r) = (raiseNotice k sc s).setLane l r := by
  have hroute : ∀ p n u, routeNotice p n (State.setLane u l r) = (routeNotice p n u).setLane l r := by
    intro p n u
    unfold routeNotice
    split
    · cases p <;> rfl
    · rfl
  simp only [raiseNotice, hroute]

/-- A notice is raised before or after a squad is written. -/
theorem raiseNotice_setSquad (k : NoticeKind) (sc : Scope) (s : State) (q : SquadId) (v : Squad) :
    raiseNotice k sc (s.setSquad q v) = (raiseNotice k sc s).setSquad q v := by
  have hroute : ∀ p n u, routeNotice p n (State.setSquad u q v) = (routeNotice p n u).setSquad q v := by
    intro p n u
    unfold routeNotice
    split
    · cases p <;> rfl
    · rfl
  simp only [raiseNotice, hroute]

/-- The session summary by the account mode (R135). -/
theorem frozenSummary_eq (l : Lane) (a : Account) (now : Option ClockReading) :
    frozenSummary l a now =
      { lane := l, mode := a.mode, openTime := a.openTime, closeTime := now
        creditsLoaded := if a.mode = .game then a.creditsLoaded else 0
        creditsTaken := if a.mode = .game then a.creditsTaken else 0
        creditsRemaining := if a.mode = .game then a.gameCredit else 0
        minutesLoaded := if a.mode = .game then 0 else a.minutesLoaded
        minutesMetered := if a.mode = .game then 0 else a.minutesMetered
        timeRemaining := if a.mode = .game then 0 else a.timeCredit
        gameCharges := a.gameCharges, timePart := timePart a, total := sessionCharge a
        saturated := chargeSaturated a } := by
  cases h : a.mode <;> simp [frozenSummary, h]

/-- Steps 2 to 4 of CLOSE_LANE (R5), as one write of the lane and one of its squad. -/
theorem freezeAndAbandon_eq (l : Lane) (s : State) :
    abandonGame l (freezeSession l (setLaneState l .closing s)) =
      raiseNotice .closed (scopeOfLane l) ((s.setLane l { s.lane l with
        state := .closing
        summary := some (frozenSummary l (s.acct l) (clockReading s.clock))
        runTicks := 0
        acct := { s.acct l with phase := 0 }
        sup := { s.sup l with nextDeck := fullRack } }).setSquad (s.lane l).squad
        { s.squad (s.lane l).squad with state := .forming, slot := none }) := by
  have hq : ∀ k (t : State) q, (raiseNotice .closed k t).squad q = t.squad q := fun k t q => by simp [State.squad]
  simp only [abandonGame, freezeSession, raiseLane, setLaneState, writeNextDeck, modLane_eq, modSup_eq, modSquad_eq,
    State.sup, State.acct, State.setSquad_lane, hq, State.setLane_lane_same, State.setLane_clock,
    State.setLane_squad, State.setLane_setLane, State.setLane_setSquad, raiseNotice_setSquad,
    raiseNotice_setLane, Squad.formed]

theorem hasPendingFault_eq (u : Supervisor) : hasPendingFault u = (u.delivery.bind (·.pendingFault)).isSome := by
  cases h : u.delivery <;> simp [hasPendingFault, h]

/-- The delivery abandoned, and what closes the deck then, by the machine power state (R158). -/
theorem closingCycle_abandonDelivery (l : Lane) (s : State) :
    closingCycle l (abandonDelivery l s) =
      (let t := s.setLane l { s.lane l with sup := { s.sup l with delivery := none, settleTimer := none, deckTimer := none } }
       if (s.sup l).power = .running then issueCycle l .close .reset none t
       else if (s.sup l).power = .off then park l false t else enterRecover l t) := by
  have hp : ((abandonDelivery l s).sup l).power = (s.sup l).power := by simp [abandonDelivery]
  unfold closingCycle
  rw [hp]
  cases (s.sup l).power <;> rfl

/-- Settles O32: the checks, the steps of the close with the split before them in CROSS, and the close sequence by the
cycle state. -/
theorem laneClosing : Obligations.LaneClosing := by
  unfold Obligations.LaneClosing
  refine ⟨fun e l bad s h0 => ?request, fun l s => ?sequence⟩
  case request =>
    intro h open' closed
    have ha := deskOnly_of_taken h0
    have hses : (s.lane l).state.inSession = true ↔ open' := inSession_iff _
    have hclosed : ∀ t : State, t.clock = s.clock →
        closeSequence l (abandonGame l (freezeSession l (setLaneState l .closing t))) = closed t := by
      intro t ht
      rw [freezeAndAbandon_eq, frozenSummary_eq, ht]
      rfl
    refine ⟨refuses_of rfl h0 ha rfl, fun hi => refuses_of rfl h0 ha (by simp [withLane, closeBody, hses, hi]),
      fun hi => ?_⟩
    have hbody : closeEffect l h = if s.pairMode = .single then closed h else
        (let t := closed (splitRecords h)
         if (t.sup l.other).cycle = .gated ∨ (t.sup l.other).cycle = .armed then arm l.other t else t) := by
      have hm : h.pairMode = s.pairMode := by simp [h]
      rw [closeEffect, hm]
      cases s.pairMode
      · exact hclosed h (by simp [h])
      · simp only [reduceCtorEq, if_false, ← hclosed (splitRecords h) (by simp [h])]
        rfl
    rw [← hbody]
    exact completes_of rfl h0 ha (by simp [withLane, closeBody, hses, hi, done, h]) (by simp [h])
  case sequence =>
    intro u t closing
    have hc : closingCycle l (abandonDelivery l s) = closing := closingCycle_abandonDelivery l s
    have hpf : hasPendingFault u = (u.delivery.bind (·.pendingFault)).isSome := hasPendingFault_eq u
    unfold closeSequence
    rw [hc, show hasPendingFault (s.sup l) = _ from hpf, show u.cycle = (s.sup l).cycle from rfl]
    cases (s.sup l).cycle
    case recover => exact if_congr (and_congr_right fun _ => Option.isNone_iff_eq_none) rfl rfl
    all_goals rfl

end Sys2Proof.Machine

namespace Sys2Proof.Machine

/-! ### The supply and the external reset input -/

/-- A machine's link cut (R168, step 1), as one write of the lane. -/
theorem cutMachine_eq (l : Lane) (s : State) :
    cutMachine l s = s.setLane l { s.lane l with sup := { s.sup l with link := (s.sup l).link ++ [.stop, .powerOff] } } := by
  simp [cutMachine, sendMessage, modSup_eq]

/-- What a stopped core leaves (R168, steps 1 to 4). -/
theorem stopCore_eq (s : State) :
    stopCore s = { s with
      lanes := { a := { s.lanes.a with sup := { s.lanes.a.sup with link := s.lanes.a.sup.link ++ [.stop, .powerOff] } }
                 b := { s.lanes.b with sup := { s.lanes.b.sup with link := s.lanes.b.sup.link ++ [.stop, .powerOff] } } }
      ret := { s.ret with lift := .off }
      rates := { s.rates with programming := none }
      desk := s.desk.released, console := s.console.released, service := s.service.released } := by
  unfold stopCore
  rw [cutMachine_eq, cutMachine_eq]
  rfl

/-- A main failure by the supply state (R168, R169). -/
theorem takeMainFailure_eq (s : State) :
    takeMainFailure s = if s.supply.state = .main then countFailure (stopCore s)
      else { s with supply := { s.supply with mainBack := false } } := by
  unfold takeMainFailure
  split
  next h => exact (if_pos h).symm
  next h => exact (if_neg (by simp [h])).symm

/-- A main return by the supply state and the external reset input (R168, R169). -/
theorem takeMainReturn_eq (s : State) :
    takeMainReturn s = if s.supply.state = .main then s
      else if s.supply.resetAsserted = true then { s with supply := { s.supply with mainBack := true } }
      else startOf .mainReturn s := by
  unfold takeMainReturn
  split
  next h => exact (if_pos h).symm
  next h => exact (if_neg (by simp [h])).symm

/-- A release of the external reset input (R169). -/
theorem takeResetRelease_eq (s : State) :
    takeResetRelease s = if s.supply.resetAsserted = false then s
      else if s.supply.state = .main then startOf .resetInput s
      else if s.supply.mainBack = true then startOf .mainReturn s
      else { s with supply := { s.supply with resetAsserted := false } } := by
  unfold takeResetRelease
  by_cases ha : s.supply.resetAsserted = true
  · refine (if_pos ha).trans (Eq.trans ?_ (if_neg (by simp [ha])).symm)
    split
    next h => exact (if_pos h).symm
    next h => exact (if_neg (by simp [h])).symm
  · exact (if_neg ha).trans (if_pos (by simpa using ha)).symm

/-- Settles O56: the cold-start values, then each event by its conditions. -/
theorem supplyEvents : Obligations.SupplyEvents := by
  unfold Obligations.SupplyEvents
  refine ⟨fun s => rfl, fun s => ?_⟩
  intro p quiet cut stopped stamp starts
  refine ⟨congrArg _ ((takeMainFailure_eq s).trans (if_congr Iff.rfl ?_ rfl)), congrArg _ (takeMainReturn_eq s),
    congrArg _ (if_congr ?_ rfl rfl), congrArg _ (if_congr ?_ rfl rfl), rfl,
    congrArg _ (if_congr Iff.rfl ?_ rfl), congrArg _ (takeResetRelease_eq s)⟩
  · rw [countFailure, stopCore_eq]; rfl
  · simp [p]
  · simp [p]
  · rw [stopCore_eq]; rfl

/-! ### A start of the core -/

/-- The working entry that a stored one loads as (R152). -/
theorem loadedEntry_eq (n : Nat) (x : StoredEntry) :
    loadedEntry n x = if x.state = .good ∧ x.value.present = true then x.value
      else RateEntry.mk (decide (n = 0)) none 0 0 0 0 := by
  unfold loadedEntry entryOrFactory
  by_cases hx : x.state = .good ∧ x.value.present = true
  · simp [hx]
  · by_cases hn : n = 0 <;> simp [hx, hn, RateEntry.absent, RateEntry.factory]

/-- The load of the stored entries, numbered from `n` on (R152). -/
theorem loadFrom_eq (n : Nat) (store : List StoredEntry) :
    loadFrom n store = store.mapIdx fun i x => loadedEntry (n + i) x := by
  induction store generalizing n with
  | nil => rfl
  | cons x rest ih =>
    simp only [loadFrom, ih, List.mapIdx_cons, Nat.add_zero]
    congr 2
    funext i y
    rw [Nat.add_right_comm, Nat.add_assoc]

/-- A lane's record at a restart, before its cycle state is taken (R22, R75, R86, R138). -/
def LaneRec.restarted (deck : Leave) (r : LaneRec) : LaneRec :=
  { r with
    holds := if r.state = .closed then r.holds else restartHolds r.state r.holds
    reopen := none, runTicks := 0, sup := restartSupervisor deck r.sup }

/-- Whether a lane parks at a restart: CLOSING, under MACHINE or with its machine OFF (R76, R158). -/
abbrev LaneRec.parksAtStart (r : LaneRec) : Prop := r.state = .closing ∧ (r.holds.machine = true ∨ r.sup.power = .off)

/-- The supervisor that a start leaves on a lane of record `r` (R75, R76, R154). -/
def LaneRec.startedSup (deck : Leave) (r : LaneRec) : Supervisor :=
  let parks := r.state = .closing ∧ (r.holds.machine = true ∨ r.sup.power = .off)
  let wakes := r.state ≠ .closed ∧ ¬r.holds.machine = true ∧ ¬r.sup.power = .off
  { r.sup with
    cycle := if r.state = .closed ∨ parks then .parked else if r.holds.machine = true then .fault else .recover
    nextDeck := deck, latched := none, stale := false, foulPending := false, delivery := none
    cycleRec := none, settleTimer := none, deckTimer := none, watchdogTimer := none, idleTimer := none, testMark := false
    power := if r.sup.power = .off then .off else if wakes then .warming else .standby
    warmUpTimer := if wakes then some { startedAt := 0, length := 100 * r.sup.timing.warmUp } else none
    link := if wakes then r.sup.link ++ [.powerOn] else r.sup.link }

/-- The lane that a start leaves where it does not park (R22, R76). -/
def LaneRec.startedOpen (deck : Leave) (r : LaneRec) : LaneRec :=
  { r.restarted deck with sup := r.startedSup deck }

/-- The lane that a start leaves where it parks (R5, R158). -/
def LaneRec.startedParked (deck : Leave) (r : LaneRec) : LaneRec :=
  { r with
    state := .closed, holds := .none, reopen := none, runTicks := 0, sup := r.startedSup deck
    latchedFault := r.latchedFault || r.holds.machine, acct := .cleared }

section
variable {l : Lane} {t : State} {r : LaneRec} {deck : Leave}

/-- The cycle state is taken on a CLOSED lane. -/
theorem restartCycle_closed (hr : t.lane l = r.restarted deck) (hc : r.state = .closed) :
    restartCycle l t = t.setLane l (r.startedOpen deck) := by
  have hs : (t.lane l).state = .closed := by rw [hr]; exact hc
  have hsame : r.startedOpen deck = r.restarted deck := by
    simp [LaneRec.startedOpen, LaneRec.restarted, LaneRec.startedSup, restartSupervisor, hc]
  rw [restartCycle, if_pos hs, hsame, ← hr, State.setLane_self]

/-- The cycle state is taken on a lane that parks. -/
theorem restartCycle_parks (hr : t.lane l = r.restarted deck) (hp : r.parksAtStart) :
    restartCycle l t =
      (t.setLane l (r.startedParked deck)).setSquad r.squad (t.squad r.squad).closed := by
  obtain ⟨hs, hp⟩ := hp
  have hu : t.sup l = restartSupervisor deck r.sup := by rw [State.sup, hr]; rfl
  have hst : (t.lane l).state = .closing := by rw [hr]; exact hs
  have hm : (t.lane l).holds.machine = r.holds.machine := by
    rw [hr]; simp [LaneRec.restarted, restartHolds, hs]
  unfold restartCycle
  rw [if_neg (by simp [hst]), hm]
  by_cases hmach : r.holds.machine = true
  · rw [if_pos hmach, if_pos hst, park_eq, hr, hu]
    cases hpw : r.sup.power <;>
      simp [LaneRec.startedParked, LaneRec.restarted, LaneRec.startedSup, Supervisor.afterPark, Supervisor.parked,
        restartSupervisor, hs, hmach, hpw]
  · have hoff := hp.resolve_left hmach
    rw [if_neg hmach, enterRecover_eq, hu]
    simp only [restartSupervisor, hoff, if_true, hst]
    rw [park_eq]
    simp [hr, LaneRec.startedParked, LaneRec.restarted, LaneRec.startedSup, Supervisor.afterPark, Supervisor.parked,
        hs, hmach, hoff]

/-- The cycle state is taken on any other lane. -/
theorem restartCycle_open (hr : t.lane l = r.restarted deck) (ht : t.tick = 0) (hc : r.state ≠ .closed)
    (hp : ¬r.parksAtStart) : restartCycle l t = t.setLane l (r.startedOpen deck) := by
  have hu : t.sup l = restartSupervisor deck r.sup := by rw [State.sup, hr]; rfl
  have hst : (t.lane l).state = r.state := by rw [hr]; rfl
  have hm : (t.lane l).holds.machine = r.holds.machine := by
    rw [hr]; simp [LaneRec.restarted, restartHolds, hc]
  have hopen : ¬(r.state = .closed ∨ (r.state = .closing ∧ (r.holds.machine = true ∨ r.sup.power = .off))) :=
    fun h => h.elim hc hp
  unfold restartCycle
  rw [if_neg (by rw [hst]; exact hc), hm, hst]
  by_cases hmach : r.holds.machine = true
  · have hcl : r.state ≠ .closing := fun h => hp ⟨h, .inl hmach⟩
    rw [if_pos hmach, if_neg hcl, modSup_eq, hu, hr]
    simp [LaneRec.startedOpen, LaneRec.restarted, LaneRec.startedSup, restartSupervisor, hc, hcl, hmach]
  · rw [if_neg hmach, enterRecover_eq, hu, hst]
    by_cases hoff : r.sup.power = .off
    · have hcl : r.state ≠ .closing := fun h => hp ⟨h, .inr hoff⟩
      simp [restartSupervisor, hoff, hcl, hr, LaneRec.startedOpen, LaneRec.restarted, LaneRec.startedSup, hc, hmach]
    · simp only [restartSupervisor, hoff, if_false]
      rw [wake_eq]
      simp [hr, LaneRec.startedOpen, LaneRec.restarted, LaneRec.startedSup, hc, hmach, hoff, ht]

/-- The squads once the cycle state is taken: a lane that parks closes its squad. -/
theorem restartCycle_squad (hr : t.lane l = r.restarted deck) (ht : t.tick = 0) (q : SquadId) :
    (restartCycle l t).squad q = if r.parksAtStart ∧ r.squad = q then (t.squad q).closed else t.squad q := by
  by_cases hp : r.parksAtStart
  · rw [restartCycle_parks hr hp, State.setSquad_squad]
    by_cases hq : r.squad = q
    · subst hq; simp [hp]
    · simp [hq, Ne.symm hq]
  · by_cases hc : r.state = .closed
    · simp [restartCycle_closed hr hc, hc]
    · rw [restartCycle_open hr ht hc hp, if_neg (by simp [hp]), State.setLane_squad]

/-- The lane once its cycle state is taken. -/
theorem restartCycle_lane (hr : t.lane l = r.restarted deck) (ht : t.tick = 0) :
    (restartCycle l t).lane l = if r.parksAtStart then r.startedParked deck else r.startedOpen deck := by
  by_cases hp : r.parksAtStart
  · simp [restartCycle_parks hr hp, hp]
  · by_cases hc : r.state = .closed
    · simp [restartCycle_closed hr hc, hc]
    · rw [restartCycle_open hr ht hc hp, if_neg hp, State.setLane_lane_same]

end

@[simp] theorem restartCycle_frame (l : Lane) (s : State) :
    SameRest s (restartCycle l s) ∧ SamePorts s (restartCycle l s) ∧ (restartCycle l s).pairMode = s.pairMode ∧
    (restartCycle l s).ret = s.ret ∧ (restartCycle l s).rates = s.rates := by
  unfold restartCycle
  (repeat' split) <;> simp [SameRest, SamePorts]

@[simp] theorem restartCycle_lane_other (l : Lane) (s : State) :
    (restartCycle l s).lane l.other = s.lane l.other := by
  unfold restartCycle
  (repeat' split) <;> simp

/-- The state of a start before its cycle states are taken. -/
def startRecords (k : StartKind) (s : State) : State := restartLane .b (restartLane .a (loadRates (startCore k s)))

theorem startRecords_lane (k : StartKind) (s : State) (l : Lane) :
    (startRecords k s).lane l = (s.lane l).restarted (derivedDeck (s.squadOn l)) := by cases l <;> rfl

@[simp] theorem startRecords_squad (k : StartKind) (s : State) (q : SquadId) :
    (startRecords k s).squad q = s.squad q := rfl

@[simp] theorem startRecords_tick (k : StartKind) (s : State) : (startRecords k s).tick = 0 := rfl

theorem startOn_eq (k : StartKind) (s : State) : startOn k s = restartCycle .b (restartCycle .a (startRecords k s)) := rfl

/-- A lane that a start leaves (R22, R75, R76). -/
theorem startOn_lane (k : StartKind) (s : State) (l : Lane) :
    (startOn k s).lane l = if (s.lane l).parksAtStart then (s.lane l).startedParked (derivedDeck (s.squadOn l))
      else (s.lane l).startedOpen (derivedDeck (s.squadOn l)) := by
  rw [startOn_eq]
  cases l
  · exact (restartCycle_lane_other .b _).trans (restartCycle_lane (startRecords_lane k s .a) (by simp))
  · refine restartCycle_lane ?_ (by simp)
    exact (restartCycle_lane_other .a _).trans (startRecords_lane k s .b)

/-- A squad that a start leaves: the squad of a lane that parks is closed (R23, R158). -/
theorem startOn_squad (k : StartKind) (s : State) (q : SquadId) :
    (startOn k s).squad q =
      if ((s.lane .a).parksAtStart ∧ (s.lane .a).squad = q) ∨ ((s.lane .b).parksAtStart ∧ (s.lane .b).squad = q) then
        (s.squad q).closed else s.squad q := by
  have hb : (restartCycle .a (startRecords k s)).lane .b = (s.lane .b).restarted (derivedDeck (s.squadOn .b)) :=
    (restartCycle_lane_other .a _).trans (startRecords_lane k s .b)
  rw [startOn_eq, restartCycle_squad hb (by simp), restartCycle_squad (startRecords_lane k s .a) (by simp)]
  by_cases ha : (s.lane .a).parksAtStart ∧ (s.lane .a).squad = q <;>
    by_cases hbp : (s.lane .b).parksAtStart ∧ (s.lane .b).squad = q
  · rw [if_pos ha, if_pos hbp, if_pos (.inl ha), startRecords_squad]; rfl
  · rw [if_pos ha, if_neg hbp, if_pos (.inl ha), startRecords_squad]
  · rw [if_neg ha, if_pos hbp, if_pos (.inr hbp), startRecords_squad]
  · rw [if_neg ha, if_neg hbp, if_neg (by tauto), startRecords_squad]

/-- A state that keeps pair mode, clock, straps, key, free values and queue, with the tick count at 0. -/
theorem State.eq_restarted {s t : State} (hm : t.pairMode = s.pairMode) (hc : t.clock = s.clock)
    (hs : t.straps = s.straps) (hk : t.key = s.key) (ht : t.tick = 0) (hf : t.free = s.free)
    (hp : t.pending = s.pending) :
    t = { s with
      lanes := t.lanes, squads := t.squads, ret := t.ret, rates := t.rates, supply := t.supply, desk := t.desk
      console := t.console, service := t.service, address := t.address, tick := 0 } := by
  rw [← hm, ← hc, ← hs, ← hk, ← ht, ← hf, ← hp]

/-- Settles O57: what stands outside the lanes, then the squads, then each lane. -/
theorem startLeaves : Obligations.StartLeaves := by
  unfold Obligations.StartLeaves
  intro k s t power clock low started parks working
  have ht : t = restartCycle .b (restartCycle .a (startRecords k s)) := startOn_eq k s
  have hworking : loadFrom 0 s.rates.store = working := by
    rw [loadFrom_eq]
    congr 1
    funext n x
    rw [Nat.zero_add, loadedEntry_eq]
  refine ⟨?_, ?_, ?_, ?_, ?_, ?_, ?_, ?_, startOn_squad k s, fun l => ?_⟩
  case refine_1 =>
    refine State.eq_restarted ?_ ?_ ?_ ?_ ?_ ?_ ?_ <;> rw [ht] <;> simp only [restartCycle_frame] <;> rfl
  case refine_8 =>
    rw [ht]
    simp only [restartCycle_frame]
    rw [← hworking]
    rfl
  case refine_9 =>
    intro r q off machine wakes deck cycle sup
    have hdeck : derivedDeck (s.squadOn l) = deck := rfl
    have hsup : r.startedSup deck = sup := rfl
    have hl : t.lane l = if r.parksAtStart then r.startedParked deck else r.startedOpen deck := startOn_lane k s l
    refine ⟨fun hc => ?_, fun hc hp => hl.trans ((if_neg hp).trans ?_), fun hp => hl.trans (if_pos hp)⟩
    · rw [hl, if_neg (by simp [LaneRec.parksAtStart, hc])]
      simp [LaneRec.startedOpen, LaneRec.restarted, hc, hsup]
    · have hplays : r.state.plays = decide (r.state = .playing ∨ r.state = .grace) := by
        rw [Bool.eq_iff_iff, plays_iff, decide_eq_true_iff]
      simp only [LaneRec.startedOpen, LaneRec.restarted, restartHolds, if_neg hc, hsup, hplays]
  all_goals
    rw [ht]
    simp only [restartCycle_frame]
    rfl

end Sys2Proof.Machine

namespace Sys2Proof.Machine

/-! ### What leaves the games in progress alone

Most commands leave every record of chapters 1, 2 and 5 as it was, but for a credit taken, a reopen mark dropped, and a
lane that passes between PLAYING and GRACE. Those are `Quiet`; together with the parking of a CLOSING lane they are
`Calm`. -/

/-- What of a bowler the game in progress is judged by. -/
def Bowler.line (b : Bowler) : BowlerStatus × List FrameRec × List Nat := (b.status, b.sheet, b.pending)

/-- A squad's record, kept or changed in what the game in progress is not judged by. -/
structure SquadQuiet (v w : Squad) : Prop where
  home : w.home = v.home
  current : w.current = v.current
  state : w.state = v.state
  round : w.round = v.round
  slot : w.slot = v.slot
  ball : w.ball = v.ball
  lines : w.order.map Bowler.line = v.order.map Bowler.line

theorem SquadQuiet.refl (v : Squad) : SquadQuiet v v := ⟨rfl, rfl, rfl, rfl, rfl, rfl, rfl⟩

theorem SquadQuiet.trans {u v w : Squad} (h : SquadQuiet u v) (k : SquadQuiet v w) : SquadQuiet u w :=
  ⟨k.home.trans h.home, k.current.trans h.current, k.state.trans h.state, k.round.trans h.round, k.slot.trans h.slot,
    k.ball.trans h.ball, k.lines.trans h.lines⟩

/-- A closing cycle stands in the cycle record (R158). -/
def Supervisor.closes (u : Supervisor) : Prop := ∃ c ∈ u.cycleRec, c.purpose = .close

/-- A lane's records that games and hold sets are judged by, kept or harmlessly changed. -/
structure LaneQuiet (r t : LaneRec) : Prop where
  state : t.state = r.state ∨ (r.state.plays = true ∧ t.state.plays = true)
  squad : t.squad = r.squad
  reopen : t.reopen = r.reopen ∨ t.reopen = none
  deck : t.sup.nextDeck = r.sup.nextDeck
  closes : t.sup.closes → r.sup.closes ∨ r.state = .closing
  unheld : r.state = .closed → r.holds = .none → t.holds = .none

namespace LaneQuiet
variable {r t u : LaneRec}

theorem refl (r : LaneRec) : LaneQuiet r r := ⟨.inl rfl, rfl, .inl rfl, rfl, .inl, fun _ h => h⟩

theorem plays_eq (h : LaneQuiet r t) : t.state.plays = r.state.plays := by
  rcases h.state with h | ⟨h, h'⟩ <;> simp [*]

theorem closing_iff (h : LaneQuiet r t) : t.state = .closing ↔ r.state = .closing := by
  rcases h.state with h | ⟨h, h'⟩
  · rw [h]
  · constructor <;> intro hc <;> simp [hc, LaneState.plays] at h h'

theorem closed_iff (h : LaneQuiet r t) : t.state = .closed ↔ r.state = .closed := by
  rcases h.state with h | ⟨h, h'⟩
  · rw [h]
  · constructor <;> intro hc <;> simp [hc, LaneState.plays] at h h'

theorem trans (h : LaneQuiet r t) (k : LaneQuiet t u) : LaneQuiet r u where
  state := by
    rcases k.state with hk | ⟨hk, hk'⟩
    · rw [hk]; exact h.state
    · exact .inr ⟨h.plays_eq ▸ hk, hk'⟩
  squad := k.squad.trans h.squad
  reopen := by
    rcases k.reopen with hk | hk
    · rw [hk]; exact h.reopen
    · exact .inr hk
  deck := k.deck.trans h.deck
  closes := fun hc => (k.closes hc).elim h.closes fun hs => .inr (h.closing_iff.mp hs)
  unheld := fun hc hh => k.unheld (h.closed_iff.mpr hc) (h.unheld hc hh)

end LaneQuiet

/-- A step that leaves the games in progress, the supply and the Rate Store alone. -/
structure Quiet (s t : State) : Prop where
  mode : t.pairMode = s.pairMode
  squads : ∀ q, SquadQuiet (s.squad q) (t.squad q)
  lanes : ∀ l, LaneQuiet (s.lane l) (t.lane l)
  main : t.supply.state = s.supply.state
  retention : t.supply.retention = s.supply.retention
  store : t.rates.store = s.rates.store

theorem Quiet.refl (s : State) : Quiet s s := ⟨rfl, fun _ => .refl _, fun _ => .refl _, rfl, rfl, rfl⟩

theorem Quiet.trans {s t u : State} (h : Quiet s t) (k : Quiet t u) : Quiet s u :=
  ⟨k.mode.trans h.mode, fun q => (h.squads q).trans (k.squads q), fun l => (h.lanes l).trans (k.lanes l),
    k.main.trans h.main, k.retention.trans h.retention, k.store.trans h.store⟩

/-- Lanes, squads and pair mode as they were. -/
structure SameBoard (s t : State) : Prop where
  lanes : t.lanes = s.lanes
  squads : t.squads = s.squads
  mode : t.pairMode = s.pairMode

namespace SameBoard
variable {s t u : State}

theorem refl (s : State) : SameBoard s s := ⟨rfl, rfl, rfl⟩

theorem lane (h : SameBoard s t) (l : Lane) : t.lane l = s.lane l := by simp [State.lane, h.lanes]

theorem squad (h : SameBoard s t) (q : SquadId) : t.squad q = s.squad q := by simp [State.squad, h.squads]

theorem quiet (h : SameBoard s t) (hsup : t.supply = s.supply) (hst : t.rates.store = s.rates.store) : Quiet s t :=
  ⟨h.mode, fun q => by rw [h.squad]; exact .refl _, fun l => by rw [h.lane]; exact .refl _, by rw [hsup], by rw [hsup], hst⟩

end SameBoard

section
variable {l : Lane} {s : State}

/-- A lane rewritten quietly. -/
theorem quiet_modLane {f : LaneRec → LaneRec} (h : LaneQuiet (s.lane l) (f (s.lane l))) : Quiet s (modLane l f s) where
  mode := rfl
  squads := fun _ => .refl _
  main := rfl
  retention := rfl
  store := rfl
  lanes := fun k => by
    rw [modLane_lane]
    split
    next hk => subst hk; exact h
    next => exact .refl _

/-- A supervisor rewritten, its Next Deck kept and no closing cycle made. -/
theorem quiet_modSup {f : Supervisor → Supervisor} (hd : (f (s.sup l)).nextDeck = (s.sup l).nextDeck)
    (hc : (f (s.sup l)).closes → (s.sup l).closes ∨ (s.lane l).state = .closing) : Quiet s (modSup l f s) :=
  quiet_modLane ⟨.inl rfl, rfl, .inl rfl, hd, hc, fun _ h => h⟩

/-- An account rewritten. -/
theorem quiet_modAcct (f : Account → Account) : Quiet s (modAcct l f s) :=
  quiet_modLane ⟨.inl rfl, rfl, .inl rfl, rfl, .inl, fun _ h => h⟩

/-- A lane state that passes between PLAYING and GRACE. -/
theorem quiet_setLaneState {st : LaneState} (h : (s.lane l).state.plays = true) (h' : st.plays = true) :
    Quiet s (setLaneState l st s) :=
  quiet_modLane ⟨.inr ⟨h, h'⟩, rfl, .inl rfl, rfl, .inl,
    fun hc => absurd h (by simp [hc, LaneState.plays])⟩

end

/-- A squad rewritten in what the game in progress is not judged by. -/
theorem quiet_modSquad {q : SquadId} {f : Squad → Squad} {s : State} (h : SquadQuiet (s.squad q) (f (s.squad q))) :
    Quiet s (modSquad q f s) where
  mode := rfl
  squads := fun k => by
    rw [modSquad_squad]
    split
    next hk => subst hk; exact h
    next => exact .refl _
  lanes := fun _ => .refl _
  main := rfl
  retention := rfl
  store := rfl

theorem not_closes_of_none {u : Supervisor} (h : u.cycleRec = none) : ¬u.closes := by simp [Supervisor.closes, h]

/-! ### The shared operations that are quiet -/

theorem quiet_enterNotice (p : Port) (n : Notice) (s : State) : Quiet s (enterNotice p n s) :=
  SameBoard.quiet ⟨by simp, by simp, by simp⟩ (by simp) (by simp)

theorem quiet_raiseLane (k : NoticeKind) (l : Lane) (s : State) : Quiet s (raiseLane k l s) :=
  SameBoard.quiet ⟨by simp, by simp, by simp⟩ (by simp) (by simp)

theorem quiet_raisePair (k : NoticeKind) (s : State) : Quiet s (raisePair k s) :=
  SameBoard.quiet ⟨by simp, by simp, by simp⟩ (by simp) (by simp)

theorem quiet_sendMessage (l : Lane) (m : MachineMessage) (s : State) : Quiet s (sendMessage l m s) :=
  quiet_modSup rfl .inl

theorem quiet_startWatchdog (l : Lane) (s : State) : Quiet s (startWatchdog l s) := quiet_modSup rfl .inl

theorem quiet_wake (l : Lane) (s : State) : Quiet s (wake l s) := by
  unfold wake
  split
  · exact (quiet_modSup rfl .inl).trans (quiet_sendMessage l _ _)
  · exact .refl s

theorem quiet_powerDown (l : Lane) (s : State) : Quiet s (powerDown l s) := by
  unfold powerDown
  split
  · exact (quiet_modSup rfl .inl).trans (quiet_sendMessage l _ _)
  · exact .refl s

theorem quiet_restartIdle (l : Lane) (s : State) : Quiet s (restartIdle l s) := by
  unfold restartIdle
  split
  · exact quiet_modSup rfl .inl
  · exact .refl s

theorem quiet_modCounters (l : Lane) (f : Counters → Counters) (s : State) : Quiet s (modCounters l f s) :=
  quiet_modSup rfl .inl

theorem quiet_maintTest (l : Lane) (s : State) : Quiet s (maintTest l s) := by
  unfold maintTest
  dsimp only
  split
  · exact (quiet_modSup rfl .inl).trans (quiet_raiseLane _ l _)
  · exact .refl s

theorem quiet_countCycle (l : Lane) (s : State) : Quiet s (countCycle l s) :=
  (quiet_modCounters l _ s).trans (quiet_maintTest l _)

theorem quiet_setStale (l : Lane) (s : State) : Quiet s (setStale l s) := by
  unfold setStale
  split
  · exact .refl s
  · exact (quiet_modSup rfl .inl).trans (quiet_raiseLane _ l _)

/-- An empty hold set stays empty when a reason is taken out. -/
theorem HoldSet.none_put (h : Hold) : HoldSet.none.put h false = HoldSet.none := by cases h <;> rfl

theorem quiet_dropHold (l : Lane) (h : Hold) (s : State) : Quiet s (dropHold l h s) :=
  quiet_modLane ⟨.inl rfl, rfl, .inl rfl, rfl, .inl, fun _ hn => (congrArg (·.put h false) hn).trans (HoldSet.none_put h)⟩

theorem quiet_gate (l : Lane) (s : State) : Quiet s (gate l s) := quiet_modSup rfl .inl

theorem quiet_addHold (l : Lane) (h : Hold) (s : State) : Quiet s (addHold l h s) := by
  unfold addHold
  split
  · exact .refl s
  next hno =>
    have hq : Quiet s (modLane l (fun r => { r with holds := r.holds.put h true }) s) :=
      quiet_modLane ⟨.inl rfl, rfl, .inl rfl, rfl, .inl, fun hc => absurd (.inl hc) hno⟩
    dsimp only
    split
    · exact hq.trans (quiet_gate l _)
    · exact hq

/-- A cycle issued is quiet, a closing one in a CLOSING lane. -/
theorem quiet_issueCycle {l : Lane} {p : Purpose} {k : CycleKind} {x : Option Leave} {s : State}
    (h : p ≠ .close ∨ (s.lane l).state = .closing) : Quiet s (issueCycle l p k x s) := by
  refine Quiet.trans (quiet_modSup rfl ?_) ((quiet_sendMessage l _ _).trans (quiet_startWatchdog l _))
  rintro ⟨c, hc, hp⟩
  cases hc
  exact .inr (h.resolve_left (not_not.mpr hp))

/-- A bowler rewritten with the same line leaves the lines of the order. -/
theorem lines_setBowler {order : List Bowler} {n : Nat} {b c : Bowler} (hb : bowlerAt order n = some b)
    (hc : c.line = b.line) : (setBowler order n c).map Bowler.line = order.map Bowler.line := by
  obtain ⟨-, hget⟩ := bowlerAt_eq_some hb
  obtain ⟨hlt, hb'⟩ := List.getElem?_eq_some_iff.mp hget
  have hself := List.set_getElem_self (as := order.map Bowler.line) (i := n - 1) (by simpa using hlt)
  simpa [setBowler, List.map_set, hc, hb'] using hself

/-- Setting a bowler's charged-this-game flag. -/
theorem squadQuiet_chargeCurrent (v : Squad) : SquadQuiet v (chargeCurrent v) := by
  unfold chargeCurrent
  split
  next k b hk hb =>
    have hat : bowlerAt v.order k = some b := by simpa [Squad.currentBowler, hk] using hb
    exact ⟨rfl, rfl, rfl, rfl, rfl, rfl, lines_setBowler hat rfl⟩
  next => exact .refl v

end Sys2Proof.Machine

namespace Sys2Proof.Machine

/-! ### The arming decision and the supervisor's moves are quiet -/

theorem quiet_takeCredit (h : Lane) (q : SquadId) (s : State) : Quiet s (takeCredit h q s) :=
  (quiet_modAcct _).trans (quiet_modSquad (squadQuiet_chargeCurrent _))

theorem quiet_creditOut (h : Lane) (s : State) : Quiet s (creditOut h s) :=
  (quiet_addHold h .credit s).trans (quiet_raiseLane _ h _)

theorem quiet_armOrAlign (l : Lane) (s : State) : Quiet s (armOrAlign l s) := by
  unfold armOrAlign
  split
  · exact quiet_issueCycle (.inl (by decide))
  · exact quiet_modLane ⟨.inl rfl, rfl, .inr rfl, rfl, .inl, fun _ h => h⟩

theorem quiet_arm (l : Lane) (s : State) : Quiet s (arm l s) := by
  unfold arm
  split
  · split
    · split
      · exact (quiet_creditOut _ s).trans (quiet_gate l _)
      · exact (quiet_takeCredit _ _ s).trans (quiet_armOrAlign l _)
    · exact quiet_armOrAlign l s
  · exact quiet_gate l s

theorem quiet_decide52 (l : Lane) (s : State) : Quiet s (decide52 l s) := by
  unfold decide52
  split
  · exact quiet_arm l s
  · exact .refl s

theorem quiet_bowlerChanged (l : Lane) (s : State) : Quiet s (bowlerChanged l s) := by
  unfold bowlerChanged
  split
  · exact (quiet_modSup rfl .inl).trans (quiet_arm l _)
  · exact .refl s

theorem quiet_bothChanged (s : State) : Quiet s (bothChanged s) :=
  (quiet_bowlerChanged .a s).trans (quiet_bowlerChanged .b _)

theorem quiet_removeHold (l : Lane) (h : Hold) (s : State) : Quiet s (removeHold l h s) := by
  unfold removeHold
  split
  · dsimp only
    split
    · exact (quiet_dropHold l h s).trans (quiet_arm l _)
    · exact quiet_dropHold l h s
  · exact .refl s

/-- A supervisor with its cycle dropped. -/
theorem quiet_dropCycle {l : Lane} {f : Supervisor → Supervisor} {s : State}
    (hd : (f (s.sup l)).nextDeck = (s.sup l).nextDeck) (hc : (f (s.sup l)).cycleRec = none) : Quiet s (modSup l f s) :=
  quiet_modSup hd fun h => absurd h (not_closes_of_none hc)

theorem quiet_endTest (l : Lane) (faulted : Bool) (s : State) : Quiet s (endTest l faulted s) :=
  Quiet.trans (quiet_modLane ⟨.inl rfl, rfl, .inl rfl, rfl, fun h => absurd h (not_closes_of_none rfl), fun _ h => h⟩)
    (quiet_powerDown l _)

theorem quiet_noteFault (l : Lane) (cause : FaultCause) (s : State) : Quiet s (noteFault l cause s) :=
  (quiet_modSup rfl .inl).trans (quiet_raiseLane _ l _)

theorem quiet_reportRound (l : Lane) (s : State) : Quiet s (reportRound l s) := by
  unfold reportRound
  split
  · exact quiet_addHold l .time s
  · exact .refl s

theorem quiet_creditShort (l : Lane) (q : SquadId) (s : State) : Quiet s (creditShort l q s) := by
  unfold creditShort
  split
  · exact quiet_raiseLane _ l s
  · exact .refl s

theorem quiet_countMismatch (l : Lane) (e : BallEntry) (s : State) : Quiet s (countMismatch l e s) := by
  unfold countMismatch
  split
  · exact quiet_modCounters l _ s
  · exact .refl s

/-! ### Calm steps: quiet ones, and the parking of CLOSING lanes -/

/-- Steps that are quiet, or that take a CLOSING lane to CLOSED (R158). -/
inductive Calm : State → State → Prop where
  | quiet {s t : State} (h : Quiet s t) : Calm s t
  | park {l : Lane} {faulted : Bool} {s : State} (h : (s.lane l).state = .closing) : Calm s (park l faulted s)
  | trans {s t u : State} (h : Calm s t) (k : Calm t u) : Calm s u

theorem Calm.refl (s : State) : Calm s s := .quiet (.refl s)

theorem Quiet.then_calm {s t u : State} (h : Quiet s t) (k : Calm t u) : Calm s u := .trans (.quiet h) k

theorem Calm.then_quiet {s t u : State} (h : Calm s t) (k : Quiet t u) : Calm s u := .trans h (.quiet k)

section
variable {l : Lane} {s : State}

/-- A supervisor rewritten does not change its lane's state. -/
@[simp] theorem modSup_lane_state (l k : Lane) (f : Supervisor → Supervisor) (s : State) :
    ((modSup l f s).lane k).state = (s.lane k).state := by
  rw [modSup_lane]
  split
  next h => subst h; rfl
  next => rfl

theorem calm_recoverActs (l : Lane) (s : State) : Calm s (recoverActs l s) := by
  unfold recoverActs
  cases (s.sup l).power with
  | running => exact .quiet (quiet_issueCycle (.inl (by decide)))
  | standby => exact .quiet (quiet_wake l s)
  | warming => exact .refl s
  | off =>
    dsimp only
    split
    next h => exact .park h
    next => exact .refl s

theorem calm_enterRecover (l : Lane) (s : State) : Calm s (enterRecover l s) :=
  Quiet.then_calm (quiet_modSup rfl .inl) (calm_recoverActs l _)

theorem calm_closingCycle (h : (s.lane l).state = .closing) : Calm s (closingCycle l s) := by
  unfold closingCycle
  split
  · exact .quiet (quiet_issueCycle (.inr h))
  · exact .park h
  · exact calm_enterRecover l s

theorem calm_issueDelivery (l : Lane) (after : Leave) (sameFrame : Bool) (s : State) :
    Calm s (issueDelivery l after sameFrame s) := by
  have hq : Quiet s (modSup l (fun u => { u with delivery := none }) s) := quiet_modSup rfl .inl
  unfold issueDelivery
  dsimp only
  split
  · split
    · exact .quiet (hq.trans (quiet_issueCycle (.inl (by decide))))
    · exact .quiet (hq.trans (quiet_issueCycle (.inl (by decide))))
  · exact hq.then_calm (calm_enterRecover l _)

theorem calm_faultMove (l : Lane) (code : Nat) (s : State) : Calm s (faultMove l code s) := by
  have hf : Quiet s (modSup l Supervisor.faulted s) := quiet_dropCycle rfl rfl
  unfold faultMove
  split
  · exact .quiet ((quiet_modSup rfl .inl).trans (quiet_addHold l _ _))
  · split
    · exact .quiet (quiet_endTest l true s)
    · exact .quiet (quiet_modLane ⟨.inl rfl, rfl, .inl rfl, rfl, .inl, fun _ h => h⟩)
  · dsimp only
    split
    · exact .quiet (hf.trans (quiet_endTest l true _))
    next h => exact Quiet.then_calm (hf.trans (quiet_addHold l _ _)) (.park (by simpa using h))
    · exact .quiet (hf.trans (quiet_addHold l _ _))

theorem calm_closeSequence (h : (s.lane l).state = .closing) : Calm s (closeSequence l s) := by
  have hc : Calm s (closingCycle l (abandonDelivery l s)) :=
    Quiet.then_calm (quiet_modSup rfl .inl) (calm_closingCycle (by simpa [abandonDelivery] using h))
  unfold closeSequence
  split
  · exact .park h
  · exact .park h
  · exact .park h
  · exact hc
  · exact hc
  · split
    · exact .park h
    · exact hc
  · exact .refl s
  · split
    · exact .park h
    · exact .refl s
  · exact .park h

end

/-! ### What every event ends with -/

theorem quiet_syncIdle (l : Lane) (s : State) : Quiet s (syncIdle l s) := by
  unfold syncIdle
  dsimp only
  split
  · split
    · exact .refl s
    · exact quiet_modSup rfl .inl
  · exact quiet_modSup rfl .inl

theorem quiet_bumpSerial (s : State) (l : Lane) (t : State) : Quiet t (bumpSerial s l t) := by
  unfold bumpSerial
  split
  · exact .refl t
  · exact quiet_modLane ⟨.inl rfl, rfl, .inl rfl, rfl, .inl, fun _ h => h⟩

theorem quiet_settle (s t : State) : Quiet t (settle s t) :=
  (quiet_syncIdle .a t).trans ((quiet_syncIdle .b _).trans ((quiet_bumpSerial s .a _).trans (quiet_bumpSerial s .b _)))

/-- Rewriting a port is quiet. -/
theorem quiet_modPort (p : Port) (f : PortState → PortState) (s : State) : Quiet s (modPort p f s) :=
  SameBoard.quiet ⟨by simp, by simp, by simp⟩ (by simp) (by simp)

theorem quiet_beginRequest (p : Port) (code tag : Byte) (s : State) : Quiet s (beginRequest p code tag s) :=
  quiet_modPort p _ s

theorem quiet_answerRequest (p : Port) (status : Status) (body : List Byte) (s : State) :
    Quiet s (answerRequest p status body s) := by
  unfold answerRequest
  split
  · exact quiet_modPort p _ s
  · exact .refl s

theorem quiet_portBusy (e : Envelope) (code : Byte) (s : State) : Quiet s (portBusy e code s) := by
  unfold portBusy
  split
  · split <;> exact quiet_modPort _ _ s
  · exact quiet_modPort _ _ s

end Sys2Proof.Machine

namespace Sys2Proof.Machine

/-! ### The events of machines, sensors and timers that are calm -/

section
variable {l : Lane} {s : State} {c : CycleRec}

theorem calm_runsNow (l : Lane) (s : State) : Calm s (runsNow l s) := by
  unfold runsNow
  split
  · exact .quiet (quiet_arm l s)
  · split
    · exact .quiet (quiet_issueCycle (.inl (by decide)))
    · exact .refl s
  · split
    · exact .quiet (quiet_issueCycle (.inl (by decide)))
    · exact .refl s
  · exact .refl s

theorem calm_takeWarm (l : Lane) (s : State) : Calm s (takeWarm l s) := by
  unfold takeWarm
  split
  · exact Quiet.then_calm (quiet_modSup rfl .inl) (calm_runsNow l _)
  · exact .refl s

/-- The cycle under way is the one of the cycle record. -/
theorem cycleRec_of_underWay {u : Supervisor} (h : cycleUnderWay u = some c) : u.cycleRec = some c := by
  unfold cycleUnderWay at h
  split at h
  · exact h
  · cases h

/-- A cycle record rewritten under its purpose makes no closing cycle. -/
theorem quiet_sameCycle {f : Supervisor → Supervisor} (h : (s.sup l).cycleRec = some c)
    (hd : (f (s.sup l)).nextDeck = (s.sup l).nextDeck) (hp : ∀ d ∈ (f (s.sup l)).cycleRec, d.purpose = c.purpose) :
    Quiet s (modSup l f s) :=
  quiet_modSup hd fun ⟨d, hm, hcl⟩ => .inl ⟨c, h, hp d hm ▸ hcl⟩

theorem quiet_latch (h : (s.sup l).cycleRec = some c) : Quiet s (latch l c s) := by
  have hq : Quiet s (sendMessage l (.spot (spotLeave c (s.sup l).nextDeck)) (modSup l (fun u =>
      { u with latched := some (spotLeave c (s.sup l).nextDeck), cycleRec := some { c with latched := true } }) s)) :=
    Quiet.trans (quiet_sameCycle h rfl (by simp)) (quiet_sendMessage l _ _)
  unfold latch
  dsimp only
  split
  · exact hq.trans (quiet_modSup rfl .inl)
  · exact hq.trans (quiet_setStale l _)

theorem quiet_takeRespot (l : Lane) (s : State) : Quiet s (takeRespot l s) := by
  unfold takeRespot
  split
  next c h =>
    split
    · exact .refl s
    · exact quiet_latch (cycleRec_of_underWay h)
  next => exact .refl s

theorem quiet_endCycle (l : Lane) (c : CycleRec) (s : State) : Quiet s (endCycle l c s) := by
  have hq : Quiet s (countCycle l (modSup l (fun u => { u with watchdogTimer := none }) s)) :=
    Quiet.trans (quiet_modSup rfl .inl) (quiet_countCycle l _)
  unfold endCycle
  dsimp only
  split
  · exact hq.trans (quiet_dropCycle rfl rfl)
  · exact (hq.trans ((quiet_modSup rfl .inl).trans (quiet_setStale l _))).trans (quiet_dropCycle rfl rfl)

theorem quiet_afterTest (l : Lane) (s : State) : Quiet s (afterTest l s) := by
  have hq : Quiet s (modSup l (fun u => { u with testMark := false }) s) := quiet_modSup rfl .inl
  unfold afterTest
  split
  · exact quiet_endTest l false s
  · dsimp only
    split
    · exact hq.trans (quiet_modSup rfl .inl)
    · exact hq.trans (quiet_arm l _)

theorem quiet_afterPurpose {p : Purpose} (h : p ≠ .close) : Quiet s (afterPurpose l p s) := by
  cases p with
  | close => exact absurd rfl h
  | recovery => exact (quiet_dropHold l _ s).trans ((quiet_dropHold l _ _).trans (quiet_arm l _))
  | test => exact quiet_afterTest l s
  | delivery | align | resetDeck => exact quiet_arm l s

theorem calm_afterClosing (h : (s.lane l).state = .closing) : Calm s (afterClosing l c s) := by
  unfold afterClosing
  split
  · exact .park h
  · exact Quiet.then_calm (quiet_modSup rfl .inl) (calm_closingCycle (by simpa using h))

theorem quiet_countFault (l : Lane) (s : State) : Quiet s (countFault l s) := quiet_modCounters l _ s

theorem calm_takeMachineFault (l : Lane) (code : Byte) (s : State) : Calm s (takeMachineFault l code s) :=
  Quiet.then_calm ((quiet_countFault l s).trans (quiet_noteFault l _ _)) (calm_faultMove l _ _)

theorem quiet_takeDetection (l : Lane) (s : State) : Quiet s (takeDetection l s) := by
  unfold takeDetection
  split
  · exact quiet_modSup rfl .inl
  · unfold deadBall
    dsimp only
    split
    · exact quiet_raiseLane _ l s
    · exact (quiet_raiseLane _ l s).trans ((quiet_wake l _).trans (quiet_restartIdle l _))

theorem quiet_takeFoul (l : Lane) (s : State) : Quiet s (takeFoul l s) := by
  unfold takeFoul
  split
  · split
    · exact quiet_modSup rfl .inl
    · exact quiet_modSup rfl .inl
    · exact .refl s
  · exact .refl s

theorem quiet_readDeck (l : Lane) (s : State) : Quiet s (readDeck l s) := by
  unfold readDeck
  split
  · exact quiet_sendMessage l _ s
  · exact .refl s

theorem quiet_takeSettle (l : Lane) (s : State) : Quiet s (takeSettle l s) := by
  unfold takeSettle
  split
  · exact (quiet_modSup rfl .inl).trans (quiet_readDeck l _)
  · exact .refl s

theorem quiet_takeDeckLimit (l : Lane) (s : State) : Quiet s (takeDeckLimit l s) := by
  unfold takeDeckLimit
  split
  · split
    · exact (quiet_modSup rfl .inl).trans (quiet_readDeck l _)
    · exact (quiet_modSup rfl .inl).trans ((quiet_addHold l _ _).trans ((quiet_raiseLane _ l _).trans
        (quiet_modCounters l _ _)))
  · exact .refl s

theorem quiet_retryCycle (h : (s.sup l).cycleRec = some c) : Quiet s (retryCycle l c s) := by
  have hstop : ((sendMessage l .stop s).sup l).cycleRec = some c := by simpa [sendMessage] using h
  refine (quiet_sendMessage l .stop s).trans (Quiet.trans (quiet_sameCycle hstop rfl ?_)
    ((quiet_sendMessage l _ _).trans (quiet_startWatchdog l _)))
  simp

theorem calm_watchdogFault (l : Lane) (s : State) : Calm s (watchdogFault l s) :=
  Quiet.then_calm ((quiet_sendMessage l _ s).trans (Quiet.trans (quiet_dropCycle rfl rfl)
    ((quiet_modCounters l _ _).trans (quiet_noteFault l _ _)))) (calm_faultMove l _ _)

theorem calm_takeWatchdog (l : Lane) (s : State) : Calm s (takeWatchdog l s) := by
  unfold takeWatchdog
  split
  next c h =>
    split
    · exact .quiet (quiet_retryCycle (cycleRec_of_underWay h))
    · exact calm_watchdogFault l s
  next => exact .refl s

theorem quiet_free (n : Nat) (s : State) : Quiet s { s with free := n } := SameBoard.quiet ⟨rfl, rfl, rfl⟩ rfl rfl

theorem calm_takeWarmUp (l : Lane) (s : State) : Calm s (takeWarmUp l s) := by
  have hq : Quiet s (sendMessage l .powerOff (modSup l (fun u => { u with power := .standby, warmUpTimer := none }) s)) :=
    Quiet.trans (quiet_modSup rfl .inl) (quiet_sendMessage l _ _)
  have hf := (hq.trans (quiet_countFault l _)).trans (quiet_noteFault l .warmUp _)
  unfold takeWarmUp
  split
  · exact (hf.trans (quiet_free (s.free + 1) _)).then_calm (calm_faultMove l _ _)
  · exact .refl s

theorem quiet_takeIdle (l : Lane) (s : State) : Quiet s (takeIdle l s) := by
  have hq : Quiet s (sendMessage l .powerOff (modSup l (fun u => { u with power := .standby, idleTimer := none }) s)) :=
    Quiet.trans (quiet_modSup rfl .inl) (quiet_sendMessage l _ _)
  unfold takeIdle
  split
  · dsimp only
    split
    · exact hq.trans (quiet_gate l _)
    · exact hq
  · exact .refl s

end

/-! ### The return, the meter, the ports and the clock are quiet -/

theorem quiet_modReturn (f : ReturnMonitor → ReturnMonitor) (s : State) : Quiet s (modReturn f s) :=
  SameBoard.quiet ⟨rfl, rfl, rfl⟩ rfl rfl

theorem quiet_addReturnHolds (s : State) : Quiet s (addReturnHolds s) :=
  (quiet_addHold .a .ret s).trans (quiet_addHold .b .ret _)

theorem quiet_removeReturnHolds (s : State) : Quiet s (removeReturnHolds s) :=
  (quiet_removeHold .a .ret s).trans (quiet_removeHold .b .ret _)

theorem quiet_joinQueue (l : Lane) (s : State) : Quiet s (joinQueue l s) := by
  unfold joinQueue
  split
  · exact quiet_modReturn _ s
  · exact (quiet_modReturn _ s).trans ((quiet_addReturnHolds _).trans (quiet_raisePair _ _))

theorem quiet_takePitExit (l : Lane) (s : State) : Quiet s (takePitExit l s) := by
  unfold takePitExit
  cases s.ret.state with
  | idle => exact quiet_modReturn _ s
  | carrying | clearing | jammed => exact quiet_joinQueue l s
  | fault | off => exact .refl s

theorem quiet_takeArrival (s : State) : Quiet s (takeArrival s) := by
  unfold takeArrival
  cases s.ret.state with
  | idle => exact quiet_modReturn _ s
  | carrying =>
    dsimp only
    split <;> exact quiet_modReturn _ s
  | clearing => exact quiet_modReturn _ s
  | jammed => exact (quiet_modReturn _ s).trans ((quiet_removeReturnHolds _).trans (quiet_raisePair _ _))
  | fault | off => exact .refl s

theorem quiet_takeRunOn (s : State) : Quiet s (takeRunOn s) := by
  unfold takeRunOn
  split
  · exact quiet_modReturn _ s
  · exact .refl s

theorem quiet_takeTransit (s : State) : Quiet s (takeTransit s) := by
  unfold takeTransit
  split
  · exact quiet_modReturn _ s
  · exact .refl s

theorem quiet_takeReverseEnd (s : State) : Quiet s (takeReverseEnd s) := by
  unfold takeReverseEnd
  split
  · exact quiet_modReturn _ s
  · exact .refl s

theorem quiet_takeForwardEnd (s : State) : Quiet s (takeForwardEnd s) := by
  unfold takeForwardEnd
  split
  · split
    · exact quiet_modReturn _ s
    · exact (quiet_modReturn _ s).trans ((quiet_addReturnHolds _).trans (quiet_raisePair _ _))
  · exact .refl s

theorem quiet_emptyReturn (st : ReturnState) (s : State) : Quiet s (emptyReturn st s) := by
  unfold emptyReturn
  dsimp only
  split
  · exact (quiet_modReturn _ s).trans ((quiet_removeReturnHolds _).trans (quiet_raisePair _ _))
  · exact quiet_modReturn _ s

theorem quiet_applyLimit (limit : Option Byte) (s : State) : Quiet s (applyLimit limit s) := by
  unfold applyLimit
  split
  · exact (quiet_modReturn _ s).trans (quiet_takeTransit _)
  · exact .refl s

theorem quiet_applyPower (power : Option OnOff) (s : State) : Quiet s (applyPower power s) := by
  unfold applyPower
  split
  · split
    · exact .refl s
    · exact quiet_emptyReturn _ s
  · split
    · exact quiet_modReturn _ s
    · exact .refl s
  · exact .refl s

theorem quiet_warnMinute (l : Lane) (s : State) : Quiet s (warnMinute l s) := by
  unfold warnMinute
  dsimp only
  split
  · exact (quiet_modAcct _).trans (quiet_raiseLane _ l _)
  · exact .refl s

theorem quiet_exhaustMinute (l : Lane) (s : State) : Quiet s (exhaustMinute l s) := by
  unfold exhaustMinute
  split
  · dsimp only
    split
    next h => exact (quiet_raiseLane _ l s).trans (quiet_setLaneState (by simp [h, LaneState.plays]) rfl)
    · exact (quiet_raiseLane _ l s).trans (quiet_addHold l _ _)
  · exact .refl s

theorem quiet_runSecond (l : Lane) (s : State) : Quiet s (runSecond l s) := by
  have hq : Quiet s (modLane l (fun r => { r with runTicks := 0 }) s) :=
    quiet_modLane ⟨.inl rfl, rfl, .inl rfl, rfl, .inl, fun _ h => h⟩
  unfold runSecond
  split
  · dsimp only
    split
    · exact hq.trans (quiet_modAcct _)
    · exact (hq.trans (quiet_modAcct _)).trans ((quiet_warnMinute l _).trans (quiet_exhaustMinute l _))
  · exact .refl s

theorem quiet_bytesUnderHold (s : State) : Quiet s (bytesUnderHold s) := by
  unfold bytesUnderHold
  split
  · exact quiet_modPort _ _ s
  · exact .refl s

theorem quiet_takeSelectRise (s : State) : Quiet s (takeSelectRise s) := by
  unfold takeSelectRise
  split
  · exact quiet_modPort _ _ s
  · exact .refl s

theorem quiet_takeTurnaround (p : Port) (s : State) : Quiet s (takeTurnaround p s) := by
  unfold takeTurnaround
  split
  · split
    · exact quiet_modPort _ _ s
    · exact .refl s
  · split
    · exact .refl s
    · exact quiet_modPort _ _ s

theorem quiet_takeReplySent (p : Port) (s : State) : Quiet s (takeReplySent p s) := by
  unfold takeReplySent
  split <;> split
  · exact quiet_modPort _ _ s
  · exact .refl s
  · exact quiet_modPort _ _ s
  · exact .refl s

theorem quiet_reevaluate (s : State) : Quiet s (reevaluate s) := by
  unfold reevaluate
  dsimp only
  split
  · exact .refl s
  · have hq : Quiet s (modRates (fun r => { r with inEffect := chosenEntry s.rates.working s.clock }) s) :=
      SameBoard.quiet ⟨rfl, rfl, rfl⟩ rfl rfl
    exact hq.trans (quiet_raisePair _ _)

theorem quiet_writeWorking (n : Nat) (v : RateEntry) (s : State) : Quiet s (writeWorking n v s) :=
  SameBoard.quiet ⟨rfl, rfl, rfl⟩ rfl rfl

theorem quiet_endProgramming (n : Nat) (st : Status) (s : State) : Quiet s (endProgramming n st s) := by
  have hq : Quiet s (modRates (fun r => { r with programming := none }) s) := SameBoard.quiet ⟨rfl, rfl, rfl⟩ rfl rfl
  exact hq.trans ((quiet_answerRequest _ _ _ _).trans (quiet_reevaluate _))

theorem quiet_takeKeyRelease (s : State) : Quiet s (takeKeyRelease s) := by
  have hq : Quiet s { s with key := false } := SameBoard.quiet ⟨rfl, rfl, rfl⟩ rfl rfl
  unfold takeKeyRelease
  dsimp only
  split
  · exact hq.trans ((quiet_writeWorking _ _ _).trans (quiet_endProgramming _ _ _))
  · exact hq

theorem quiet_takeClockSecond (s : State) : Quiet s (takeClockSecond s) := by
  have hq : Quiet s { s with clock := s.clock.advance } := SameBoard.quiet ⟨rfl, rfl, rfl⟩ rfl rfl
  unfold takeClockSecond
  split
  · dsimp only
    split
    · exact hq.trans (quiet_reevaluate _)
    · exact hq
  · exact .refl s

theorem quiet_takeCrystalStop (s : State) : Quiet s (takeCrystalStop s) := by
  have hq : Quiet s { s with clock := { s.clock with crystal := false, valid := false } } :=
    SameBoard.quiet ⟨rfl, rfl, rfl⟩ rfl rfl
  unfold takeCrystalStop
  dsimp only
  split
  · exact hq.trans ((quiet_reevaluate _).trans (quiet_raisePair _ _))
  · exact hq

/-- A supply record rewritten but for its state and its retention mark. -/
theorem quiet_supply {v : Supply} {s : State} (hm : v.state = s.supply.state) (hr : v.retention = s.supply.retention) :
    Quiet s { s with supply := v } := ⟨rfl, fun _ => .refl _, fun _ => .refl _, hm, hr, rfl⟩

theorem quiet_takeBatteryLow (s : State) : Quiet s (takeBatteryLow s) := by
  have hq : Quiet s { s with supply := { s.supply with batteryLow := true } } := quiet_supply rfl rfl
  unfold takeBatteryLow
  dsimp only
  split
  · exact hq.trans (quiet_raisePair _ _)
  · exact hq

theorem laneQuiet_tickLane (r : LaneRec) : LaneQuiet r (tickLane r) := by
  unfold tickLane
  split
  · exact ⟨.inl rfl, rfl, .inl rfl, rfl, .inl, fun _ h => h⟩
  · exact .refl r

theorem quiet_idleTick (s : State) : Quiet s (idleTick s) := by
  unfold idleTick
  split
  · refine ⟨rfl, fun _ => .refl _, fun l => ?_, rfl, rfl, rfl⟩
    cases l <;> exact laneQuiet_tickLane _
  · exact .refl s

end Sys2Proof.Machine

namespace Sys2Proof.Machine

/-! ### The requests that are calm -/

/-- A request whose own part is calm. -/
def CalmBody (body : State → Answer) : Prop := ∀ s, Calm s (body s).state

theorem calmBody_withLane {f : Lane → State → Answer} (h : ∀ l, CalmBody (f l)) (c : Coded Lane) :
    CalmBody (withLane c f) := by
  cases c with
  | val l => exact h l
  | bad _ => exact .refl

theorem calmBody_withSelector {f : State → Answer} (h : CalmBody f) (x : Option Byte) : CalmBody (withSelector x f) := by
  cases x with
  | none => exact h
  | some _ => exact .refl

theorem calmBody_pause (l : Lane) : CalmBody (pauseBody l) := by
  intro s
  unfold pauseBody
  split
  · exact .quiet (quiet_addHold l _ s)
  · exact .refl s

theorem calmBody_resume (fromDesk : Bool) (l : Lane) : CalmBody (resumeBody fromDesk l) := by
  intro s
  unfold resumeBody
  split
  · exact .refl s
  · cases fromDesk
    · exact .quiet (quiet_removeHold l _ s)
    · exact .quiet ((quiet_removeHold l _ s).trans (quiet_removeHold l _ _))

theorem calmBody_addCredit (amount : BitVec 16) (l : Lane) : CalmBody (addCreditBody amount l) := by
  intro s
  have hq : ∀ n, Quiet s (addCreditEffect l n s) := by
    intro n
    unfold addCreditEffect
    dsimp only
    split
    · exact (quiet_modAcct _).trans (quiet_removeHold l _ _)
    · exact quiet_modAcct _
  unfold addCreditBody
  split
  · exact .refl s
  split
  · exact .refl s
  split
  · exact .refl s
  · exact .quiet (hq _)

/-- Time added is quiet: GRACE gives way to PLAYING (R126). -/
theorem quiet_addTimeEffect (l : Lane) (n : Nat) (s : State) : Quiet s (addTimeEffect l n s) := by
  rw [addTimeEffect_eq]
  dsimp only
  have hq : Quiet s (modLane l (fun r => { r with
      state := if 1 ≤ n ∧ (s.lane l).state = .grace then .playing else (s.lane l).state
      acct := { s.acct l with
        timeCredit := (s.acct l).timeCredit + n
        minutesLoaded := (s.acct l).minutesLoaded + n
        warned := if 1 ≤ n ∧ (s.acct l).warn < (s.acct l).timeCredit + n then false else (s.acct l).warned } }) s) := by
    refine quiet_modLane ⟨?_, rfl, .inl rfl, rfl, .inl, fun _ h => h⟩
    dsimp only
    split
    next h => exact .inr ⟨by simp [h.2, LaneState.plays], rfl⟩
    next => exact .inl rfl
  split
  · exact hq.trans (quiet_removeHold l _ _)
  · exact hq

theorem calmBody_addTime (amount : BitVec 16) (l : Lane) : CalmBody (addTimeBody amount l) := by
  intro s
  unfold addTimeBody
  split
  · exact .refl s
  split
  · exact .refl s
  split
  · exact .refl s
  · exact .quiet (quiet_addTimeEffect l _ s)

theorem calmBody_readSession (l : Lane) : CalmBody (readSessionBody l) := by
  intro s
  unfold readSessionBody
  split <;> exact .refl s

theorem calmBody_readSheet (part : Nat) (l : Lane) : CalmBody (readSheetBody part l) := by
  intro s
  unfold readSheetBody
  split <;> exact .refl s

theorem calmBody_bowlerReady (l : Lane) : CalmBody (bowlerReadyBody l) := by
  intro s
  unfold bowlerReadyBody
  split
  · exact .refl s
  split
  · exact .refl s
  · exact .quiet ((quiet_wake l s).trans (quiet_restartIdle l _))

theorem calmBody_foulDetect (enable : Coded OnOff) (l : Lane) : CalmBody (foulDetectBody enable l) := by
  intro s
  cases enable with
  | val v =>
    have hq : Quiet s (setFoulDetect l (v == .on) s) :=
      quiet_modLane ⟨.inl rfl, rfl, .inl rfl, rfl, .inl, fun _ h => h⟩
    exact .quiet hq
  | bad _ => exact .refl s

theorem calmBody_resetDeck (l : Lane) : CalmBody (resetDeckBody l) := by
  intro s
  unfold resetDeckBody
  split
  · exact .quiet (quiet_issueCycle (.inl (by decide)))
  · exact .refl s

theorem calmBody_rateSet (entry : Byte) (value : RateFields) : CalmBody (rateSetBody entry value) := by
  intro s
  unfold rateSetBody
  split
  · exact .refl s
  · split
    · exact .refl s
    · exact .quiet ((quiet_writeWorking _ _ s).trans (quiet_reevaluate _))

theorem calmBody_rateClear (entry : Byte) : CalmBody (rateClearBody entry) := by
  intro s
  unfold rateClearBody
  split
  · exact .refl s
  · exact .quiet ((quiet_writeWorking _ _ s).trans (quiet_reevaluate _))

theorem calmBody_readStored : CalmBody readStoredBody := by
  intro s
  unfold readStoredBody
  split <;> exact .refl s

theorem calmBody_clockSet (weekday hour minute second : Byte) : CalmBody (clockSetBody weekday hour minute second) := by
  intro s
  unfold clockSetBody
  split
  · exact .refl s
  split
  · exact .refl s
  · have hq : Quiet s (setClock weekday.toNat hour.toNat minute.toNat second.toNat s) :=
      SameBoard.quiet ⟨rfl, rfl, rfl⟩ rfl rfl
    exact .quiet (hq.trans (quiet_reevaluate _))

theorem calmBody_clearFault (l : Lane) : CalmBody (clearFaultBody l) := by
  intro s
  unfold clearFaultBody
  split
  · exact .refl s
  split
  · exact .refl s
  · exact calm_enterRecover l s

theorem calmBody_setTiming (lanes : Coded LaneChoice) (f : TimingFields) : CalmBody (setTimingBody lanes f) := by
  have hq : ∀ l s, Quiet s (setTimingOf f l s) := fun l s => quiet_modSup rfl .inl
  intro s
  cases lanes with
  | bad _ => exact .refl s
  | val c =>
    cases c with
    | a | b => exact .quiet (hq _ s)
    | both => exact .quiet ((hq .a s).trans (hq .b _))

theorem quiet_stopCycle (l : Lane) (s : State) : Quiet s (stopCycle l s) := by
  unfold stopCycle
  split
  · exact Quiet.trans (quiet_dropCycle rfl rfl) (quiet_sendMessage l _ _)
  · exact .refl s

theorem calm_offMove (l : Lane) (s : State) : Calm s (offMove l s) := by
  unfold offMove
  split
  · exact .quiet (quiet_gate l s)
  · split
    · exact .quiet (quiet_dropCycle rfl rfl)
    · exact calm_enterRecover l s
  · exact calm_recoverActs l s
  · exact .refl s

theorem calm_machineOff (l : Lane) (s : State) : Calm s (machineOff l s) := by
  have hq : Quiet s (modSup l (fun u =>
      { u with power := .off, warmUpTimer := none, idleTimer := none, testMark := false }) (stopCycle l s)) :=
    (quiet_stopCycle l s).trans (quiet_modSup rfl .inl)
  exact (hq.trans ((quiet_sendMessage l _ _).trans (quiet_addHold l _ _))).then_calm (calm_offMove l _)

theorem calmBody_setOff (l : Lane) : CalmBody (setOffBody l) := by
  intro s
  unfold setOffBody
  dsimp only [Answer.state]
  split
  · exact .refl s
  · exact calm_machineOff l s

theorem calm_machineOn (l : Lane) (s : State) : Calm s (machineOn l s) := by
  have hq : Quiet s (modSup l (fun u => { u with power := .standby }) s) := quiet_modSup rfl .inl
  unfold machineOn
  dsimp only
  split
  · exact .quiet hq
  · refine (hq.trans (quiet_wake l _)).then_calm ?_
    unfold onMove
    split
    · exact calm_enterRecover l _
    · exact calm_enterRecover l _
    · exact .refl _

theorem calmBody_setOn (l : Lane) : CalmBody (setOnBody l) := by
  intro s
  unfold setOnBody
  dsimp only [Answer.state]
  split
  · exact calm_machineOn l s
  · exact .refl s

theorem calmBody_testCycle (l : Lane) : CalmBody (testCycleBody l) := by
  intro s
  have hq : Quiet s (modSup l (fun u => { u with testMark := true }) s) := quiet_modSup rfl .inl
  have hb : Quiet s (beginTest l s) := by
    unfold beginTest
    dsimp only
    split
    · exact hq.trans (quiet_issueCycle (.inl (by decide)))
    · exact hq.trans (quiet_wake l _)
  unfold testCycleBody
  split
  · exact .refl s
  split
  · exact .refl s
  split
  · exact .refl s
  · exact .quiet hb

theorem calmBody_clearCounters (l : Lane) : CalmBody (clearCountersBody l) := by
  intro s
  dsimp only [clearCountersBody, done, Answer.state]
  exact .quiet (quiet_modCounters l _ s)

theorem calmBody_setInterval (interval : BitVec 32) (l : Lane) : CalmBody (setIntervalBody interval l) := fun _ =>
  .quiet (Quiet.trans (quiet_modSup rfl .inl) (quiet_maintTest l _))

theorem calmBody_maintDone (l : Lane) : CalmBody (maintDoneBody l) := by
  intro s
  dsimp only [maintDoneBody, done, Answer.state]
  exact .quiet (quiet_modSup rfl .inl)

theorem calmBody_clearReturn : CalmBody clearReturnBody := by
  intro s
  unfold clearReturnBody
  split
  · exact .refl s
  · exact .quiet (quiet_emptyReturn _ s)

theorem calmBody_setReturnChecked (power : Option OnOff) (limit : Option Byte) :
    CalmBody (setReturnChecked power limit) := by
  intro s
  unfold setReturnChecked
  split
  · exact .refl s
  · exact .quiet ((quiet_applyLimit limit s).trans (quiet_applyPower power _))

theorem calmBody_setReturn (power : Option (Coded OnOff)) (limit : Option Byte) : CalmBody (setReturnBody power limit) := by
  intro s
  unfold setReturnBody
  split
  · exact calmBody_setReturnChecked none limit s
  · exact calmBody_setReturnChecked _ limit s
  · exact .refl s

theorem calmBody_readReturn (clearStray clearJam : Bool) : CalmBody (readReturnBody clearStray clearJam) := by
  intro s
  dsimp only [readReturnBody, Answer.state]
  exact .quiet (quiet_modReturn _ s)

theorem calmBody_readSupply (clear : Bool) : CalmBody (readSupplyBody clear) := by
  intro s
  cases clear
  · exact .refl s
  · exact .quiet (quiet_supply rfl rfl)

theorem calmBody_ackNotices (p : Port) (fields : List NoticeFields) : CalmBody (ackNoticesBody p fields) := by
  intro s
  unfold ackNoticesBody
  split
  · exact .refl s
  · split
    · exact .refl s
    · dsimp only [Answer.state]
      exact .quiet (quiet_modPort p _ s)

theorem calmBody_setMask (p : Port) (mask : BitVec 32) (mode : Coded AttentionMode) : CalmBody (setMaskBody p mask mode) := by
  intro s
  unfold setMaskBody
  split
  · exact .refl s
  · split
    · exact .quiet (quiet_modPort p _ s)
    · exact .refl s

end Sys2Proof.Machine

namespace Sys2Proof.Machine

/-! ### What a step can do

Every step is calm, but for one of the moves of `Play` with quiet rewrites before it and calm ones behind it. -/

/-- The state of REMOVE_BOWLER before a current bowler is replaced (R15). -/
def withoutBowler (q : SquadId) (n : Nat) (s : State) : State :=
  unmarkBowler q n (slotAfterRemoval n) (modSquad q (fun v => v.without n) s)

/-- The state of MARK_ABSENT before a current bowler is replaced (R17). -/
def withAbsent (q : SquadId) (n blind : Nat) (s : State) : State :=
  unmarkBowler q n id (modBowler q n (absentWith blind) s)

/-- The choice that follows the loss of a current bowler, before the supervisor takes it (R20). -/
def chooseAnew (q : SquadId) (s : State) : State :=
  chooseNext q (s.squad q).current (setReopen (s.squad q).current none s)

/-- Steps 2 to 4 of CLOSE_LANE (R5). -/
def endSession (l : Lane) (s : State) : State := abandonGame l (freezeSession l (setLaneState l .closing s))

/-- What CORRECT_BALL has checked when it takes a correction (R78 to R84): the ball `entry`, the `j`-th of frame `k` of the
bowler `b` at slot `n`, gets the leave `after` and the foul flag `foul`, and `new` are the frame's balls then. -/
structure Correctable (q : SquadId) (n k j : Nat) (b : Bowler) (entry : BallEntry) (after : Leave) (foul : Bool)
    (new : List BallEntry) (s : State) : Prop where
  session : (s.lane (s.squad q).current).state.inSession = true
  bowler : bowlerAt (s.squad q).order n = some b
  frame : 1 ≤ k ∧ k ≤ 10
  ball : 1 ≤ j
  named : (frameAt b.sheet k).balls[j - 1]? = some entry
  balls : correctedBalls k j (frameAt b.sheet k).balls entry after foul = some new
  shape : shapeKept (reopenNames s q n k) k (frameAt b.sheet k).balls new = true

/-- The records after a correction, before deck-stale and the supervisor's decision (R85 to R89, R91). -/
def corrected (q : SquadId) (n k : Nat) (b : Bowler) (new : List BallEntry) (s : State) : State :=
  rotateCorrected q (s.squad q).current n k (frameAt b.sheet k).balls new
    (modSquad q (fun v =>
      { v with order := setBowler v.order n
                 (replaceTotals ((s.squad q).state == .forming || (s.squad q).state == .gameDone) (rebuiltBowler k new b)) })
      s)

/-- The moves that are not calm. -/
inductive Play : State → State → Prop where
  | opens {l m credit warn s} (h : (s.lane l).state = .closed) : Play s (openEffect l m credit warn s)
  | closes {l s} (hm : s.pairMode = .single) (h : (s.lane l).state.inSession = true) : Play s (endSession l s)
  | closesPair {l s} (hm : s.pairMode = .cross) (h : (s.lane l).state.inSession = true) :
      Play s (endSession l (splitRecords s))
  | starts {l g s} (hm : s.pairMode = .single) (h : (s.lane l).state = .opened) (ha : hasActive (s.squadOn l) = true) :
      Play s (setLaneState l .playing (beginGames (s.lane l).squad g s))
  | startsPair {g s} (hm : s.pairMode = .cross) (ho : ∀ l, (s.lane l).state = .opened)
      (ha : ∀ q, hasActive (s.squad q) = true) :
      Play s (setLaneState .b .playing (setLaneState .a .playing (beginGames .b g (beginGames .a g s))))
  | adds {q name hc blind s} (h : (s.squad q).order.length < 8) :
      Play s (modSquad q (fun v => { v with order := v.order ++ [newBowler name hc blind (!v.inGame)] }) s)
  | removes {q n b s} (hb : bowlerAt (s.squad q).order n = some b) (hs : (s.squad q).slot ≠ some n) :
      Play s (withoutBowler q n s)
  | removesCurrent {q n b s} (hb : bowlerAt (s.squad q).order n = some b) (hs : (s.squad q).slot = some n) :
      Play s (chooseAnew q (withoutBowler q n s))
  | moves {q i j b s} (hb : bowlerAt (s.squad q).order i = some b) (h1 : 1 ≤ j) (hj : j ≤ (s.squad q).order.length) :
      Play s (mapReopens (fun m => some (if m.squad = q then { m with slot := slotAfterMove i j m.slot } else m))
        (modSquad q (fun v => v.moved i j) s))
  | absents {q n blind b s} (hb : bowlerAt (s.squad q).order n = some b) (hs : (s.squad q).slot ≠ some n) :
      Play s (withAbsent q n blind s)
  | absentsCurrent {q n blind b s} (hb : bowlerAt (s.squad q).order n = some b) (hs : (s.squad q).slot = some n) :
      Play s (chooseAnew q (withAbsent q n blind s))
  | presents {q n b s} (hb : bowlerAt (s.squad q).order n = some b) :
      Play s (modBowler q n (presentAgain (s.squad q).inGame) s)
  | corrects {q n k j b entry after foul new s} (h : Correctable q n k j b entry after foul new s) :
      Play s (corrected q n k b new s)
  | records {l leave foul source s} : Play s (recordBall l leave foul source s).1
  | joins {s} (hm : s.pairMode = .single) (ho : ∀ l, (s.lane l).state = .opened) : Play s { s with pairMode := .cross }
  | splits {s} (hm : s.pairMode = .cross) (h : ∀ q, (s.squad q).state.splittable = true) :
      Play s { s with pairMode := .single }
  | forces {s} (hm : s.pairMode = .cross) : Play s (splitRecords s)
  | parks {l c s} (h : (s.lane l).state ≠ .closing) (hc : (s.sup l).closes) : Play s (park l false (endCycle l c s))
  | programs {n v s} (h : (storedEntry s n).writes < 32) : Play s (startProgramming n v s)
  | stores {n v s} : Play s (modStored n (fun x => { x with state := .good, value := v }) s)
  | fails {v s} (h : v.state = .backup) : Play s { s with supply := v }
  | loses {v s} (h : v.state = .backup) : Play s { coldRecords s with supply := v }
  | restarts {k s} : Play s (startOn k s)
  | coldStarts {s} : Play s (startOn .cold (coldRecords s))
  | resets {s} : Play s (coldPair s)

/-- A calm step, or one move of `Play` with calm steps behind it, after quiet rewrites. -/
def Goes (s t : State) : Prop := ∃ u, Quiet s u ∧ (Calm u t ∨ ∃ v, Play u v ∧ Calm v t)

theorem Calm.goes {s t : State} (h : Calm s t) : Goes s t := ⟨s, .refl s, .inl h⟩

theorem Play.goes {s t : State} (h : Play s t) : Goes s t := ⟨s, .refl s, .inr ⟨t, h, .refl t⟩⟩

theorem Quiet.goes {s t : State} (h : Quiet s t) : Goes s t := (Calm.quiet h).goes

theorem Goes.refl (s : State) : Goes s s := (Calm.refl s).goes

theorem Quiet.then_goes {s t u : State} (h : Quiet s t) (k : Goes t u) : Goes s u := by
  obtain ⟨v, hv, k⟩ := k
  exact ⟨v, h.trans hv, k⟩

theorem Goes.then_calm {s t u : State} (h : Goes s t) (k : Calm t u) : Goes s u := by
  obtain ⟨v, hv, h | ⟨w, hp, hc⟩⟩ := h
  · exact ⟨v, hv, .inl (.trans h k)⟩
  · exact ⟨v, hv, .inr ⟨w, hp, .trans hc k⟩⟩

theorem Goes.then_quiet {s t u : State} (h : Goes s t) (k : Quiet t u) : Goes s u := h.then_calm (.quiet k)

/-! ### The requests that are not calm -/

/-- A request whose own part goes by one move. -/
def GoesBody (body : State → Answer) : Prop := ∀ s, Goes s (body s).state

theorem CalmBody.goes {body : State → Answer} (h : CalmBody body) : GoesBody body := fun s => (h s).goes

theorem goesBody_withLane {f : Lane → State → Answer} (h : ∀ l, GoesBody (f l)) (c : Coded Lane) :
    GoesBody (withLane c f) := by
  cases c with
  | val l => exact h l
  | bad _ => exact .refl

theorem goesBody_open (mode : Coded AccountMode) (credit : BitVec 16) (warn : Option (BitVec 16)) (l : Lane) :
    GoesBody (openBody mode credit warn l) := by
  intro s
  cases mode with
  | bad _ => exact .refl s
  | val m =>
    unfold openBody
    dsimp only
    split
    · exact .refl s
    next h => exact (Play.opens (not_not.mp h)).goes

theorem closing_endSession (l : Lane) (s : State) : ((endSession l s).lane l).state = .closing := by
  simp [endSession, abandonGame, freezeSession, setLaneState]

theorem goesBody_close (l : Lane) : GoesBody (closeBody l) := by
  intro s
  unfold closeBody
  split
  next h =>
    dsimp only [done, Answer.state]
    unfold closeEffect
    split
    next hm => exact (Play.closes hm h).goes.then_calm (calm_closeSequence (closing_endSession l s))
    next hm =>
      exact (Play.closesPair hm h).goes.then_calm
        ((calm_closeSequence (closing_endSession l _)).then_quiet (quiet_decide52 _ _))
  next => exact .refl s

theorem goesBody_start (games : Byte) (l : Lane) : GoesBody (startBody games l) := by
  intro s
  unfold startBody
  split
  · exact .refl s
  · split
    next hm =>
      unfold startSingle
      split
      · exact .refl s
      next ho =>
        split
        · exact .refl s
        next ha => exact (Play.starts hm (not_not.mp ho) (by simpa using ha)).goes.then_quiet (quiet_decide52 l _)
    next hm =>
      unfold startCross
      split
      · exact .refl s
      next ho =>
        split
        · exact .refl s
        next ha =>
          have ho' : ∀ l, (s.lane l).state = .opened := by intro l; cases l <;> simp_all
          have ha' : ∀ q, hasActive (s.squad q) = true := by intro q; cases q <;> simp_all
          exact (Play.startsPair hm ho' ha').goes.then_quiet ((quiet_decide52 .a _).trans (quiet_decide52 .b _))

/-- A roster request past its shared conditions. -/
theorem goesBody_withRoster {c : Coded SquadId} {slots : List Nat} {f : SquadId → State → Answer}
    (h : ∀ q s, (∀ k ∈ slots, ∃ b, bowlerAt (s.squad q).order k = some b) → Goes s (f q s).state) :
    GoesBody (withRoster c slots f) := by
  intro s
  cases c with
  | bad _ => exact .refl s
  | val q =>
    unfold withRoster
    dsimp only
    split
    · exact .refl s
    · split
      · exact .refl s
      next hs => exact h q s (by simpa [Option.ne_none_iff_exists'] using hs)

theorem goes_addBowler (name : List Byte) (handicap : Option Byte) (blind : Option (BitVec 16)) (q : SquadId) (s : State) :
    Goes s (addBowlerBody name handicap blind q s).state := by
  unfold addBowlerBody
  split
  · exact .refl s
  next hl =>
    split
    · exact (Play.adds (by omega)).goes
    · exact .refl s

theorem goes_removeBowler {n : Nat} {q : SquadId} {s : State} {b : Bowler} (hb : bowlerAt (s.squad q).order n = some b) :
    Goes s (removeBowlerBody n q s).state := by
  unfold removeBowlerBody
  dsimp only
  split
  · exact .refl s
  · dsimp only [done, Answer.state]
    split
    next hs => exact (Play.removesCurrent hb hs).goes.then_quiet (quiet_bowlerChanged _ _)
    next hs => exact (Play.removes hb hs).goes

theorem goes_moveBowler {i : Nat} {q : SquadId} {s : State} {b : Bowler} (j : Nat)
    (hb : bowlerAt (s.squad q).order i = some b) : Goes s (moveBowlerBody i j q s).state := by
  unfold moveBowlerBody
  split
  · exact .refl s
  split
  · exact .refl s
  split
  · exact .refl s
  · exact (Play.moves hb (by omega) (by omega)).goes

theorem goes_markAbsent {n : Nat} {q : SquadId} {s : State} {b : Bowler} (blind : BitVec 16)
    (hb : bowlerAt (s.squad q).order n = some b) : Goes s (markAbsentBody n blind q s).state := by
  unfold markAbsentBody
  split
  · exact .refl s
  · dsimp only
    split
    · exact .refl s
    split
    · exact .refl s
    · dsimp only [done, Answer.state]
      split
      next hs => exact (Play.absentsCurrent hb hs).goes.then_quiet (quiet_bowlerChanged _ _)
      next hs => exact (Play.absents hb hs).goes

theorem goes_markPresent {n : Nat} {q : SquadId} {s : State} {b : Bowler} (hb : bowlerAt (s.squad q).order n = some b) :
    Goes s (markPresentBody n q s).state := by
  unfold markPresentBody
  split
  · exact .refl s
  · exact (Play.presents hb).goes

theorem goes_setHandicap {n : Nat} {q : SquadId} {s : State} {b : Bowler} (handicap : Option Byte)
    (hb : bowlerAt (s.squad q).order n = some b) : Goes s (setHandicapBody n handicap q s).state := by
  unfold setHandicapBody
  split
  · exact .refl s
  next h _ =>
    have hq : Quiet s (modBowler q n (fun b => { b with handicap := h }) s) :=
      quiet_modSquad (by rw [hb]; exact ⟨rfl, rfl, rfl, rfl, rfl, rfl, lines_setBowler hb rfl⟩)
    exact hq.goes

/-- The bowler's records after a correction are calm in deck and decision (R90, R88). -/
theorem quiet_staleAfterCorrection (l : Lane) (before : Leave) (s : State) :
    Quiet s (staleAfterCorrection l before s) := by
  unfold staleAfterCorrection
  dsimp only
  split
  · exact .refl s
  split
  · split
    · exact .refl s
    · exact quiet_setStale l s
  · split
    · exact .refl s
    · exact quiet_setStale l s
  · exact .refl s

theorem goes_takeCorrection {p : Port} {q : SquadId} {n k j : Nat} {b : Bowler} {entry : BallEntry} {after : Leave}
    {foul : Bool} {new : List BallEntry} {s : State} (h : Correctable q n k j b entry after foul new s) :
    Goes s (takeCorrection p q n k b new s) := by
  unfold takeCorrection
  dsimp only
  split
  · exact (Play.corrects h).goes.then_quiet ((quiet_staleAfterCorrection _ _ _).trans ((quiet_bowlerChanged _ _).trans
      (quiet_enterNotice _ _ _)))
  · exact (Play.corrects h).goes.then_quiet ((quiet_staleAfterCorrection _ _ _).trans (quiet_enterNotice _ _ _))

theorem goesBody_correct (p : Port) (squad : Coded SquadId) (c : CorrectFields) : GoesBody (correctBody p squad c) := by
  intro s
  unfold correctBody
  split
  · exact .refl s
  split
  · unfold correctChecked
    dsimp only
    rename_i q _ x hf hc
    split
    · exact .refl s
    next hses =>
      split
      · exact .refl s
      next b hb =>
        split
        · exact .refl s
        next entry he =>
          split
          · exact .refl s
          split
          · exact .refl s
          · unfold applyCorrection
            dsimp only
            split
            · exact .refl s
            next after ha =>
              split
              · exact .refl s
              next new hn =>
                split
                · exact .refl s
                next hshape =>
                  split
                  · exact .refl s
                  · simp only [correctFieldsOk, Bool.and_eq_true, decide_eq_true_eq] at hf
                    exact goes_takeCorrection ⟨by simpa using hses, hb, hf.1.1.1.2, hf.1.1.2.1, he, hn, by simpa using hshape⟩
  · exact .refl s

theorem goesBody_enterBall (leave : BitVec 16) (foul : Bool) (l : Lane) : GoesBody (enterBallBody leave foul l) := by
  intro s
  unfold enterBallBody
  split
  · exact .refl s
  · split
    · have hp := (Play.records (l := l) (leave := ‹_›) (foul := foul) (source := .entered) (s := s)).goes
      refine (hp.then_quiet (quiet_removeHold l .entry _)).then_calm ?_
      dsimp only [done, Answer.state, enterBallEffect]
      unfold afterEntered
      split
      · exact .quiet (quiet_modSup rfl .inl)
      · exact calm_issueDelivery l _ _ _
    · exact .refl s

theorem goesBody_split : GoesBody splitBody := by
  intro s
  unfold splitBody
  split
  · exact .refl s
  next hm =>
    split
    next h =>
      have h' : ∀ q, (s.squad q).state.splittable = true := by intro q; cases q <;> simp_all
      exact (Play.splits hm h').goes
    next => exact .refl s

theorem goesBody_pairMode (mode : Coded PairMode) : GoesBody (pairModeBody mode) := by
  intro s
  unfold pairModeBody
  split
  · exact .refl s
  · exact goesBody_split s
  · unfold crossBody
    split
    · exact .refl s
    next hm =>
      split
      · exact .refl s
      next ho =>
        have ho' : ∀ l, (s.lane l).state = .opened := by intro l; cases l <;> simp_all
        split
        · exact .refl s
        split
        · exact .refl s
        · exact (Play.joins hm ho').goes

theorem goesBody_splitForce : GoesBody splitForceBody := by
  intro s
  unfold splitForceBody
  split
  · exact .refl s
  next hm => exact (Play.forces hm).goes.then_quiet ((quiet_decide52 .a _).trans (quiet_decide52 .b _))

theorem quiet_key (k : Bool) (s : State) : Quiet s { s with key := k } := SameBoard.quiet ⟨rfl, rfl, rfl⟩ rfl rfl

theorem goesBody_rateStore (entry : Byte) (value : RateFields) (key : Bool) : GoesBody (rateStoreBody entry value key) := by
  intro s
  unfold rateStoreBody
  dsimp only
  split
  · exact (quiet_key key s).goes
  split
  · exact (quiet_key key s).goes
  split
  · exact (quiet_key key s).goes
  next hw =>
    split
    · exact (quiet_key key s).goes
    · exact (quiet_key key s).then_goes (Play.programs (by simpa [wornCount] using hw)).goes

theorem quiet_loadRates (s : State) : Quiet s (loadRates s) := SameBoard.quiet ⟨rfl, rfl, rfl⟩ rfl rfl

theorem goesBody_resetPair : GoesBody resetPairBody := by
  intro s
  unfold resetPairBody
  split
  · exact .refl s
  · exact ((quiet_powerDown .a s).trans (quiet_powerDown .b _)).then_goes (Play.resets.goes.then_quiet (quiet_loadRates _))

/-! ### The events that are not calm -/

theorem goes_takeDeck (l : Lane) (leave : Leave) (s : State) : Goes s (takeDeck l leave s) := by
  have hq : Quiet s (modSup l (fun u => { u with deckTimer := none }) s) := quiet_modSup rfl .inl
  unfold takeDeck
  split
  · exact (hq.then_goes Play.records.goes).then_calm (calm_issueDelivery l _ _ _)
  · exact .refl s

theorem goes_takeCycleDone (l : Lane) (s : State) : Goes s (takeCycleDone l s) := by
  unfold takeCycleDone
  split
  next c hc =>
    have hq := quiet_endCycle l c s
    have hcl := (hq.lanes l).closing_iff
    dsimp only
    split
    next h => exact (hq.then_calm (calm_afterClosing h)).goes
    next h =>
      by_cases hp : c.purpose = .close
      · rw [hp]
        exact (Play.parks (mt hcl.mpr h) ⟨c, cycleRec_of_underWay hc, hp⟩).goes
      · exact (hq.trans (quiet_afterPurpose hp)).goes
  next => exact .refl s

theorem goes_takeCompletion (s : State) : Goes s (takeCompletion s) := by
  unfold takeCompletion
  split
  · exact Play.stores.goes.then_quiet ((quiet_writeWorking _ _ _).trans (quiet_endProgramming _ _ _))
  · exact .refl s

theorem quiet_cutMachine (l : Lane) (s : State) : Quiet s (cutMachine l s) :=
  (quiet_sendMessage l _ s).trans (quiet_sendMessage l _ _)

theorem quiet_stopCore (s : State) : Quiet s (stopCore s) :=
  ((quiet_cutMachine .a s).trans (quiet_cutMachine .b _)).trans (SameBoard.quiet ⟨rfl, rfl, rfl⟩ rfl rfl)

theorem goes_takeMainFailure (s : State) : Goes s (takeMainFailure s) := by
  rw [takeMainFailure_eq]
  split
  · exact (quiet_stopCore s).then_goes (Play.fails rfl).goes
  · exact Quiet.goes (quiet_supply rfl rfl)

theorem goes_startOf (k : StartKind) (s : State) : Goes s (startOf k s) := by
  unfold startOf
  split
  · exact Play.restarts.goes.then_quiet ((quiet_bumpSerial s .a _).trans (quiet_bumpSerial s .b _))
  · exact Play.coldStarts.goes

theorem goes_takeMainReturn (s : State) : Goes s (takeMainReturn s) := by
  rw [takeMainReturn_eq]
  split
  · exact .refl s
  · split
    · exact Quiet.goes (quiet_supply rfl rfl)
    · exact goes_startOf _ s

theorem goes_takeRetentionLoss (s : State) : Goes s (takeRetentionLoss s) := by
  unfold takeRetentionLoss
  split
  next h => exact (Play.loses (v := { (coldRecords s).supply with retention := false }) h.1).goes
  next => exact .refl s

theorem quiet_takeResetAssert (s : State) : Quiet s (takeResetAssert s) := by
  unfold takeResetAssert
  split
  · exact (quiet_stopCore s).trans (quiet_supply rfl rfl)
  · exact .refl s

theorem goes_takeResetRelease (s : State) : Goes s (takeResetRelease s) := by
  rw [takeResetRelease_eq]
  split
  · exact .refl s
  split
  · exact goes_startOf _ s
  split
  · exact goes_startOf _ s
  · exact Quiet.goes (quiet_supply rfl rfl)

theorem quiet_batteryLow (b : Bool) (s : State) : Quiet s { s with supply := { s.supply with batteryLow := b } } :=
  quiet_supply rfl rfl

/-- A request that reads and changes nothing. -/
theorem calmBody_read (st : Status) (f : State → List Byte) : CalmBody fun s => .now st (f s) s := .refl

theorem quiet_clock (c : Clock) (s : State) : Quiet s { s with clock := c } := SameBoard.quiet ⟨rfl, rfl, rfl⟩ rfl rfl

/-! ### Every step goes -/

/-- A request frame goes as its own part goes. -/
theorem goes_heardRequest {e : Envelope} {code : Byte} {allowed broadcastOk fits : Bool} {body : State → Answer}
    (h : GoesBody body) (s : State) : Goes s (heardRequest e code allowed broadcastOk fits body s) := by
  unfold heardRequest
  split
  · split
    · exact h s
    · exact .refl s
  split
  · exact .refl s
  split
  · have ha : ∀ u, Goes u (answerOf allowed fits body u).state := by
      intro u
      unfold answerOf
      split
      · exact .refl u
      split
      · exact .refl u
      · exact h u
    have hd : ∀ p a, Quiet (Answer.state a) (deliver p a) := by
      intro p a
      cases a with
      | now st bytes t => exact quiet_answerRequest p st bytes t
      | later t => exact .refl t
    exact (quiet_beginRequest _ _ _ s).then_goes ((ha _).then_quiet (hd _ _))
  · exact (quiet_portBusy e code s).goes

theorem goes_coreEvent {f : State → State} (h : ∀ s, Goes s (f s)) {s t : State} (ht : coreEvent f s = .next t) :
    Goes s t := by
  unfold coreEvent at ht
  cases ht
  split
  · exact (h s).then_quiet (quiet_settle _ _)
  · exact .refl s

theorem goes_request {e : Envelope} {code : Byte} {allowed broadcastOk : Bool} {len : Nat} {body : State → Answer}
    (h : GoesBody body) {s t : State} (ht : request e code allowed broadcastOk len body s = .next t) : Goes s t :=
  goes_coreEvent (goes_heardRequest h) ht

theorem quiet_zeroSerials (s : State) : Quiet s (zeroSerials s) := by
  have hq : ∀ l u, Quiet u (modLane l (fun r => { r with serial := 0 }) u) := fun l u =>
    quiet_modLane ⟨.inl rfl, rfl, .inl rfl, rfl, .inl, fun _ h => h⟩
  exact (hq .b s).trans (hq .a _)

theorem goes_resetPair {e : Envelope} {s t : State} (ht : execResetPair e s = .next t) : Goes s t := by
  unfold execResetPair at ht
  cases hr : request e 42 (serviceOnly e) false 0 resetPairBody s with
  | next u =>
    rw [hr] at ht
    cases ht
    have hg := goes_request goesBody_resetPair hr
    split
    · exact hg.then_quiet (quiet_zeroSerials u)
    · exact hg
  | fault r => rw [hr] at ht; cases ht
  | refused r => rw [hr] at ht; cases ht

/-- A command goes by one move. -/
theorem goes_exec {c : Instr} {s t : State} (ht : exec c s = .next t) : Goes s t := by
  have calmReq : ∀ {e code allowed broadcastOk len body}, CalmBody body →
      request e code allowed broadcastOk len body s = .next t → Goes s t := fun h => goes_request h.goes
  have quietEvent : ∀ {f : State → State}, (∀ s, Quiet s (f s)) → coreEvent f s = .next t → Goes s t := fun h =>
    goes_coreEvent fun u => (h u).goes
  have calmEvent : ∀ {f : State → State}, (∀ s, Calm s (f s)) → coreEvent f s = .next t → Goes s t := fun h =>
    goes_coreEvent fun u => (h u).goes
  have always : ∀ {f : State → State}, (∀ s, Goes s (f s)) →
      Host.Outcome.next (f s) = (.next t : Host.Outcome State Fault Refusal) → Goes s t := fun {f} h hx => by cases hx; exact h s
  cases c with
  | openLane e lane mode credit warn => exact goes_request (goesBody_withLane (goesBody_open mode credit warn) lane) ht
  | closeLane e lane => exact goes_request (goesBody_withLane goesBody_close lane) ht
  | pauseLane e lane => exact calmReq (calmBody_withLane calmBody_pause lane) ht
  | resumeLane e lane => exact calmReq (calmBody_withLane (calmBody_resume _) lane) ht
  | addCredit e lane amount => exact calmReq (calmBody_withLane (calmBody_addCredit amount) lane) ht
  | addTime e lane amount => exact calmReq (calmBody_withLane (calmBody_addTime amount) lane) ht
  | readAccount e lane => exact calmReq (calmBody_withLane (fun _ => calmBody_read _ _) lane) ht
  | readSession e lane => exact calmReq (calmBody_withLane calmBody_readSession lane) ht
  | startGame e lane games => exact goes_request (goesBody_withLane (goesBody_start games) lane) ht
  | bowlerReady e lane => exact calmReq (calmBody_withLane calmBody_bowlerReady lane) ht
  | foulDetect e lane enable => exact calmReq (calmBody_withLane (calmBody_foulDetect enable) lane) ht
  | resetDeck e lane => exact calmReq (calmBody_withLane calmBody_resetDeck lane) ht
  | addBowler e squad name handicap blind =>
    exact goes_request (goesBody_withRoster fun q s _ => goes_addBowler name handicap blind q s) ht
  | removeBowler e squad slot =>
    exact goes_request (goesBody_withRoster fun q s h => goes_removeBowler (h _ (List.mem_singleton_self _)).choose_spec) ht
  | moveBowler e squad slot newSlot => 
    exact goes_request (goesBody_withRoster fun q s h => goes_moveBowler _ (h _ (List.mem_singleton_self _)).choose_spec) ht
  | markAbsent e squad slot blind =>
    exact goes_request (goesBody_withRoster fun q s h => goes_markAbsent blind (h _ (List.mem_singleton_self _)).choose_spec) ht
  | markPresent e squad slot =>
    exact goes_request (goesBody_withRoster fun q s h => goes_markPresent (h _ (List.mem_singleton_self _)).choose_spec) ht
  | setHandicap e squad slot handicap =>
    exact goes_request
      (goesBody_withRoster fun q s h => goes_setHandicap handicap (h _ (List.mem_singleton_self _)).choose_spec) ht
  | readSheet e lane part => exact calmReq (calmBody_withLane (calmBody_readSheet _) lane) ht
  | correctBall e squad c => exact goes_request (goesBody_correct e.port squad c) ht
  | enterBall e lane leave foul => exact goes_request (goesBody_withLane (goesBody_enterBall leave foul) lane) ht
  | setPairMode e mode => exact goes_request (goesBody_pairMode mode) ht
  | splitPair e => exact goes_request goesBody_split ht
  | splitPairForce e => exact goes_request goesBody_splitForce ht
  | rateSet e entry value => exact calmReq (calmBody_rateSet entry value) ht
  | rateClear e entry => exact calmReq (calmBody_rateClear entry) ht
  | rateStore e entry value key => exact goes_request (goesBody_rateStore entry value key) ht
  | rateReadWorking e => exact calmReq (calmBody_withSelector (calmBody_read _ _) e.stray) ht
  | rateReadStored e => exact calmReq calmBody_readStored ht
  | clockSet e weekday hour minute second => exact calmReq (calmBody_clockSet weekday hour minute second) ht
  | clockRead e => exact calmReq (calmBody_read _ _) ht
  | clearFault e lane => exact calmReq (calmBody_withLane calmBody_clearFault lane) ht
  | readMachine e lane => exact calmReq (calmBody_withLane (fun _ => calmBody_read _ _) lane) ht
  | setTiming e lanes settings => exact calmReq (calmBody_setTiming lanes settings) ht
  | setMachineOff e lane => exact calmReq (calmBody_withLane calmBody_setOff lane) ht
  | setMachineOn e lane => exact calmReq (calmBody_withSelector (calmBody_withLane calmBody_setOn lane.field) lane.stray) ht
  | testCycle e lane => exact calmReq (calmBody_withLane calmBody_testCycle lane) ht
  | clearCounters e lane => exact calmReq (calmBody_withLane calmBody_clearCounters lane) ht
  | setMaintInterval e lane interval => exact calmReq (calmBody_withLane (calmBody_setInterval interval) lane) ht
  | maintDone e lane => exact calmReq (calmBody_withLane calmBody_maintDone lane) ht
  | clearReturn e => exact calmReq calmBody_clearReturn ht
  | setReturn e power limit => exact calmReq (calmBody_setReturn power limit) ht
  | readReturn e clearStray clearJam => exact calmReq (calmBody_readReturn clearStray clearJam) ht
  | readSupply e clear => exact calmReq (calmBody_readSupply clear) ht
  | resetPair e => exact goes_resetPair ht
  | readNotices e => exact calmReq (calmBody_read _ _) ht
  | ackNotices e notices => exact calmReq (calmBody_ackNotices e.port notices) ht
  | setNoticeMask e mask mode => exact calmReq (calmBody_setMask e.port mask mode) ht
  | frameDiscard port bytes => exact always .refl ht
  | interByteTimeout port bytes => exact always .refl ht
  | consoleBytesUnderHold => exact quietEvent quiet_bytesUnderHold ht
  | selectRise => exact quietEvent quiet_takeSelectRise ht
  | replyTurnaround port => exact quietEvent (quiet_takeTurnaround port) ht
  | replySent port => exact quietEvent (quiet_takeReplySent port) ht
  | warm lane => exact calmEvent (calm_takeWarm lane) ht
  | deck lane leave => exact goes_coreEvent (goes_takeDeck lane leave) ht
  | respotPoint lane => exact quietEvent (quiet_takeRespot lane) ht
  | cycleDone lane => exact goes_coreEvent (goes_takeCycleDone lane) ht
  | machineFault lane code => exact calmEvent (calm_takeMachineFault lane code) ht
  | ballDetection lane => exact quietEvent (quiet_takeDetection lane) ht
  | foulEvent lane => exact quietEvent (quiet_takeFoul lane) ht
  | pitExit lane => exact quietEvent (quiet_takePitExit lane) ht
  | arrival => exact quietEvent quiet_takeArrival ht
  | keyRelease => exact quietEvent quiet_takeKeyRelease ht
  | programmingComplete => exact goes_coreEvent goes_takeCompletion ht
  | settleExpiry lane => exact quietEvent (quiet_takeSettle lane) ht
  | deckLimitExpiry lane => exact quietEvent (quiet_takeDeckLimit lane) ht
  | cycleWatchdogExpiry lane => exact calmEvent (calm_takeWatchdog lane) ht
  | warmUpExpiry lane => exact calmEvent (calm_takeWarmUp lane) ht
  | idleStandbyExpiry lane => exact quietEvent (quiet_takeIdle lane) ht
  | runOnExpiry => exact quietEvent quiet_takeRunOn ht
  | transitExpiry => exact quietEvent quiet_takeTransit ht
  | reversePhaseEnd => exact quietEvent quiet_takeReverseEnd ht
  | forwardPhaseEnd => exact quietEvent quiet_takeForwardEnd ht
  | runningSecond lane => exact quietEvent (quiet_runSecond lane) ht
  | pulseEnd port => exact quietEvent (quiet_modPort port _) ht
  | clockSecond => exact always (fun s => (quiet_takeClockSecond s).goes) ht
  | crystalStop => exact always (fun s => (quiet_takeCrystalStop s).goes) ht
  | crystalRestart => exact always (fun s => (quiet_clock _ s).goes) ht
  | mainFailure => exact always goes_takeMainFailure ht
  | mainReturn => exact always goes_takeMainReturn ht
  | retentionLoss => exact always goes_takeRetentionLoss ht
  | batteryLowSet => exact always (fun s => (quiet_takeBatteryLow s).goes) ht
  | batteryLowClear => exact always (fun s => (quiet_batteryLow false s).goes) ht
  | externalResetAssert => exact always (fun s => (quiet_takeResetAssert s).goes) ht
  | externalResetRelease => exact always goes_takeResetRelease ht
  | unknownRequestCode e code => exact calmReq (calmBody_read _ _) ht

/-- A step goes by one move: the command at the front, or on an empty queue a tick. -/
theorem goes_step {s t : State} (ht : step s = .next t) : Goes s t := by
  unfold step at ht
  split at ht
  next c rest _ =>
    have hq : Quiet s { s with pending := rest } := SameBoard.quiet ⟨rfl, rfl, rfl⟩ rfl rfl
    exact hq.then_goes (goes_exec ht)
  next =>
    cases ht
    exact (quiet_idleTick s).goes

end Sys2Proof.Machine

namespace Sys2Proof.Machine

/-! ### Every step keeps the records -/

/-- What `StepKeepsRecords` says of a step, as a relation that composes. -/
structure KeepsRecords (s t : State) : Prop where
  unheld : Safety.ClosedUnheld s → Safety.ClosedUnheld t
  fit : Safety.OrdersFit s → Safety.OrdersFit t
  placed : Safety.SquadsPlaced s → Safety.SquadsPlaced t
  retained : Safety.RetentionKept s → Safety.RetentionKept t
  unworn : Safety.StoreUnworn s → Safety.StoreUnworn t
  length : t.rates.store.length = s.rates.store.length
  writes : ∀ n, (storedEntry s n).writes ≤ (storedEntry t n).writes

namespace KeepsRecords
variable {s t u : State}

theorem refl (s : State) : KeepsRecords s s := ⟨id, id, id, id, id, rfl, fun _ => le_rfl⟩

theorem trans (h : KeepsRecords s t) (k : KeepsRecords t u) : KeepsRecords s u where
  unheld := k.unheld ∘ h.unheld
  fit := k.fit ∘ h.fit
  placed := k.placed ∘ h.placed
  retained := k.retained ∘ h.retained
  unworn := k.unworn ∘ h.unworn
  length := k.length.trans h.length
  writes := fun n => (h.writes n).trans (k.writes n)

/-- A rewrite of lanes and squads keeps what is said of supply and store. -/
theorem of_board (hu : Safety.ClosedUnheld s → Safety.ClosedUnheld t) (hf : Safety.OrdersFit s → Safety.OrdersFit t)
    (hp : Safety.SquadsPlaced s → Safety.SquadsPlaced t) (hm : t.supply.state = s.supply.state)
    (hr : t.supply.retention = s.supply.retention) (hst : t.rates.store = s.rates.store) : KeepsRecords s t where
  unheld := hu
  fit := hf
  placed := hp
  retained := fun h hs => hr.trans (h (hm.symm.trans hs))
  unworn := by unfold Safety.StoreUnworn; rw [hst]; exact id
  length := by rw [hst]
  writes := fun n => by rw [storedEntry, storedEntry, hst]

/-- A rewrite of supply and store keeps what is said of lanes and squads. -/
theorem of_stock (h : SameBoard s t) (hr : Safety.RetentionKept s → Safety.RetentionKept t)
    (hw : Safety.StoreUnworn s → Safety.StoreUnworn t) (hl : t.rates.store.length = s.rates.store.length)
    (hn : ∀ n, (storedEntry s n).writes ≤ (storedEntry t n).writes) : KeepsRecords s t where
  unheld := by simp only [Safety.ClosedUnheld, h.lane]; exact id
  fit := by simp only [Safety.OrdersFit, h.squad]; exact id
  placed := by simp only [Safety.SquadsPlaced, h.lane, h.squad]; exact id
  retained := hr
  unworn := hw
  length := hl
  writes := hn

/-- A lane rewritten, its squad kept and no CLOSED lane held. -/
theorem modLane {l : Lane} {f : LaneRec → LaneRec} (hq : (f (s.lane l)).squad = (s.lane l).squad)
    (hh : (f (s.lane l)).state = .closed → ((s.lane l).state = .closed → (s.lane l).holds = .none) →
      (f (s.lane l)).holds = .none) : KeepsRecords s (modLane l f s) := by
  have hlane : ∀ k, ((Machine.modLane l f s).lane k).squad = (s.lane k).squad := by
    intro k
    rw [modLane_lane]
    split
    next hk => subst hk; exact hq
    next => rfl
  refine of_board (fun h k => ?_) id (fun h => ?_) rfl rfl rfl
  · rw [modLane_lane]
    split
    next hk => subst hk; exact fun hc => hh hc (h k)
    next => exact h k
  · simpa only [Safety.SquadsPlaced, modLane_squad, hlane] using h

/-- A squad rewritten, its lanes kept and its order no longer than eight. -/
theorem modSquad {q : SquadId} {f : Squad → Squad} (hh : (f (s.squad q)).home = (s.squad q).home)
    (hc : (f (s.squad q)).current = (s.squad q).current)
    (ho : (s.squad q).order.length ≤ 8 → (f (s.squad q)).order.length ≤ 8) : KeepsRecords s (modSquad q f s) := by
  have hplace : ∀ k, ((Machine.modSquad q f s).squad k).home = (s.squad k).home ∧
      ((Machine.modSquad q f s).squad k).current = (s.squad k).current := by
    intro k
    rw [modSquad_squad]
    split
    next hk => subst hk; exact ⟨hh, hc⟩
    next => exact ⟨rfl, rfl⟩
  refine of_board id (fun h k => ?_) (fun h => ?_) rfl rfl rfl
  · rw [modSquad_squad]
    split
    next hk => subst hk; exact ho (h k)
    next => exact h k
  · simpa only [Safety.SquadsPlaced, modSquad_lane, fun k => (hplace k).1, fun k => (hplace k).2] using h

end KeepsRecords

section
variable {s t : State}

theorem SquadQuiet.length {v w : Squad} (h : SquadQuiet v w) : w.order.length = v.order.length := by
  simpa using congrArg List.length h.lines

theorem Quiet.keepsRecords (h : Quiet s t) : KeepsRecords s t := by
  refine .of_board (fun hu l hc => ?_) (fun hf q => ?_) (fun hp => ?_) h.main h.retention h.store
  · have hc' := (h.lanes l).closed_iff.mp hc
    exact (h.lanes l).unheld hc' (hu l hc')
  · rw [(h.squads q).length]; exact hf q
  · simpa only [Safety.SquadsPlaced, fun q => (h.squads q).home, fun q => (h.squads q).current, fun l => (h.lanes l).squad]
      using hp

theorem keepsRecords_modSup (l : Lane) (f : Supervisor → Supervisor) (s : State) : KeepsRecords s (modSup l f s) :=
  .modLane rfl fun hc h => h hc

theorem keepsRecords_park (l : Lane) (faulted : Bool) (s : State) : KeepsRecords s (park l faulted s) := by
  have hd : KeepsRecords s (modLane l (fun r =>
      { r with latchedFault := r.latchedFault || faulted,
               sup := { r.sup.parked with latched := none, stale := false } }) s) := .modLane rfl fun hc h => h hc
  refine hd.trans ((quiet_powerDown l _).keepsRecords.trans ?_)
  exact KeepsRecords.trans (.modLane rfl fun _ _ => rfl) (.modSquad rfl rfl fun _ => by simp [Squad.closed])

theorem Calm.keepsRecords (h : Calm s t) : KeepsRecords s t := by
  induction h with
  | quiet h => exact h.keepsRecords
  | park => exact keepsRecords_park _ _ _
  | trans _ _ ih ih' => exact ih.trans ih'

/-! ### Play keeps the records -/

theorem keepsRecords_writeNextDeck (l : Lane) (x : Leave) (s : State) : KeepsRecords s (writeNextDeck l x s) :=
  keepsRecords_modSup l _ s

theorem keepsRecords_setReopen (l : Lane) (m : Option ReopenMark) (s : State) : KeepsRecords s (setReopen l m s) :=
  .modLane rfl fun hc h => h hc

/-- A lane that takes a state other than CLOSED. -/
theorem keepsRecords_setLaneState {st : LaneState} (l : Lane) (s : State) (h : st ≠ .closed) :
    KeepsRecords s (setLaneState l st s) := .modLane rfl fun hc => absurd hc h

/-- A squad's bowlers rewritten one by one. -/
theorem keepsRecords_mapOrder (q : SquadId) (f : Bowler → Bowler) (s : State) :
    KeepsRecords s (modSquad q (fun v => { v with order := v.order.map f }) s) := .modSquad rfl rfl (by simp)

theorem keepsRecords_toRound (q : SquadId) (k : Squad → Nat) (s : State) :
    KeepsRecords s (modSquad q (fun v => v.toRound (k v)) s) := .modSquad rfl rfl id

theorem keepsRecords_formed (q : SquadId) (s : State) : KeepsRecords s (modSquad q Squad.formed s) := .modSquad rfl rfl id

theorem keepsRecords_startSquadGame (q : SquadId) (game : Nat) (s : State) :
    KeepsRecords s (startSquadGame q game s) := by
  have hs : KeepsRecords s (modSquad q (fun v => v.started game) s) :=
    .modSquad rfl rfl (by simp [Squad.started, Squad.toRound])
  exact hs.trans ((keepsRecords_writeNextDeck _ _ _).trans (keepsRecords_setReopen _ _ _))

theorem keepsRecords_afterGame (q : SquadId) (l : Lane) (s : State) : KeepsRecords s (afterGame q l s) := by
  unfold afterGame
  dsimp only
  split
  · exact (keepsRecords_startSquadGame _ _ s).trans (quiet_creditShort _ _ _).keepsRecords
  · exact (keepsRecords_formed q s).trans (keepsRecords_setLaneState _ _ (by decide))

theorem keepsRecords_dropSwapHolds (s : State) : KeepsRecords s (dropSwapHolds s) :=
  ((quiet_dropHold .b .swap s).trans (quiet_dropHold .a .swap _)).keepsRecords

theorem keepsRecords_clearReopens (s : State) : KeepsRecords s (clearReopens s) :=
  (keepsRecords_setReopen .b none s).trans (keepsRecords_setReopen .a none _)

/-- Records whose squads and lanes are exchanged or sent home, each hold set on its lane (R97, R100, R102). -/
theorem keepsRecords_replaced (hst : ∀ l, (t.lane l).state = (s.lane l).state)
    (hh : ∀ l, (t.lane l).holds = (s.lane l).holds)
    (ho : Safety.OrdersFit s → Safety.OrdersFit t) (hp : Safety.SquadsPlaced s → Safety.SquadsPlaced t)
    (hsup : t.supply = s.supply) (hstore : t.rates.store = s.rates.store) : KeepsRecords s t :=
  .of_board (fun hu l hc => (hh l).trans (hu l ((hst l).symm.trans hc))) ho hp (by rw [hsup]) (by rw [hsup]) hstore

theorem exchangeLanes_squad (s : State) (q : SquadId) :
    (exchangeLanes s).squad q = { s.squad q with current := (s.squad q).current.other } := by cases q <;> rfl

theorem exchangeLanes_lane (s : State) (l : Lane) :
    (exchangeLanes s).lane l = { s.lane l with squad := (s.lane l).squad.other } := by cases l <;> rfl

theorem returnHome_squad (s : State) (q : SquadId) :
    (returnHome s).squad q = { s.squad q with current := (s.squad q).home } := by cases q <;> rfl

theorem returnHome_lane (s : State) (l : Lane) : (returnHome s).lane l = { s.lane l with squad := l } := by cases l <;> rfl

theorem Side.eq_other_of_ne {l k : Side} (h : l ≠ k) : l = k.other := by cases l <;> cases k <;> simp_all [Side.other]

/-- Where the squads stand, one by one (R93, R96). -/
theorem squadsPlaced_iff (s : State) :
    Safety.SquadsPlaced s ↔ ∀ q, (s.squad q).home = q ∧ (s.lane (s.squad q).current).squad = q ∧
      (s.squad q.other).current = (s.squad q).current.other := by
  constructor
  · rintro ⟨hh, hl, hc⟩ q
    refine ⟨hh q, hl q, Side.eq_other_of_ne ?_⟩
    cases q
    · exact hc.symm
    · exact hc
  · refine fun h => ⟨fun q => (h q).1, fun q => (h q).2.1, fun hc => ?_⟩
    have hb : (s.squad .b).current = (s.squad .a).current.other := (h .a).2.2
    rw [hb] at hc
    exact Side.other_ne _ hc.symm

theorem keepsRecords_exchangeLanes (s : State) : KeepsRecords s (exchangeLanes s) := by
  refine keepsRecords_replaced (fun l => by rw [exchangeLanes_lane]) (fun l => by rw [exchangeLanes_lane])
    (fun h q => by rw [exchangeLanes_squad]; exact h q) (fun h => ?_) rfl rfl
  rw [squadsPlaced_iff] at h ⊢
  intro q
  obtain ⟨hh, -, hc⟩ := h q
  obtain ⟨-, hl, -⟩ := h q.other
  simp only [exchangeLanes_squad, exchangeLanes_lane]
  exact ⟨hh, by rw [← hc, hl, Side.other_other], by rw [hc]⟩

theorem keepsRecords_returnHome (s : State) : KeepsRecords s (returnHome s) := by
  refine keepsRecords_replaced (fun l => by rw [returnHome_lane]) (fun l => by rw [returnHome_lane])
    (fun h q => by rw [returnHome_squad]; exact h q) (fun h => ?_) rfl rfl
  rw [squadsPlaced_iff] at h ⊢
  intro q
  simp only [returnHome_squad, returnHome_lane, fun q => (h q).1, and_self]

theorem keepsRecords_swapSquads (f : Nat) (s : State) : KeepsRecords s (swapSquads f s) := by
  have h1 := (keepsRecords_exchangeLanes s).trans ((keepsRecords_toRound .b (fun _ => f + 1) _).trans
    (keepsRecords_toRound .a (fun _ => f + 1) _))
  have h2 := h1.trans ((keepsRecords_writeNextDeck .b fullRack _).trans (keepsRecords_writeNextDeck .a fullRack _))
  exact h2.trans ((keepsRecords_dropSwapHolds _).trans ((keepsRecords_clearReopens _).trans
    (quiet_bothChanged _).keepsRecords))

theorem keepsRecords_waitForSwap (q : SquadId) (l : Lane) (s : State) : KeepsRecords s (waitForSwap q l s) :=
  KeepsRecords.trans (.modSquad rfl rfl id) (quiet_addHold l .swap _).keepsRecords

theorem keepsRecords_endPairGame (q : SquadId) (s : State) : KeepsRecords s (endPairGame q s) := by
  have h1 := (keepsRecords_mapOrder .b convertWaiting s).trans (keepsRecords_mapOrder .a convertWaiting _)
  have h2 := h1.trans ((keepsRecords_returnHome _).trans ((keepsRecords_dropSwapHolds _).trans
    (keepsRecords_clearReopens _)))
  unfold endPairGame
  dsimp only
  split
  · exact h2.trans ((keepsRecords_startSquadGame .a _ _).trans ((keepsRecords_startSquadGame .b _ _).trans
      (((quiet_creditShort .a .a _).trans (quiet_creditShort .b .b _)).trans (quiet_bothChanged _)).keepsRecords))
  · exact h2.trans ((keepsRecords_formed .b _).trans ((keepsRecords_formed .a _).trans
      ((keepsRecords_setLaneState .b _ (by decide)).trans ((keepsRecords_setLaneState .a _ (by decide)).trans
      (quiet_bothChanged _).keepsRecords))))

theorem keepsRecords_reachGameDone (q : SquadId) (l : Lane) (s : State) : KeepsRecords s (reachGameDone q l s) := by
  have h1 : KeepsRecords s (modSquad q (fun v => { v with state := .gameDone, slot := none }) (storeTotals q s)) :=
    (keepsRecords_mapOrder q completeGame s).trans (.modSquad rfl rfl id)
  have h2 := h1.trans (quiet_raiseLane .game l _).keepsRecords
  unfold reachGameDone
  dsimp only
  split
  · exact h2.trans (keepsRecords_endPairGame q _)
  · exact h2.trans (quiet_addHold l .swap _).keepsRecords

theorem keepsRecords_roundDone (q : SquadId) (l : Lane) (s : State) : KeepsRecords s (roundDone q l s) := by
  have h1 := ((quiet_raiseLane .frame l s).trans (quiet_reportRound l _)).keepsRecords
  unfold roundDone
  dsimp only
  split
  · refine h1.trans ?_
    unfold roundDoneSingle
    split
    · exact keepsRecords_toRound q (fun v => v.round + 1) _
    · exact (keepsRecords_mapOrder q completeGame _).trans ((keepsRecords_mapOrder q convertWaiting _).trans
        ((quiet_raiseLane .game l _).keepsRecords.trans (keepsRecords_afterGame q l _)))
  · refine h1.trans ?_
    unfold roundDoneCross
    dsimp only
    split
    · split
      · exact keepsRecords_swapSquads _ _
      · exact keepsRecords_waitForSwap q l _
    · exact keepsRecords_reachGameDone q l _

theorem keepsRecords_chooseNext (q : SquadId) (l : Lane) (s : State) : KeepsRecords s (chooseNext q l s) := by
  unfold chooseNext
  dsimp only
  split
  · exact (keepsRecords_writeNextDeck l fullRack s).trans (.modSquad rfl rfl id)
  · exact (keepsRecords_writeNextDeck l fullRack s).trans (keepsRecords_roundDone q l _)

theorem keepsRecords_chooseAnew (q : SquadId) (s : State) : KeepsRecords s (chooseAnew q s) :=
  (keepsRecords_setReopen _ none s).trans (keepsRecords_chooseNext q _ _)

/-- The bowler at a slot rewritten. -/
theorem keepsRecords_setBowler (q : SquadId) (n : Nat) (b : Squad → Bowler) (s : State) :
    KeepsRecords s (modSquad q (fun v => { v with order := setBowler v.order n (b v) }) s) :=
  .modSquad rfl rfl (by simp [setBowler])

theorem keepsRecords_recordBall (l : Lane) (leave : Leave) (foul : Bool) (source : Source) (s : State) :
    KeepsRecords s (recordBall l leave foul source s).1 := by
  unfold recordBall
  dsimp only
  split
  next n b _ _ =>
    have h1 := (keepsRecords_setBowler (s.lane l).squad n (fun _ => bowlerWithBall (s.squad (s.lane l).squad).round
      (recordedEntry (s.squad (s.lane l).squad) (s.sup l).nextDeck leave foul source) b) s).trans
      (quiet_countMismatch l (recordedEntry (s.squad (s.lane l).squad) (s.sup l).nextDeck leave foul source) _).keepsRecords
    split
    · exact h1.trans ((keepsRecords_setReopen l _ _).trans ((keepsRecords_chooseNext _ l _).trans
        (quiet_raiseLane .ball l _).keepsRecords))
    · exact h1.trans ((keepsRecords_setReopen l none _).trans (KeepsRecords.trans (.modSquad rfl rfl id)
        ((keepsRecords_writeNextDeck l _ _).trans (quiet_raiseLane .ball l _).keepsRecords)))
  next => exact .refl s

theorem keepsRecords_rotateCorrected (q : SquadId) (l : Lane) (n k : Nat) (before after : List BallEntry) (s : State) :
    KeepsRecords s (rotateCorrected q l n k before after s) := by
  unfold rotateCorrected
  split
  · exact keepsRecords_writeNextDeck l _ s
  · split
    · exact (keepsRecords_setReopen l _ s).trans (keepsRecords_chooseNext q l _)
    · exact keepsRecords_chooseNext q l s
  · exact KeepsRecords.trans (.modSquad rfl rfl id) ((keepsRecords_writeNextDeck l _ _).trans
      (keepsRecords_setReopen l none _))
  · exact .refl s

/-- The split renames the squads by where they stand (R102). -/
theorem renameSquads_of_home {s : State} (h : (s.squad .a).current = .a) : renameSquads s = s := if_pos h

theorem renameSquads_squad {s : State} (h : (s.squad .a).current ≠ .a) (q : SquadId) :
    (renameSquads s).squad q = { s.squad q.other with home := q, current := q } := by
  unfold renameSquads
  rw [if_neg h]
  cases q <;> rfl

theorem renameSquads_lane {s : State} (h : (s.squad .a).current ≠ .a) (l : Lane) :
    (renameSquads s).lane l = { s.lane l with
      squad := l, reopen := (s.lane l).reopen.map fun m => { m with squad := m.squad.other } } := by
  unfold renameSquads
  rw [if_neg h]
  cases l <;> rfl

theorem keepsRecords_renameSquads (s : State) : KeepsRecords s (renameSquads s) := by
  by_cases h : (s.squad .a).current = .a
  · rw [renameSquads_of_home h]; exact .refl s
  · refine keepsRecords_replaced (fun l => by rw [renameSquads_lane h]) (fun l => by rw [renameSquads_lane h])
      (fun ho q => by rw [renameSquads_squad h]; exact ho q.other) (fun hp => ?_) (by simp) (by simp)
    simp only [squadsPlaced_iff, renameSquads_squad h, renameSquads_lane h, and_self, implies_true]

theorem keepsRecords_splitSquad (q : SquadId) (s : State) : KeepsRecords s (splitSquad q s) := by
  unfold splitSquad
  dsimp only
  split
  · exact (keepsRecords_toRound q (fun v => v.round + 1) s).trans (keepsRecords_writeNextDeck _ fullRack _)
  · exact (keepsRecords_mapOrder q convertWaiting s).trans (keepsRecords_afterGame q _ _)
  · exact .refl s

/-- The pair mode rewritten. -/
theorem keepsRecords_pairMode (m : PairMode) (s : State) : KeepsRecords s { s with pairMode := m } :=
  .of_board id id id rfl rfl rfl

theorem keepsRecords_splitRecords (s : State) : KeepsRecords s (splitRecords s) :=
  (keepsRecords_pairMode .single s).trans ((keepsRecords_renameSquads _).trans ((keepsRecords_dropSwapHolds _).trans
    ((keepsRecords_splitSquad .a _).trans (keepsRecords_splitSquad .b _))))

theorem keepsRecords_endSession (l : Lane) (s : State) : KeepsRecords s (endSession l s) := by
  have h1 := (keepsRecords_setLaneState (st := .closing) l s (by decide))
  have h2 : KeepsRecords (setLaneState l .closing s) (freezeSession l (setLaneState l .closing s)) :=
    KeepsRecords.trans (.modLane rfl fun hc h => h hc) (quiet_raiseLane .closed l _).keepsRecords
  exact h1.trans (h2.trans ((keepsRecords_formed _ _).trans (keepsRecords_writeNextDeck l fullRack _)))

theorem keepsRecords_openEffect (l : Lane) (m : AccountMode) (credit warn : Nat) (s : State) :
    KeepsRecords s (openEffect l m credit warn s) :=
  KeepsRecords.trans (.modLane rfl fun hc => by cases hc) (quiet_wake l _).keepsRecords

theorem keepsRecords_beginGames (q : SquadId) (g : Games) (s : State) : KeepsRecords s (beginGames q g s) :=
  KeepsRecords.trans (.modSquad rfl rfl id) (keepsRecords_startSquadGame q 1 _)

theorem keepsRecords_mapReopens (f : ReopenMark → Option ReopenMark) (s : State) : KeepsRecords s (mapReopens f s) :=
  KeepsRecords.trans (.modLane rfl fun hc h => h hc) (.modLane rfl fun hc h => h hc)

theorem keepsRecords_modBowler (q : SquadId) (n : Nat) (f : Bowler → Bowler) (s : State) :
    KeepsRecords s (modBowler q n f s) := by
  refine .modSquad ?_ ?_ ?_ <;> split <;> simp [setBowler]

theorem keepsRecords_withoutBowler (q : SquadId) (n : Nat) (s : State) : KeepsRecords s (withoutBowler q n s) := by
  refine KeepsRecords.trans (.modSquad rfl rfl fun h => ?_) (keepsRecords_mapReopens _ _)
  exact (List.length_eraseIdx_le _ _).trans h

theorem keepsRecords_withAbsent (q : SquadId) (n blind : Nat) (s : State) : KeepsRecords s (withAbsent q n blind s) :=
  (keepsRecords_modBowler q n _ s).trans (keepsRecords_mapReopens _ _)

/-- A bowler moved leaves the order as long as it was. -/
theorem moveInOrder_length {order : List Bowler} {j : Nat} (i : Nat) (h1 : 1 ≤ j) (hj : j ≤ order.length) :
    (moveInOrder order i j).length = order.length := by
  unfold moveInOrder
  split
  · rfl
  next b hb =>
    obtain ⟨hi, hb⟩ := bowlerAt_eq_some hb
    have hlt := (List.getElem?_eq_some_iff.mp hb).1
    rw [List.length_insertIdx, List.length_eraseIdx]
    simp only [hlt, if_true]
    split <;> omega

/-- The retained records at their cold-start values (R170). -/
theorem keepsRecords_coldPair (s : State) : KeepsRecords s (coldPair s) := by
  refine .of_board (fun _ l _ => ?_) (fun _ q => ?_) (fun _ => ?_) rfl rfl rfl
  · cases l <;> rfl
  · cases q <;> exact Nat.zero_le _
  · exact ⟨fun q => by cases q <;> rfl, fun q => by cases q <;> rfl, nofun⟩

/-- A supply record written (R168, R170). -/
theorem keepsRecords_supply {v : Supply} (s : State) (h : v.state = .main → v.retention = true) :
    KeepsRecords s { s with supply := v } := .of_stock ⟨rfl, rfl, rfl⟩ (fun _ => h) id rfl fun _ => le_rfl

theorem keepsRecords_coldRecords (s : State) : KeepsRecords s (coldRecords s) :=
  (keepsRecords_coldPair s).trans
    (.of_stock ⟨rfl, rfl, rfl⟩ id id rfl fun _ => le_rfl)

/-- A start of the core writes the records of lanes and squads on their places (R169). -/
theorem keepsRecords_startOn (k : StartKind) (s : State) : KeepsRecords s (startOn k s) := by
  have hlane : ∀ l, ((startOn k s).lane l).squad = (s.lane l).squad := by
    intro l; rw [startOn_lane]; split <;> rfl
  have hplace : ∀ q, ((startOn k s).squad q).home = (s.squad q).home ∧
      ((startOn k s).squad q).current = (s.squad q).current := by
    intro q; rw [startOn_squad]; split <;> exact ⟨rfl, rfl⟩
  have hsup : (startOn k s).supply = (startCore k s).supply := by rw [startOn_eq]; simp only [restartCycle_frame]; rfl
  have hstore : (startOn k s).rates.store = s.rates.store := by rw [startOn_eq]; simp only [restartCycle_frame]; rfl
  refine ⟨fun h l => ?_, fun h q => ?_, fun h => ?_, fun _ _ => by rw [hsup]; rfl, ?_, by rw [hstore], fun n => ?_⟩
  · rw [startOn_lane]
    split
    · exact fun _ => rfl
    · intro hc
      have hc' : (s.lane l).state = .closed := hc
      simpa [LaneRec.startedOpen, LaneRec.restarted, hc'] using h l hc'
  · rw [startOn_squad]
    split
    · exact Nat.zero_le _
    · exact h q
  · simpa only [Safety.SquadsPlaced, hlane, fun q => (hplace q).1, fun q => (hplace q).2] using h
  · unfold Safety.StoreUnworn; rw [hstore]; exact id
  · rw [storedEntry, storedEntry, hstore]

/-- A stored entry rewritten, its write count not lowered and at most 32 (R146). -/
theorem keepsRecords_modStored {n : Nat} {f : StoredEntry → StoredEntry} (s : State)
    (hf : (storedEntry s n).writes ≤ (f (storedEntry s n)).writes)
    (hw : (storedEntry s n).writes ≤ 32 → (f (storedEntry s n)).writes ≤ 32) : KeepsRecords s (modStored n f s) := by
  refine .of_stock ⟨rfl, rfl, rfl⟩ id (fun h x hx => ?_) (List.length_set ..) (fun k => ?_)
  · rcases List.mem_or_eq_of_mem_set hx with hx | rfl
    · exact h x hx
    · refine hw ?_
      by_cases hn : n < s.rates.store.length
      · have hs : storedEntry s n = s.rates.store[n] := by simp [storedEntry, List.getD, hn]
        rw [hs]; exact h _ (List.getElem_mem hn)
      · simp [storedEntry, List.getD, hn, StoredEntry.blank]
  · have hk : storedEntry (modStored n f s) k =
        if n = k ∧ n < s.rates.store.length then f (storedEntry s n) else storedEntry s k := by
      simp only [storedEntry, modStored, modRates_rates, List.getD, List.getElem?_set]
      by_cases hnk : n = k
      · subst hnk
        by_cases hn : n < s.rates.store.length <;> simp [hn]
      · simp [hnk]
    rw [hk]
    split
    next h => exact h.1 ▸ hf
    next => exact le_rfl

theorem Play.keepsRecords (h : Play s t) : KeepsRecords s t := by
  cases h with
  | opens => exact keepsRecords_openEffect _ _ _ _ s
  | closes => exact keepsRecords_endSession _ s
  | closesPair => exact (keepsRecords_splitRecords s).trans (keepsRecords_endSession _ _)
  | starts => exact (keepsRecords_beginGames _ _ s).trans (keepsRecords_setLaneState _ _ (by decide))
  | startsPair =>
    exact (keepsRecords_beginGames .a _ s).trans ((keepsRecords_beginGames .b _ _).trans
      ((keepsRecords_setLaneState .a _ (by decide)).trans (keepsRecords_setLaneState .b _ (by decide))))
  | adds h => exact .modSquad rfl rfl fun _ => by simp; omega
  | removes => exact keepsRecords_withoutBowler _ _ s
  | removesCurrent => exact (keepsRecords_withoutBowler _ _ s).trans (keepsRecords_chooseAnew _ _)
  | moves _ h1 hj =>
    exact KeepsRecords.trans (.modSquad rfl rfl fun h => (moveInOrder_length _ h1 hj).trans_le h)
      (keepsRecords_mapReopens _ _)
  | absents => exact keepsRecords_withAbsent _ _ _ s
  | absentsCurrent => exact (keepsRecords_withAbsent _ _ _ s).trans (keepsRecords_chooseAnew _ _)
  | presents => exact keepsRecords_modBowler _ _ _ s
  | corrects => exact (keepsRecords_setBowler _ _ _ s).trans (keepsRecords_rotateCorrected _ _ _ _ _ _ _)
  | records => exact keepsRecords_recordBall _ _ _ _ s
  | joins | splits => exact keepsRecords_pairMode _ s
  | forces => exact keepsRecords_splitRecords s
  | parks => exact (quiet_endCycle _ _ s).keepsRecords.trans (keepsRecords_park _ _ _)
  | programs h =>
    exact KeepsRecords.trans
      (keepsRecords_modStored (f := fun x => { x with state := .compromised, writes := x.writes + 1 }) s
        (Nat.le_succ _) fun _ => h)
      (.of_stock ⟨rfl, rfl, rfl⟩ id id rfl fun _ => le_rfl)
  | stores => exact keepsRecords_modStored s le_rfl id
  | fails h => exact keepsRecords_supply s fun hm => by simp [h] at hm
  | loses h => exact (keepsRecords_coldRecords s).trans (keepsRecords_supply _ fun hm => by simp [h] at hm)
  | restarts => exact keepsRecords_startOn _ s
  | coldStarts => exact (keepsRecords_coldRecords s).trans (keepsRecords_startOn _ _)
  | resets => exact keepsRecords_coldPair s

theorem Goes.keepsRecords (h : Goes s t) : KeepsRecords s t := by
  obtain ⟨u, hq, hc | ⟨v, hp, hc⟩⟩ := h
  · exact hq.keepsRecords.trans hc.keepsRecords
  · exact hq.keepsRecords.trans (hp.keepsRecords.trans hc.keepsRecords)

end

/-- Settles O12: what a step can do, and that each such move keeps the records. -/
theorem stepKeepsRecords : Obligations.StepKeepsRecords := by
  unfold Obligations.StepKeepsRecords
  intro s t ht
  have h := (goes_step ht).keepsRecords
  refine ⟨h.unheld, h.fit, h.placed, h.retained, h.unworn, h.length, fun n x y hx hy => ?_⟩
  simpa [storedEntry, List.getD, hx, hy] using h.writes n

end Sys2Proof.Machine

namespace Sys2Proof.Machine

/-! ### Sheets and pending lists (chapter 2) -/

theorem frameAt_setFrame {sheet : List FrameRec} {k j : Nat} (f : FrameRec) (hk : 1 ≤ k) (hl : k ≤ sheet.length)
    (hj : 1 ≤ j) : frameAt (setFrame sheet k f) j = if j = k then f else frameAt sheet j := by
  unfold frameAt setFrame
  rw [List.getD, List.getD, List.getElem?_set]
  by_cases h : j = k
  · subst h
    rw [if_pos rfl, if_pos (by omega), if_pos rfl, Option.getD_some]
  · rw [if_neg (by omega), if_neg h]

@[simp] theorem setFrame_length (sheet : List FrameRec) (k : Nat) (f : FrameRec) :
    (setFrame sheet k f).length = sheet.length := List.length_set ..

@[simp] theorem payPending_length (c : Nat) (pending : List Nat) (sheet : List FrameRec) :
    (payPending c pending sheet).length = sheet.length := by
  unfold payPending
  induction pending generalizing sheet with
  | nil => rfl
  | cons k rest ih => rw [List.foldl_cons, ih, setFrame_length]

/-- The bonus step pays each frame of the list once (R36). -/
theorem frameAt_payPending {c j : Nat} {pending : List Nat} {sheet : List FrameRec} (hd : pending.Nodup)
    (hr : ∀ k ∈ pending, 1 ≤ k ∧ k ≤ sheet.length) (hj : 1 ≤ j) :
    frameAt (payPending c pending sheet) j =
      if j ∈ pending then payFrame c (frameAt sheet j) else frameAt sheet j := by
  induction pending generalizing sheet with
  | nil => simp [payPending]
  | cons k rest ih =>
    obtain ⟨hk, hd⟩ := List.nodup_cons.mp hd
    obtain ⟨h1, hl⟩ := hr k List.mem_cons_self
    have hstep : payPending c (k :: rest) sheet = payPending c rest (setFrame sheet k (payFrame c (frameAt sheet k))) := rfl
    rw [hstep, ih hd (fun x hx => by simpa using hr x (List.mem_cons_of_mem k hx)), frameAt_setFrame _ h1 hl hj]
    by_cases hjk : j = k
    · subst hjk; simp [hk]
    · simp [hjk]

/-! ### Frames become final -/

@[simp] theorem finalise_length (k p : Nat) (sheet : List FrameRec) : (finalise k p sheet).length = sheet.length := by
  induction sheet generalizing k p with
  | nil => rfl
  | cons f rest ih => unfold finalise; split <;> (try split) <;> simp [ih]

/-- A frame that becomes final is complete and owed nothing; nothing else changes (R37). -/
theorem finalise_getElem? {k p i : Nat} {sheet : List FrameRec} {f : FrameRec} (h : sheet[i]? = some f) :
    ∃ t, (finalise k p sheet)[i]? = some { f with total := t } ∧
      (t ≠ none → f.total ≠ none ∨ (ballsComplete (k + i) f.balls = true ∧ f.owed = 0)) := by
  induction sheet generalizing k p i with
  | nil => simp at h
  | cons g rest ih =>
    unfold finalise
    cases i with
    | zero =>
      cases h
      cases hg : f.total with
      | some t => exact ⟨some t, by simp [← hg], by simp⟩
      | none =>
        dsimp only
        split
        next hd => exact ⟨_, rfl, fun _ => .inr (by simpa using hd)⟩
        next => exact ⟨none, by simp [← hg], by simp⟩
    | succ i =>
      have hi : rest[i]? = some f := by simpa using h
      cases g.total with
      | some t => simpa [Nat.add_assoc, Nat.add_comm 1 i] using ih (k := k + 1) (p := t) hi
      | none =>
        dsimp only
        split
        · simpa [Nat.add_assoc, Nat.add_comm 1 i] using ih (k := k + 1) (p := p + g.base + g.bonus) hi
        · exact ⟨f.total, by simpa using hi, .inl⟩

/-- No total stands before one on every earlier frame (R37). -/
def TotalsInOrder (sheet : List FrameRec) : Prop := sheet.Pairwise fun g f => f.total ≠ none → g.total ≠ none

theorem finalise_totalsInOrder {k p : Nat} {sheet : List FrameRec} (h : TotalsInOrder sheet) :
    TotalsInOrder (finalise k p sheet) := by
  unfold TotalsInOrder at h ⊢
  induction sheet generalizing k p with
  | nil => exact .nil
  | cons f rest ih =>
    obtain ⟨-, hr⟩ := List.pairwise_cons.mp h
    unfold finalise
    split
    next t ht => exact List.pairwise_cons.mpr ⟨fun _ _ _ => by simp [ht], ih hr⟩
    next =>
      split
      · exact List.pairwise_cons.mpr ⟨fun _ _ _ => by simp, ih hr⟩
      · exact h

/-- The frame records of a sheet that becomes final. -/
theorem frameAt_finalise {sheet : List FrameRec} {k : Nat} (hk : 1 ≤ k) :
    ∃ t, frameAt (finalise 1 0 sheet) k = { frameAt sheet k with total := t } ∧
      (t ≠ none → (frameAt sheet k).total ≠ none ∨
        (ballsComplete k (frameAt sheet k).balls = true ∧ (frameAt sheet k).owed = 0)) := by
  unfold frameAt
  cases h : sheet[k - 1]? with
  | some f =>
    obtain ⟨t, ht, hc⟩ := finalise_getElem? (k := 1) (p := 0) h
    rw [show 1 + (k - 1) = k by omega] at hc
    exact ⟨t, by simp [List.getD, ht, h], by simpa [List.getD, h] using hc⟩
  | none =>
    have hn : (finalise 1 0 sheet)[k - 1]? = none := by
      rw [List.getElem?_eq_none_iff] at h ⊢
      simpa using h
    exact ⟨none, by simp [List.getD, hn, h, unbowledFrame], by simp⟩

/-! ### Sound sheets, frame by frame -/

/-- A frame record that play can leave at place `k`. -/
structure FrameOk (k : Nat) (f : FrameRec) : Prop where
  balls : ∀ n, n < f.balls.length → ballsComplete k (f.balls.take n) = false
  owed : f.owed ≠ 0 → ballsComplete k f.balls = true ∧ f.owed ≤ owedWhenComplete k f.balls
  total : f.total ≠ none → ballsComplete k f.balls = true ∧ f.owed = 0

/-- `Safety.SheetSound` of a sheet and its pending list, frame by frame. -/
structure SheetOk (sheet : List FrameRec) (pending : List Nat) : Prop where
  length : sheet.length = 10
  frame : ∀ k, 1 ≤ k → k ≤ 10 → FrameOk k (frameAt sheet k)
  totals : TotalsInOrder sheet
  order : pending.Pairwise fun j k => j < k ∧ (frameAt sheet j).owed = 1
  few : pending.length ≤ 2
  owes : ∀ k, k ∈ pending ↔ 1 ≤ k ∧ k ≤ 9 ∧ (frameAt sheet k).owed ≠ 0

theorem totalsInOrder_iff {sheet : List FrameRec} (hl : sheet.length = 10) :
    TotalsInOrder sheet ↔ ∀ k, 1 ≤ k → k ≤ 10 → (frameAt sheet k).total ≠ none →
      ∀ j, 1 ≤ j → j < k → (frameAt sheet j).total ≠ none := by
  have hat : ∀ i (hi : i < sheet.length), frameAt sheet (i + 1) = sheet[i] := by
    intro i hi; simp [frameAt, List.getD, hi]
  unfold TotalsInOrder
  rw [List.pairwise_iff_getElem]
  constructor
  · intro h k h1 h10 ht j hj hjk
    obtain ⟨i, rfl⟩ : ∃ i, k = i + 1 := ⟨k - 1, by omega⟩
    obtain ⟨n, rfl⟩ : ∃ n, j = n + 1 := ⟨j - 1, by omega⟩
    rw [hat _ (by omega)] at ht ⊢
    exact h n i (by omega) (by omega) (by omega) ht
  · intro h n i hn hi hni ht
    rw [← hat i hi] at ht
    rw [← hat n hn]
    exact h (i + 1) (by omega) (by omega) ht (n + 1) (by omega) (by omega)

theorem sheetSound_iff (b : Bowler) : Safety.SheetSound b ↔ SheetOk b.sheet b.pending := by
  constructor
  · rintro ⟨hl, hb, ho, hf, hp, hw, ht⟩
    exact ⟨hl, fun k h1 h10 => ⟨hb k h1 h10, hw k h1 h10, fun hn => ⟨(ht k h1 h10 hn).1, (ht k h1 h10 hn).2.1⟩⟩,
      (totalsInOrder_iff hl).mpr fun k h1 h10 hn => (ht k h1 h10 hn).2.2, ho, hf, hp⟩
  · intro h
    refine ⟨h.length, fun k h1 h10 => (h.frame k h1 h10).balls, h.order, h.few, h.owes,
      fun k h1 h10 => (h.frame k h1 h10).owed, fun k h1 h10 hn => ?_⟩
    obtain ⟨hc, ho⟩ := (h.frame k h1 h10).total hn
    exact ⟨hc, ho, (totalsInOrder_iff h.length).mp h.totals k h1 h10 hn⟩

/-- The first `n` balls of an unfinished frame; no ball is complete at once. -/
@[simp] theorem ballsComplete_nil (k : Nat) : ballsComplete k [] = false := by
  unfold ballsComplete
  split <;> simp [firstIsStrike]

@[simp] theorem frameAt_emptySheet (k : Nat) : frameAt emptySheet k = unbowledFrame := by
  unfold frameAt emptySheet List.getD
  rw [List.getElem?_replicate]
  split <;> rfl

/-- The sheet at the start of a game (R47). -/
theorem sheetOk_empty : SheetOk emptySheet [] where
  length := rfl
  frame := fun k _ _ => by rw [frameAt_emptySheet]; exact ⟨by simp [unbowledFrame], by simp [unbowledFrame], by simp [unbowledFrame]⟩
  totals := List.pairwise_replicate.mpr (.inr fun h => absurd rfl h)
  order := .nil
  few := by simp
  owes := by simp [unbowledFrame]

theorem owedWhenComplete_le (k : Nat) (balls : List BallEntry) : owedWhenComplete k balls ≤ 2 := by
  unfold owedWhenComplete
  split
  · split
    · exact le_rfl
    · split <;> omega
  · omega

theorem owedWhenComplete_tenth {k : Nat} (h : 9 < k) (balls : List BallEntry) : owedWhenComplete k balls = 0 :=
  if_neg (by omega)

namespace SheetOk
variable {sheet : List FrameRec} {pending : List Nat} {k : Nat}

/-- A frame on the list is complete. -/
theorem complete_of_pending (h : SheetOk sheet pending) {j : Nat} (hj : j ∈ pending) :
    frameComplete sheet j = true := by
  obtain ⟨h1, h9, ho⟩ := (h.owes j).mp hj
  exact ((h.frame j h1 (by omega)).owed ho).1

/-- The frames on the list stand before an unfinished frame behind which nothing is bowled (R36). -/
theorem pending_lt (h : SheetOk sheet pending) (hk : frameComplete sheet k = false)
    (hafter : ∀ j, k < j → j ≤ 10 → (frameAt sheet j).balls = []) : ∀ j ∈ pending, j < k := by
  intro j hj
  have hc := h.complete_of_pending hj
  obtain ⟨h1, h9, -⟩ := (h.owes j).mp hj
  rcases lt_trichotomy j k with hlt | rfl | hgt
  · exact hlt
  · simp [hk] at hc
  · simp [frameComplete, hafter j hgt (by omega)] at hc

theorem owed_of_incomplete (h : SheetOk sheet pending) (h1 : 1 ≤ k) (h10 : k ≤ 10) (hk : frameComplete sheet k = false) :
    (frameAt sheet k).owed = 0 ∧ (frameAt sheet k).total = none := by
  constructor
  · by_contra ho
    simpa [frameComplete] using ((h.frame k h1 h10).owed ho).1.symm.trans hk
  · by_contra ht
    simpa [frameComplete] using ((h.frame k h1 h10).total ht).1.symm.trans hk

end SheetOk

section
variable {sheet : List FrameRec} {pending : List Nat} {k : Nat} (e : BallEntry)

/-- The sheet of a record before frames become final (R28, steps 2 to 4). -/
def takenSheet (k : Nat) (e : BallEntry) (sheet : List FrameRec) (pending : List Nat) : List FrameRec :=
  setFrame (payPending e.count pending sheet) k (appendBall k e (frameAt (payPending e.count pending sheet) k))

theorem scoreBall_sheet (k : Nat) (sheet : List FrameRec) (pending : List Nat) :
    (scoreBall k e sheet pending).1 = finalise 1 0 (takenSheet k e sheet pending) := rfl

theorem scoreBall_pending (k : Nat) (sheet : List FrameRec) (pending : List Nat) :
    (scoreBall k e sheet pending).2 =
      if (frameAt (takenSheet k e sheet pending) k).owed != 0 &&
          ballsComplete k (frameAt (takenSheet k e sheet pending) k).balls then
        stillOwing (payPending e.count pending sheet) pending ++ [k]
      else stillOwing (payPending e.count pending sheet) pending := rfl

/-- A frame of the sheet after a ball of frame `k`: the ball joins its frame, and the frames on the list are paid. -/
theorem frameAt_takenSheet (h : SheetOk sheet pending) (h1 : 1 ≤ k) (h10 : k ≤ 10) (hlt : ∀ j ∈ pending, j < k) {j : Nat}
    (hj : 1 ≤ j) :
    frameAt (takenSheet k e sheet pending) j =
      if j = k then appendBall k e (frameAt sheet k)
      else if j ∈ pending then payFrame e.count (frameAt sheet j) else frameAt sheet j := by
  have hd : pending.Nodup := h.order.imp fun hx => hx.1.ne
  have hr : ∀ x ∈ pending, 1 ≤ x ∧ x ≤ sheet.length := by
    intro x hx
    obtain ⟨hx1, hx9, -⟩ := (h.owes x).mp hx
    exact ⟨hx1, by rw [h.length]; omega⟩
  have hk : k ∉ pending := fun hx => lt_irrefl k (hlt k hx)
  unfold takenSheet
  rw [frameAt_setFrame _ h1 (by simp [h.length, h10]) hj, frameAt_payPending hd hr h1, if_neg hk, frameAt_payPending hd hr hj]

/-- The frames of a list that play can leave are paid one ball each. -/
theorem frameAt_paid (h : SheetOk sheet pending) {j : Nat} (hj : j ∈ pending) :
    frameAt (payPending e.count pending sheet) j = payFrame e.count (frameAt sheet j) := by
  have hr : ∀ x ∈ pending, 1 ≤ x ∧ x ≤ sheet.length := by
    intro x hx
    obtain ⟨hx1, hx9, -⟩ := (h.owes x).mp hx
    exact ⟨hx1, by rw [h.length]; omega⟩
  rw [frameAt_payPending (h.order.imp fun hx => hx.1.ne) hr (hr j hj).1, if_pos hj]

theorem mem_stillOwing (h : SheetOk sheet pending) {j : Nat} :
    j ∈ stillOwing (payPending e.count pending sheet) pending ↔ j ∈ pending ∧ (frameAt sheet j).owed = 2 := by
  unfold stillOwing
  rw [List.mem_filter]
  refine and_congr_right fun hj => ?_
  obtain ⟨h1, h9, ho⟩ := (h.owes j).mp hj
  have h2 := ((h.frame j h1 (by omega)).owed ho).2.trans (owedWhenComplete_le _ _)
  rw [frameAt_paid e h hj, bne_iff_ne]
  simp only [payFrame]
  omega

/-- After a payment at most one frame, the last, still owes (R36). -/
theorem stillOwing_cases (h : SheetOk sheet pending) :
    stillOwing (payPending e.count pending sheet) pending = [] ∨
      ∃ j, stillOwing (payPending e.count pending sheet) pending = [j] := by
  have hp := h.order.sublist (List.filter_sublist (p := fun k => (frameAt (payPending e.count pending sheet) k).owed != 0))
  have hm : ∀ j ∈ stillOwing (payPending e.count pending sheet) pending, (frameAt sheet j).owed = 2 := fun j hj =>
    ((mem_stillOwing e h).mp hj).2
  change (stillOwing (payPending e.count pending sheet) pending).Pairwise _ at hp
  match hs : stillOwing (payPending e.count pending sheet) pending with
  | [] => exact .inl rfl
  | [j] => exact .inr ⟨j, rfl⟩
  | j :: i :: rest =>
    rw [hs] at hp hm
    have hone := ((List.pairwise_cons.mp hp).1 i List.mem_cons_self).2
    have htwo := hm j List.mem_cons_self
    omega

/-- A ball of an unfinished frame behind which nothing is bowled leaves a sound frame (R28, R31 to R33). -/
theorem frameOk_takenSheet (h : SheetOk sheet pending) (h1 : 1 ≤ k) (h10 : k ≤ 10) (hk : frameComplete sheet k = false)
    (hlt : ∀ j ∈ pending, j < k) {j : Nat} (hj : 1 ≤ j) (hj10 : j ≤ 10) :
    FrameOk j (frameAt (takenSheet k e sheet pending) j) := by
  have hf := h.frame j hj hj10
  rw [frameAt_takenSheet e h h1 h10 hlt hj]
  split
  next hjk =>
    subst hjk
    obtain ⟨ho, ht⟩ := h.owed_of_incomplete h1 h10 hk
    refine ⟨fun n hn => ?_, fun hn => ?_, fun hn => absurd ht hn⟩
    · simp only [appendBall, List.length_append, List.length_singleton] at hn ⊢
      rw [List.take_append_of_le_length (by omega)]
      rcases Nat.lt_or_ge n (frameAt sheet j).balls.length with hlt' | hge
      · exact hf.balls n hlt'
      · rw [List.take_of_length_le hge]; exact hk
    · simp only [appendBall] at hn ⊢
      split at hn
      next hc => exact ⟨hc, by rw [if_pos hc]⟩
      next => exact absurd ho hn
  next =>
    split
    next hjp =>
      refine ⟨hf.balls, fun hn => ?_, fun hn => ?_⟩
      · simp only [payFrame] at hn ⊢
        obtain ⟨hc, hle⟩ := hf.owed (by omega)
        exact ⟨hc, by omega⟩
      · exact absurd (hf.total hn).2 ((h.owes j).mp hjp).2.2
    next => exact hf

theorem totalsInOrder_takenSheet (h : SheetOk sheet pending) (h1 : 1 ≤ k) (h10 : k ≤ 10) (hlt : ∀ j ∈ pending, j < k) :
    TotalsInOrder (takenSheet k e sheet pending) := by
  have htot : ∀ j, 1 ≤ j → (frameAt (takenSheet k e sheet pending) j).total = (frameAt sheet j).total := by
    intro j hj
    rw [frameAt_takenSheet e h h1 h10 hlt hj]
    split
    next hjk => subst hjk; rfl
    next => split <;> rfl
  have hlen : (takenSheet k e sheet pending).length = 10 := by simp [takenSheet, h.length]
  rw [totalsInOrder_iff hlen]
  intro i hi hi10 ht j hj hji
  rw [htot i hi] at ht
  rw [htot j hj]
  exact (totalsInOrder_iff h.length).mp h.totals i hi hi10 ht j hj hji

/-- A frame after the whole record: as taken, but for a total. -/
theorem frameAt_scoreBall {j : Nat} (hj : 1 ≤ j) :
    ∃ t, frameAt (scoreBall k e sheet pending).1 j = { frameAt (takenSheet k e sheet pending) j with total := t } ∧
      (t ≠ none → (frameAt (takenSheet k e sheet pending) j).total ≠ none ∨
        (ballsComplete j (frameAt (takenSheet k e sheet pending) j).balls = true ∧
          (frameAt (takenSheet k e sheet pending) j).owed = 0)) := frameAt_finalise hj

/-- The balls after a record (R28, step 2). -/
theorem scoreBall_balls (h : SheetOk sheet pending) (h1 : 1 ≤ k) (h10 : k ≤ 10) (hlt : ∀ j ∈ pending, j < k) {j : Nat}
    (hj : 1 ≤ j) :
    (frameAt (scoreBall k e sheet pending).1 j).balls =
      if j = k then (frameAt sheet k).balls ++ [e] else (frameAt sheet j).balls := by
  obtain ⟨t, ht, -⟩ := frameAt_scoreBall (k := k) (sheet := sheet) (pending := pending) e hj
  rw [ht]
  dsimp only
  rw [frameAt_takenSheet e h h1 h10 hlt hj]
  split
  · rfl
  · split <;> rfl

/-- What a frame owes after a record (R28, R36). -/
theorem scoreBall_owed (h : SheetOk sheet pending) (h1 : 1 ≤ k) (h10 : k ≤ 10) (hk : frameComplete sheet k = false)
    (hlt : ∀ j ∈ pending, j < k) {j : Nat} (hj : 1 ≤ j) :
    (frameAt (scoreBall k e sheet pending).1 j).owed =
      if j = k then
        (if ballsComplete k ((frameAt sheet k).balls ++ [e]) = true then
          owedWhenComplete k ((frameAt sheet k).balls ++ [e]) else 0)
      else if j ∈ pending then (frameAt sheet j).owed - 1 else (frameAt sheet j).owed := by
  obtain ⟨t, ht, -⟩ := frameAt_scoreBall (k := k) (sheet := sheet) (pending := pending) e hj
  rw [ht]
  dsimp only
  rw [frameAt_takenSheet e h h1 h10 hlt hj]
  split
  · simp only [appendBall, (h.owed_of_incomplete h1 h10 hk).1]
  · split <;> rfl

/-- The pending list after a record (R36, R38). -/
theorem scoreBall_pending_eq (h : SheetOk sheet pending) (h1 : 1 ≤ k) (h10 : k ≤ 10) (hlt : ∀ j ∈ pending, j < k)
    (hk : frameComplete sheet k = false) :
    (scoreBall k e sheet pending).2 =
      if (frameAt (scoreBall k e sheet pending).1 k).owed ≠ 0 then
        stillOwing (payPending e.count pending sheet) pending ++ [k]
      else stillOwing (payPending e.count pending sheet) pending := by
  rw [scoreBall_pending, frameAt_takenSheet e h h1 h10 hlt h1, if_pos rfl, scoreBall_owed e h h1 h10 hk hlt h1, if_pos rfl]
  refine if_congr ?_ rfl rfl
  have ho := (h.owed_of_incomplete h1 h10 hk).1
  simp only [appendBall, ho]
  split <;> simp_all

/-- Recording a ball of an unfinished frame keeps a sheet sound (R28). -/
theorem sheetOk_scoreBall (h : SheetOk sheet pending) (h1 : 1 ≤ k) (h10 : k ≤ 10) (hk : frameComplete sheet k = false)
    (hlt : ∀ j ∈ pending, j < k) : SheetOk (scoreBall k e sheet pending).1 (scoreBall k e sheet pending).2 := by
  have howed := fun j hj => scoreBall_owed e h h1 h10 hk hlt (j := j) hj
  have hleft : ∀ j ∈ stillOwing (payPending e.count pending sheet) pending,
      j < k ∧ (frameAt (scoreBall k e sheet pending).1 j).owed = 1 := by
    intro j hj
    obtain ⟨hjp, h2⟩ := (mem_stillOwing e h).mp hj
    have hjk := hlt j hjp
    exact ⟨hjk, by rw [howed j ((h.owes j).mp hjp).1, if_neg hjk.ne, if_pos hjp, h2]⟩
  refine ⟨by simp [scoreBall_sheet, takenSheet, h.length], fun j hj hj10 => ?_,
    finalise_totalsInOrder (totalsInOrder_takenSheet e h h1 h10 hlt), ?_, ?_, fun j => ?_⟩
  · obtain ⟨t, ht, hc⟩ := frameAt_scoreBall (k := k) (sheet := sheet) (pending := pending) e hj
    have hf := frameOk_takenSheet e h h1 h10 hk hlt hj hj10
    rw [ht]
    exact ⟨hf.balls, hf.owed, fun hn => (hc hn).elim hf.total id⟩
  · rw [scoreBall_pending_eq e h h1 h10 hlt hk]
    rcases stillOwing_cases e h with hs | ⟨j, hs⟩ <;> rw [hs] at hleft ⊢ <;> split
    · simp
    · simp
    · simpa using hleft j List.mem_cons_self
    · simp
  · rw [scoreBall_pending_eq e h h1 h10 hlt hk]
    rcases stillOwing_cases e h with hs | ⟨j, hs⟩ <;> rw [hs] <;> split <;> simp
  · have hmem : j ∈ (scoreBall k e sheet pending).2 ↔
        (j ∈ pending ∧ (frameAt sheet j).owed = 2) ∨ (j = k ∧ (frameAt (scoreBall k e sheet pending).1 k).owed ≠ 0) := by
      rw [scoreBall_pending_eq e h h1 h10 hlt hk]
      split
      next ho => rw [List.mem_append, List.mem_singleton, mem_stillOwing e h]; simp [ho]
      next ho => rw [mem_stillOwing e h]; simp [ho]
    rw [hmem]
    by_cases hjk : j = k
    · subst hjk
      have hnp : j ∉ pending := fun hx => lt_irrefl j (hlt j hx)
      have h9 : (frameAt (scoreBall j e sheet pending).1 j).owed ≠ 0 → j ≤ 9 := by
        intro ho
        by_contra h9
        rw [howed j h1, if_pos rfl, owedWhenComplete_tenth (by omega)] at ho
        simp at ho
      simp only [hnp, false_and, false_or, true_and]
      exact ⟨fun ho => ⟨h1, h9 ho, ho⟩, fun hx => hx.2.2⟩
    · simp only [hjk, false_and, or_false]
      constructor
      · rintro ⟨hjp, h2⟩
        obtain ⟨hj1, hj9, -⟩ := (h.owes j).mp hjp
        exact ⟨hj1, hj9, by rw [howed j hj1, if_neg hjk, if_pos hjp, h2]; decide⟩
      · rintro ⟨hj1, hj9, ho⟩
        rw [howed j hj1, if_neg hjk] at ho
        split at ho
        next hjp =>
          have hne := ((h.owes j).mp hjp).2.2
          have h2 := ((h.frame j hj1 (by omega)).owed hne).2.trans (owedWhenComplete_le _ _)
          exact ⟨hjp, by omega⟩
        next hjp => exact absurd ((h.owes j).mpr ⟨hj1, hj9, ho⟩) hjp

end

end Sys2Proof.Machine

namespace Sys2Proof.Machine

/-! ### Rebuilding a sheet (R45) -/

/-- A ball entry but for its split mark, which is derived again (R39). -/
def BallEntry.bare (e : BallEntry) : BallEntry := { e with split := false }

@[simp] theorem isStrike_bare (e : BallEntry) : isStrike e.bare = isStrike e := rfl

@[simp] theorem firstIsStrike_bare (balls : List BallEntry) : firstIsStrike (balls.map BallEntry.bare) = firstIsStrike balls := by
  cases balls <;> rfl

@[simp] theorem countSum_bare (balls : List BallEntry) : countSum (balls.map BallEntry.bare) = countSum balls := by
  simp only [countSum, List.map_map]
  rfl

@[simp] theorem thirdAllowed_bare (balls : List BallEntry) : thirdAllowed (balls.map BallEntry.bare) = thirdAllowed balls := by
  simp [thirdAllowed, ← List.map_take]

@[simp] theorem ballsComplete_bare (k : Nat) (balls : List BallEntry) :
    ballsComplete k (balls.map BallEntry.bare) = ballsComplete k balls := by simp [ballsComplete]

@[simp] theorem nextLeave_bare (k : Nat) (balls : List BallEntry) :
    nextLeave k (balls.map BallEntry.bare) = nextLeave k balls := by
  match balls with
  | [] | [_] | [_, _] | _ :: _ :: _ :: _ => rfl

/-- Two lists of balls that differ in split marks alone. -/
def AlikeBalls (xs ys : List BallEntry) : Prop := xs.map BallEntry.bare = ys.map BallEntry.bare

section
variable {xs ys : List BallEntry}

theorem AlikeBalls.length (h : AlikeBalls xs ys) : xs.length = ys.length := by
  simpa using congrArg List.length h

theorem AlikeBalls.firstIsStrike (h : AlikeBalls xs ys) : firstIsStrike xs = firstIsStrike ys := by
  rw [← firstIsStrike_bare, h, firstIsStrike_bare]

theorem AlikeBalls.ballsComplete (h : AlikeBalls xs ys) (k : Nat) : ballsComplete k xs = ballsComplete k ys := by
  rw [← ballsComplete_bare, h, ballsComplete_bare]

theorem AlikeBalls.nextLeave (h : AlikeBalls xs ys) (k : Nat) : nextLeave k xs = nextLeave k ys := by
  rw [← nextLeave_bare, h, nextLeave_bare]

theorem AlikeBalls.nil_iff (h : AlikeBalls xs ys) : xs = [] ↔ ys = [] := by
  rw [← List.length_eq_zero_iff, ← List.length_eq_zero_iff, h.length]

end

/-- An entry whose count is the one derived from its leaves and foul flag (R29, R30). -/
def Counted (e : BallEntry) : Prop := e.count = ballCount e.faced e.after e.foul

theorem Counted.of_sound {e : BallEntry} (h : Safety.EntrySound e) : Counted e := h.2

/-- A counted entry is derived again as it was, but for its split mark (R39). -/
theorem Counted.bare_replayed {e : BallEntry} (h : Counted e) (k n : Nat) :
    (makeEntry k n e.faced e.after e.foul e.source e.mismatch).bare = e.bare := by
  unfold Counted at h
  simp only [BallEntry.bare, makeEntry, h]

/-- Balls that can be bowled in frame `k`, one after the other: each comes before the frame is complete. -/
def BowledInTurn (k : Nat) (balls : List BallEntry) : Prop :=
  ∀ n, n < balls.length → ballsComplete k (balls.take n) = false

/-- A sheet and pending list under way in a replay, with nothing bowled behind frame `k`. -/
structure ReplayOk (k : Nat) (acc : List FrameRec × List Nat) : Prop where
  ok : SheetOk acc.1 acc.2
  after : ∀ j, k < j → j ≤ 10 → (frameAt acc.1 j).balls = []

/-- The replay of balls that come in turn in frame `k` (R45). -/
theorem replayBalls_ok {k : Nat} (h1 : 1 ≤ k) (h10 : k ≤ 10) (n : Nat) (bs : List BallEntry)
    (acc : List FrameRec × List Nat) (h : ReplayOk k acc) (hs : ∀ e ∈ bs, Counted e)
    (ht : ∀ i, i < bs.length → ballsComplete k ((frameAt acc.1 k).balls ++ bs.take i) = false) :
    ReplayOk k (replayBalls k n bs acc) ∧
      (∀ j, 1 ≤ j → j ≠ k → (frameAt (replayBalls k n bs acc).1 j).balls = (frameAt acc.1 j).balls) ∧
      AlikeBalls (frameAt (replayBalls k n bs acc).1 k).balls ((frameAt acc.1 k).balls ++ bs) := by
  induction bs generalizing n acc with
  | nil => exact ⟨h, fun _ _ _ => rfl, by simp [replayBalls, AlikeBalls]⟩
  | cons e rest ih =>
    let e' := makeEntry k n e.faced e.after e.foul e.source e.mismatch
    have he : e'.bare = e.bare := (hs e List.mem_cons_self).bare_replayed k n
    have hk : frameComplete acc.1 k = false := by simpa [frameComplete] using ht 0 (by simp)
    have hlt := h.ok.pending_lt hk h.after
    have hballs := fun j hj => scoreBall_balls e' h.ok h1 h10 hlt (j := j) hj
    have hacc : ReplayOk k (scoreBall k e' acc.1 acc.2) :=
      ⟨sheetOk_scoreBall e' h.ok h1 h10 hk hlt, fun j hj hj10 => by
        rw [hballs j (by omega), if_neg (by omega)]; exact h.after j hj hj10⟩
    have hkb : (frameAt (scoreBall k e' acc.1 acc.2).1 k).balls = (frameAt acc.1 k).balls ++ [e'] := by
      rw [hballs k h1, if_pos rfl]
    have halike : ∀ zs, AlikeBalls ((frameAt acc.1 k).balls ++ [e'] ++ zs) ((frameAt acc.1 k).balls ++ e :: zs) := by
      intro zs; simp [AlikeBalls, he]
    obtain ⟨hr, hother, hsame⟩ := ih (n + 1) (scoreBall k e' acc.1 acc.2) hacc
      (fun x hx => hs x (List.mem_cons_of_mem e hx)) (fun i hi => by
        rw [hkb, (halike _).ballsComplete]
        simpa using ht (i + 1) (by simpa using hi))
    refine ⟨hr, fun j hj hjk => (hother j hj hjk).trans ?_, hsame.trans ?_⟩
    · rw [hballs j hj, if_neg hjk]
    · rw [hkb]; exact halike rest

/-- The replay of the frames from frame `k` on (R45). -/
theorem replayFrames_ok (k : Nat) (fs : List FrameRec) (acc : List FrameRec × List Nat) (h1 : 1 ≤ k)
    (hl : k + fs.length = 11) (h : ReplayOk (k - 1) acc)
    (hs : ∀ f ∈ fs, ∀ e ∈ f.balls, Counted e)
    (ht : ∀ i f, fs[i]? = some f → BowledInTurn (k + i) f.balls) :
    SheetOk (replayFrames k fs acc).1 (replayFrames k fs acc).2 ∧
      (∀ j, 1 ≤ j → j < k → (frameAt (replayFrames k fs acc).1 j).balls = (frameAt acc.1 j).balls) ∧
      ∀ i f, fs[i]? = some f → AlikeBalls (frameAt (replayFrames k fs acc).1 (k + i)).balls f.balls := by
  induction fs generalizing k acc with
  | nil => exact ⟨h.ok, fun _ _ _ => rfl, by simp⟩
  | cons f rest ih =>
    have hlen : k + (rest.length + 1) = 11 := hl
    have hempty : (frameAt acc.1 k).balls = [] := h.after k (by omega) (by omega)
    obtain ⟨hr, hother, hsame⟩ := replayBalls_ok h1 (by omega) 1 f.balls acc
      ⟨h.ok, fun j hj => h.after j (by omega)⟩ (hs f List.mem_cons_self)
      (by simpa [hempty] using fun i => ht 0 f rfl i)
    obtain ⟨hok, hbefore, hframes⟩ := ih (k + 1) (replayBalls k 1 f.balls acc) (by omega) (by omega) hr
      (fun g hg => hs g (List.mem_cons_of_mem f hg))
      (fun i g hg => by simpa [Nat.add_assoc, Nat.add_comm 1 i] using ht (i + 1) g (by simpa using hg))
    refine ⟨hok, fun j hj hjk => (hbefore j hj (by omega)).trans (hother j hj hjk.ne), fun i g hg => ?_⟩
    cases i with
    | zero =>
      cases hg
      have hk := hbefore k h1 (by omega)
      change AlikeBalls (frameAt (replayFrames (k + 1) rest (replayBalls k 1 f.balls acc)).1 k).balls f.balls
      rw [hk]
      simpa [hempty] using hsame
    | succ i => simpa [Nat.add_assoc, Nat.add_comm 1 i, replayFrames] using hframes i g (by simpa using hg)

/-- A sheet of ten frames with counted balls that come in turn is rebuilt as a sound sheet with the same balls (R45). -/
theorem rebuild_ok {sheet : List FrameRec} (hl : sheet.length = 10)
    (hs : ∀ f ∈ sheet, ∀ e ∈ f.balls, Counted e)
    (ht : ∀ k, 1 ≤ k → k ≤ 10 → BowledInTurn k (frameAt sheet k).balls) :
    SheetOk (rebuild sheet).1 (rebuild sheet).2 ∧
      ∀ k, 1 ≤ k → k ≤ 10 → AlikeBalls (frameAt (rebuild sheet).1 k).balls (frameAt sheet k).balls := by
  have hat : ∀ i f, sheet[i]? = some f → frameAt sheet (1 + i) = f := by
    intro i f hf; simp [frameAt, List.getD, hf]
  obtain ⟨hok, -, hframes⟩ := replayFrames_ok 1 sheet (emptySheet, []) le_rfl (by omega)
    ⟨sheetOk_empty, fun j _ _ => by simp [unbowledFrame]⟩ hs (fun i f hf => by
      have hi := (List.getElem?_eq_some_iff.mp hf).1
      simpa [hat i f hf] using ht (1 + i) (by omega) (by omega))
  refine ⟨hok, fun k h1 h10 => ?_⟩
  have hk : sheet[k - 1]? = some (frameAt sheet k) := by
    have hlt : k - 1 < sheet.length := by omega
    simp [frameAt, List.getD, hlt]
  simpa [rebuild, show 1 + (k - 1) = k by omega] using hframes (k - 1) _ hk

end Sys2Proof.Machine

namespace Sys2Proof.Machine

/-! ### The balls of a corrected frame (R80 to R83) -/

/-- Balls in turn in frames 1 to 9: at most two, and one only after a strike (R31). -/
theorem bowledInTurn_open {k : Nat} (hk : k ≤ 9) (balls : List BallEntry) :
    BowledInTurn k balls ↔ balls.length ≤ 2 ∧ (balls.length = 2 → firstIsStrike balls = false) := by
  have hc : ∀ xs, ballsComplete k xs = (firstIsStrike xs || decide (2 ≤ xs.length)) := fun xs => if_pos hk
  unfold BowledInTurn
  simp only [hc]
  match balls with
  | [] | [_] => simp [firstIsStrike]
  | [a, b] =>
    refine ⟨fun h => by simpa [firstIsStrike] using h 1, fun h n hn => ?_⟩
    match n with
    | 0 => rfl
    | 1 => simpa [firstIsStrike] using h.2 rfl
  | a :: b :: c :: rest => exact ⟨fun h => absurd (h 2 (by simp)) (by simp), fun h => absurd h.1 (by simp)⟩

/-- Balls in turn in frame 10: at most three, and a third only where it is allowed (R33). -/
theorem bowledInTurn_tenth {k : Nat} (hk : 9 < k) (balls : List BallEntry) :
    BowledInTurn k balls ↔ balls.length ≤ 3 ∧ (balls.length = 3 → thirdAllowed balls = true) := by
  have hc : ∀ xs, ballsComplete k xs = (decide (3 ≤ xs.length) || (xs.length == 2 && !thirdAllowed xs)) := fun xs =>
    if_neg (by omega)
  unfold BowledInTurn
  simp only [hc]
  match balls with
  | [] | [_] => simp
  | [a, b] =>
    refine ⟨fun _ => by simp, fun _ n hn => ?_⟩
    match n with
    | 0 | 1 => rfl
  | [a, b, c] =>
    have ht : thirdAllowed [a, b] = thirdAllowed [a, b, c] := rfl
    refine ⟨fun h => ?_, fun h n hn => ?_⟩
    · exact ⟨le_rfl, fun _ => by simpa [ht] using h 2⟩
    · match n with
      | 0 | 1 => rfl
      | 2 => simpa [ht] using h.2 rfl
  | a :: b :: c :: d :: rest => exact ⟨fun h => absurd (h 3 (by simp)) (by simp), fun h => absurd h.1 (by simp)⟩

section
variable {k j : Nat} {balls new : List BallEntry} {marked : Bool}

/-- A correction that keeps the shape leaves balls in turn (R82, R83). -/
theorem shapeKept_bowledInTurn (h : BowledInTurn k balls) (hl : new.length = balls.length)
    (hs : shapeKept marked k balls new = true) : BowledInTurn k new := by
  rcases Nat.lt_or_ge 9 k with hk | hk
  · rw [bowledInTurn_tenth hk] at h ⊢
    rw [hl]
    refine ⟨h.1, fun h3 => ?_⟩
    have hs' : shapeTenth balls new = true := by simpa [shapeKept, not_le.mpr hk] using hs
    have heq : thirdAllowed balls = thirdAllowed new := by simpa [shapeTenth, h3] using hs'
    exact heq ▸ h.2 h3
  · rw [bowledInTurn_open hk] at h ⊢
    rw [hl]
    refine ⟨h.1, fun h2 => ?_⟩
    have hs' : shapeOpen marked balls new = true := by simpa [shapeKept, hk] using hs
    have hf := h.2 h2
    by_contra hne
    simp [shapeOpen, hf, Bool.not_eq_false _ ▸ hne, h2] at hs'

/-- A correction leaves a complete frame complete, but for a marked strike that it takes back (R82, R83, R89). -/
theorem shapeKept_complete (h : BowledInTurn k balls) (hl : new.length = balls.length)
    (hs : shapeKept marked k balls new = true) (hc : ballsComplete k balls = true) :
    ballsComplete k new = true ∨
      (k ≤ 9 ∧ marked = true ∧ firstIsStrike balls = true ∧ firstIsStrike new = false ∧ balls.length = 1) := by
  rcases Nat.lt_or_ge 9 k with hk | hk
  · have hc' : ∀ xs, ballsComplete k xs = (decide (3 ≤ xs.length) || (xs.length == 2 && !thirdAllowed xs)) := fun xs =>
      if_neg (by omega)
    have h10 : ballsComplete 10 balls = true := by rw [← hc, hc']; rfl
    have hs' : shapeTenth balls new = true := by simpa [shapeKept, not_le.mpr hk] using hs
    have heq : thirdAllowed balls = thirdAllowed new := by simpa [shapeTenth, h10] using hs'
    left
    rw [hc', hl, ← heq, ← hc']
    exact hc
  · have hc' : ∀ xs, ballsComplete k xs = (firstIsStrike xs || decide (2 ≤ xs.length)) := fun xs => if_pos hk
    have hs' : shapeOpen marked balls new = true := by simpa [shapeKept, hk] using hs
    rw [bowledInTurn_open hk] at h
    rw [hc', hl]
    rw [hc', Bool.or_eq_true, decide_eq_true_iff] at hc
    cases hn : firstIsStrike new with
    | true => simp
    | false =>
      rcases Nat.lt_or_ge balls.length 2 with hlt | hge
      · have hb : firstIsStrike balls = true := hc.resolve_right (by omega)
        have hpos : balls ≠ [] := by rintro rfl; simp [firstIsStrike] at hb
        have : 0 < balls.length := List.length_pos_iff.mpr hpos
        exact .inr ⟨hk, by simpa [shapeOpen, hb, hn] using hs', hb, rfl, by omega⟩
      · exact .inl (by simp [hge])

/-- The entries derived again behind the corrected one (R81). -/
theorem rederive_spec {k : Nat} {earlier later new : List BallEntry} (h : rederive k earlier later = some new)
    (hc : ∀ e ∈ earlier, Counted e) : new.length = earlier.length + later.length ∧ ∀ e ∈ new, Counted e := by
  induction later generalizing earlier with
  | nil =>
    cases h
    exact ⟨rfl, hc⟩
  | cons e rest ih =>
    unfold rederive at h
    dsimp only at h
    split at h
    · obtain ⟨hl, hn⟩ := ih h (by
        intro x hx
        rcases List.mem_append.mp hx with hx | hx
        · exact hc x hx
        · rw [List.mem_singleton.mp hx]; rfl)
      exact ⟨by simp only [hl, List.length_append, List.length_cons, List.length_nil]; omega, hn⟩
    · cases h

/-- The balls of a corrected frame are as many as before, and counted (R80, R81). -/
theorem correctedBalls_spec {e : BallEntry} {after : Leave} {foul : Bool} (hj : 1 ≤ j) (he : balls[j - 1]? = some e)
    (hc : ∀ x ∈ balls, Counted x) (h : correctedBalls k j balls e after foul = some new) :
    new.length = balls.length ∧ ∀ x ∈ new, Counted x := by
  obtain ⟨hlt, -⟩ := List.getElem?_eq_some_iff.mp he
  obtain ⟨hl, hn⟩ := rederive_spec h (by
    intro x hx
    rcases List.mem_append.mp hx with hx | hx
    · exact hc x (List.mem_of_mem_take hx)
    · rw [List.mem_singleton.mp hx]; rfl)
  refine ⟨?_, hn⟩
  simp only [hl, List.length_append, List.length_take, List.length_singleton, List.length_drop]
  omega

end

/-! ### The bowler with a frame corrected (R85) -/

section
variable {b : Bowler} {k : Nat} {new : List BallEntry}

/-- The bowler of a correction has a sound sheet again, with the new balls and, but for split marks, every other ball. -/
theorem rebuiltBowler_ok (hb : SheetOk b.sheet b.pending) (hs : ∀ f ∈ b.sheet, ∀ e ∈ f.balls, Counted e) (h1 : 1 ≤ k)
    (h10 : k ≤ 10) (hn : ∀ e ∈ new, Counted e) (ht : BowledInTurn k new) :
    SheetOk (rebuiltBowler k new b).sheet (rebuiltBowler k new b).pending ∧
      ∀ i, 1 ≤ i → i ≤ 10 → AlikeBalls (frameAt (rebuiltBowler k new b).sheet i).balls
        (if i = k then new else (frameAt b.sheet i).balls) := by
  have hframe : ∀ i, 1 ≤ i → (frameAt (setFrame b.sheet k { frameAt b.sheet k with balls := new }) i).balls =
      if i = k then new else (frameAt b.sheet i).balls := by
    intro i hi
    rw [frameAt_setFrame _ h1 (by rw [hb.length]; omega) hi]
    split <;> rfl
  obtain ⟨hok, halike⟩ := rebuild_ok (sheet := setFrame b.sheet k { frameAt b.sheet k with balls := new })
    (by simp [hb.length])
    (fun f hf => by
      rcases List.mem_or_eq_of_mem_set hf with hf | rfl
      · exact hs f hf
      · exact hn)
    (fun i hi hi10 => by
      rw [hframe i hi]
      split
      next hik => subst hik; exact ht
      next => exact (hb.frame i hi hi10).balls)
  refine ⟨hok, fun i hi hi10 => ?_⟩
  rw [← hframe i hi]
  exact halike i hi hi10

end

end Sys2Proof.Machine

namespace Sys2Proof.Machine

/-! ### Slots and bowlers -/

section
variable {order : List Bowler} {n i : Nat} {b c : Bowler}

theorem mem_of_bowlerAt (h : bowlerAt order n = some b) : b ∈ order :=
  List.mem_of_getElem? (bowlerAt_eq_some h).2

theorem bowlerAt_succ (order : List Bowler) (i : Nat) : bowlerAt order (1 + i) = order[i]? := by
  simp [bowlerAt]

theorem bowlerAt_setBowler (h : bowlerAt order n = some b) :
    bowlerAt (setBowler order n c) i = if i = n then some c else bowlerAt order i := by
  obtain ⟨hn, hb⟩ := bowlerAt_eq_some h
  have hlt := (List.getElem?_eq_some_iff.mp hb).1
  unfold bowlerAt setBowler
  rw [List.getElem?_set]
  by_cases hin : i = n
  · subst hin; simp [hn, hlt]
  · by_cases hi : i = 0
    · simp [hi, Ne.symm hn]
    · simp [hi, hin, show n - 1 ≠ i - 1 by omega]

theorem mem_setBowler {x : Bowler} (h : x ∈ setBowler order n c) : x ∈ order ∨ x = c := List.mem_or_eq_of_mem_set h

/-- The first ACTIVE bowler. -/
theorem firstActive_eq_some (h : firstActive order = some n) : ∃ b, bowlerAt order n = some b ∧ b.status = .active := by
  obtain ⟨i, b, rfl, hb, ht, -⟩ := firstSlot_eq_some.mp h
  exact ⟨b, by rw [bowlerAt_succ, hb], by simpa [Bowler.isActive] using ht⟩

/-- The first ACTIVE bowler who lacks a frame (R20). -/
theorem firstLacking_eq_some {k : Nat} (h : firstLacking k order = some n) :
    ∃ b, bowlerAt order n = some b ∧ b.status = .active ∧ frameComplete b.sheet k = false := by
  obtain ⟨i, b, rfl, hb, ht, -⟩ := firstSlot_eq_some.mp h
  simp only [Bowler.isActive, Bool.and_eq_true, beq_iff_eq, Bool.not_eq_true'] at ht
  exact ⟨b, by rw [bowlerAt_succ, hb], ht⟩

/-- No ACTIVE bowler lacks the frame (R20). -/
theorem firstLacking_eq_none {k : Nat} (h : firstLacking k order = none) (hb : b ∈ order) (ha : b.status = .active) :
    frameComplete b.sheet k = true := by
  simpa [Bowler.isActive, ha] using firstSlot_eq_none.mp h b hb

end

/-- Nothing is bowled behind frame `r`, and an ACTIVE bowler's frames through `d` are complete (R20, R24). -/
structure InRound (r d : Nat) (b : Bowler) : Prop where
  after : ∀ k, r < k → k ≤ 10 → (frameAt b.sheet k).balls = []
  done : b.status = .active → ∀ k, 1 ≤ k → k ≤ d → frameComplete b.sheet k = true

/-- An ACTIVE bowler is not within frame `r`. -/
def BetweenFrames (r : Nat) (b : Bowler) : Prop :=
  b.status = .active → (frameAt b.sheet r).balls = [] ∨ frameComplete b.sheet r = true

/-- The bowler whose ball `n` of frame `r` comes next (R12, R20). -/
structure Bowls (r n : Nat) (b : Bowler) : Prop where
  active : b.status = .active
  lacks : frameComplete b.sheet r = false
  ball : n = (frameAt b.sheet r).balls.length + 1

/-- `Safety.SquadSound` by its parts. -/
structure SquadOk (v : Squad) : Prop where
  first : 1 ≤ v.round
  last : v.round ≤ 10
  waits : v.state = .swapWait → v.round ≤ 9
  ends : v.state = .gameDone → v.round = 10
  sheets : ∀ b ∈ v.order, SheetOk b.sheet b.pending
  idle : v.state ≠ .bowling → v.slot = none
  current : ∀ n, v.slot = some n → ∃ b, bowlerAt v.order n = some b ∧ Bowls v.round v.ball b
  game : v.inGame = true → ∀ b ∈ v.order, InRound v.round (Safety.roundsDone v) b
  others : v.state = .bowling → ∀ i b, bowlerAt v.order i = some b → v.slot ≠ some i → BetweenFrames v.round b

theorem squadSound_iff (v : Squad) : Safety.SquadSound v ↔ SquadOk v := by
  constructor
  · rintro ⟨h1, h10, hw, ho, hs, hi, hc, hg, hx⟩
    refine ⟨h1, h10, hw, ho, fun b hb => (sheetSound_iff b).mp (hs b hb), hi, fun n hn => ?_,
      fun hin b hb => ⟨(hg hin b hb).1, (hg hin b hb).2⟩, fun hst i b hb hn ha => hx hst i b hb ha hn⟩
    obtain ⟨b, hb, ha, hl, hn⟩ := hc n hn
    exact ⟨b, hb, ha, hl, hn⟩
  · intro h
    refine ⟨h.first, h.last, h.waits, h.ends, fun b hb => (sheetSound_iff b).mpr (h.sheets b hb), h.idle, fun n hn => ?_,
      fun hx b hb => ⟨(h.game hx b hb).after, (h.game hx b hb).done⟩, fun hx i b hb ha hs => h.others hx i b hb hs ha⟩
    obtain ⟨b, hb, hk⟩ := h.current n hn
    exact ⟨b, hb, hk.active, hk.lacks, hk.ball⟩

/-! ### What squads are judged by -/

section
variable {b c : Bowler} {r d n : Nat}

theorem line_eq (h : c.line = b.line) : c.status = b.status ∧ c.sheet = b.sheet ∧ c.pending = b.pending :=
  ⟨congrArg (·.1) h, congrArg (·.2.1) h, congrArg (·.2.2) h⟩

theorem InRound.of_line (hb : InRound r d b) (h : c.line = b.line) : InRound r d c := by
  obtain ⟨hs, hsh, -⟩ := line_eq h
  exact ⟨hsh ▸ hb.after, by rw [hs, hsh]; exact hb.done⟩

theorem BetweenFrames.of_line (hb : BetweenFrames r b) (h : c.line = b.line) : BetweenFrames r c := by
  obtain ⟨hs, hsh, -⟩ := line_eq h
  unfold BetweenFrames
  rw [hs, hsh]
  exact hb

theorem Bowls.of_line (hb : Bowls r n b) (h : c.line = b.line) : Bowls r n c := by
  obtain ⟨hs, hsh, -⟩ := line_eq h
  exact ⟨hs.trans hb.active, hsh ▸ hb.lacks, hsh ▸ hb.ball⟩

end

section
variable {xs ys : List Bowler} {v w : Squad}

/-- Orders with the same lines hold, slot by slot, bowlers with the same line. -/
theorem bowlerAt_of_lines (h : ys.map Bowler.line = xs.map Bowler.line) (i : Nat) :
    (bowlerAt ys i).map Bowler.line = (bowlerAt xs i).map Bowler.line := by
  unfold bowlerAt
  split
  · rfl
  · rw [← List.getElem?_map, ← List.getElem?_map, h]

theorem exists_bowlerAt_of_lines (h : ys.map Bowler.line = xs.map Bowler.line) {i : Nat} {b : Bowler}
    (hb : bowlerAt ys i = some b) : ∃ c, bowlerAt xs i = some c ∧ b.line = c.line := by
  have hl := bowlerAt_of_lines h i
  rw [hb] at hl
  obtain ⟨c, hc, hl⟩ := Option.map_eq_some_iff.mp hl.symm
  exact ⟨c, hc, hl.symm⟩

theorem exists_mem_of_lines (h : ys.map Bowler.line = xs.map Bowler.line) {b : Bowler} (hb : b ∈ ys) :
    ∃ c ∈ xs, b.line = c.line := by
  have hm : b.line ∈ xs.map Bowler.line := h ▸ List.mem_map_of_mem hb
  obtain ⟨c, hc, hl⟩ := List.mem_map.mp hm
  exact ⟨c, hc, hl.symm⟩

theorem SquadQuiet.inGame (h : SquadQuiet v w) : w.inGame = v.inGame := by simp [Squad.inGame, h.state]

theorem SquadQuiet.roundsDone (h : SquadQuiet v w) : Safety.roundsDone w = Safety.roundsDone v := by
  simp [Safety.roundsDone, h.state, h.round]

theorem SquadQuiet.symm (h : SquadQuiet v w) : SquadQuiet w v :=
  ⟨h.home.symm, h.current.symm, h.state.symm, h.round.symm, h.slot.symm, h.ball.symm, h.lines.symm⟩

theorem SquadOk.of_quiet (hv : SquadOk v) (h : SquadQuiet v w) : SquadOk w where
  first := h.round ▸ hv.first
  last := h.round ▸ hv.last
  waits := by rw [h.state, h.round]; exact hv.waits
  ends := by rw [h.state, h.round]; exact hv.ends
  sheets := fun b hb => by
    obtain ⟨c, hc, hl⟩ := exists_mem_of_lines h.lines hb
    obtain ⟨-, hs, hp⟩ := line_eq hl
    rw [hs, hp]
    exact hv.sheets c hc
  idle := by rw [h.state, h.slot]; exact hv.idle
  current := fun n hn => by
    obtain ⟨c, hc, hk⟩ := hv.current n (h.slot ▸ hn)
    obtain ⟨b, hb, hl⟩ := exists_bowlerAt_of_lines h.symm.lines hc
    exact ⟨b, hb, h.round ▸ h.ball ▸ hk.of_line hl.symm⟩
  game := fun hg b hb => by
    obtain ⟨c, hc, hl⟩ := exists_mem_of_lines h.lines hb
    rw [h.round, h.roundsDone]
    exact (hv.game (h.inGame ▸ hg) c hc).of_line hl
  others := fun hs i b hb hn => by
    obtain ⟨c, hc, hl⟩ := exists_bowlerAt_of_lines h.lines hb
    rw [h.round]
    exact (hv.others (h.state ▸ hs) i c hc (h.slot ▸ hn)).of_line hl

end

/-! ### The leave faced and the marked strike -/

/-- What a squad's next ball faces: a full rack with no current bowler (R31, R34, R63). -/
def Squad.facing (v : Squad) : Leave :=
  match v.currentBowler with
  | some b => nextLeave v.round (frameAt b.sheet v.round).balls
  | none => fullRack

/-- A mark of a one-ball strike of the frame round, with no ball of the round bowled by the current bowler (R86). -/
structure MarkedStrike (v : Squad) (m : ReopenMark) : Prop where
  bowling : v.state = .bowling
  frame : m.frame = v.round
  open_ : v.round ≤ 9
  strike : ∃ b, bowlerAt v.order m.slot = some b ∧ b.status = .active ∧ (frameAt b.sheet v.round).balls.length = 1 ∧
    firstIsStrike (frameAt b.sheet v.round).balls = true
  waits : ∀ c, v.currentBowler = some c → (frameAt c.sheet v.round).balls = []

section
variable {v w : Squad} {b : Bowler}

theorem Squad.currentBowler_eq_some : v.currentBowler = some b ↔ ∃ n, v.slot = some n ∧ bowlerAt v.order n = some b := by
  simp [Squad.currentBowler, Option.bind_eq_some_iff]

theorem Squad.facing_of_current (h : v.currentBowler = some b) :
    v.facing = nextLeave v.round (frameAt b.sheet v.round).balls := by simp [Squad.facing, h]

theorem Squad.facing_of_none (h : v.currentBowler = none) : v.facing = fullRack := by simp [Squad.facing, h]

@[simp] theorem nextLeave_nil (k : Nat) : nextLeave k [] = fullRack := by
  unfold nextLeave
  split <;> rfl

/-- A squad whose current bowler, if any, has no ball of the round faces a full rack. -/
theorem Squad.facing_of_fresh (h : ∀ c, v.currentBowler = some c → (frameAt c.sheet v.round).balls = []) :
    v.facing = fullRack := by
  cases hc : v.currentBowler with
  | none => exact facing_of_none hc
  | some c => rw [facing_of_current hc, h c hc, nextLeave_nil]

theorem SquadQuiet.currentBowler (h : SquadQuiet v w) :
    w.currentBowler.map Bowler.line = v.currentBowler.map Bowler.line := by
  unfold Squad.currentBowler
  rw [h.slot]
  cases v.slot with
  | none => rfl
  | some n => exact bowlerAt_of_lines h.lines n

theorem SquadQuiet.exists_current (h : SquadQuiet v w) {b : Bowler} (hb : w.currentBowler = some b) :
    ∃ c, v.currentBowler = some c ∧ b.line = c.line := by
  have hl := h.currentBowler
  rw [hb] at hl
  obtain ⟨c, hc, hl⟩ := Option.map_eq_some_iff.mp hl.symm
  exact ⟨c, hc, hl.symm⟩

theorem SquadQuiet.facing (h : SquadQuiet v w) : w.facing = v.facing := by
  cases hw : w.currentBowler with
  | some b =>
    obtain ⟨c, hc, hl⟩ := h.exists_current hw
    rw [Squad.facing_of_current hw, Squad.facing_of_current hc, h.round, (line_eq hl).2.1]
  | none =>
    have hv : v.currentBowler = none := by simpa [hw] using h.currentBowler
    rw [Squad.facing_of_none hw, Squad.facing_of_none hv]

theorem MarkedStrike.of_quiet {m : ReopenMark} (hm : MarkedStrike v m) (h : SquadQuiet v w) : MarkedStrike w m where
  bowling := h.state.trans hm.bowling
  frame := hm.frame.trans h.round.symm
  open_ := h.round ▸ hm.open_
  strike := by
    obtain ⟨c, hc, ha, hl, hs⟩ := hm.strike
    obtain ⟨b, hb, hline⟩ := exists_bowlerAt_of_lines h.symm.lines hc
    obtain ⟨hst, hsh, -⟩ := line_eq hline
    exact ⟨b, hb, hst ▸ ha, by rw [h.round, ← hsh]; exact hl, by rw [h.round, ← hsh]; exact hs⟩
  waits := fun b hb => by
    obtain ⟨c, hc, hl⟩ := h.exists_current hb
    rw [h.round, (line_eq hl).2.1]
    exact hm.waits c hc

end

end Sys2Proof.Machine

namespace Sys2Proof.Machine

/-! ### The games in progress, side by side

A squad and the lane it stands on make one side of the pair. `Standing` is what `Safety.GamesSound` says of one side. -/

/-- The lane a squad stands on. -/
def State.laneOf (s : State) (q : SquadId) : LaneRec := s.lane (s.squad q).current

/-- A sound side: squad `q` with record `v` on a lane of record `r`, in a pair mode. -/
structure Standing (m : PairMode) (q : SquadId) (v : Squad) (r : LaneRec) : Prop where
  ok : SquadOk v
  mark : r.state ≠ .closing → ∀ k, r.reopen = some k → k.squad = q ∧ MarkedStrike v k
  deck : r.state.plays = true → r.sup.nextDeck = v.facing
  plays : r.state.plays = v.inGame
  closes : r.sup.closes → r.state = .closing
  single : m = .single → v.current = q ∧ v.state ≠ .swapWait ∧ v.state ≠ .gameDone
  home : v.state = .forming → v.current = q

/-- Two squads of a CROSS pair: both in a game or neither, at the same frame round, not both waiting (R96, R98). -/
structure Level (v w : Squad) : Prop where
  inGame : v.inGame = w.inGame
  round : v.inGame = true → v.round = w.round
  bowling : v.inGame = true → v.state = .bowling ∨ w.state = .bowling

/-- `Safety.GamesSound`, side by side. -/
structure GamesOk (s : State) : Prop where
  placed : Safety.SquadsPlaced s
  side : ∀ q, Standing s.pairMode q (s.squad q) (s.laneOf q)
  level : s.pairMode = .cross → ∀ q : SquadId, Level (s.squad q) (s.squad q.other)

theorem Level.symm {v w : Squad} (h : Level v w) : Level w v :=
  ⟨h.inGame.symm, fun hw => (h.round (h.inGame.trans hw)).symm, fun hw => (h.bowling (h.inGame.trans hw)).symm⟩

/-- The squad named by a lane stands there. -/
theorem current_squad_of_placed {s : State} (h : Safety.SquadsPlaced s) (l : Lane) :
    (s.squad (s.lane l).squad).current = l := by
  rw [squadsPlaced_iff] at h
  obtain ⟨-, ha, hb⟩ := h .a
  obtain ⟨-, hb', -⟩ := h .b
  by_cases hl : l = (s.squad .a).current
  · subst hl; rw [ha]
  · have hlb : l = (s.squad .b).current := (Side.eq_other_of_ne hl).trans hb.symm
    subst hlb; rw [hb']

theorem squad_laneOf {s : State} (h : Safety.SquadsPlaced s) (q : SquadId) : (s.laneOf q).squad = q := h.2.1 q

/-- Squads stand on different lanes. -/
theorem eq_of_current_eq {s : State} (h : Safety.SquadsPlaced s) {p q : SquadId}
    (he : (s.squad p).current = (s.squad q).current) : p = q := by
  have hp := squad_laneOf h p
  rw [State.laneOf, he] at hp
  exact hp.symm.trans (squad_laneOf h q)

/-- A squad in a game has completed the rounds before its own, and perhaps its own (R96). -/
theorem SquadOk.roundsDone_bounds {v : Squad} (h : SquadOk v) (hg : v.inGame = true) :
    v.round - 1 ≤ Safety.roundsDone v ∧ Safety.roundsDone v ≤ v.round := by
  have hne := (inGame_iff v).mp hg
  unfold Safety.roundsDone
  cases hs : v.state with
  | forming => exact absurd hs hne
  | bowling => exact ⟨le_rfl, Nat.sub_le _ _⟩
  | swapWait => exact ⟨Nat.sub_le _ _, le_rfl⟩
  | gameDone => have := h.ends hs; dsimp only; omega

/-- Squads level with each other have completed rounds that differ by at most one (R96). -/
theorem Level.roundsDone_le {v w : Squad} (hv : SquadOk v) (hw : SquadOk w) (h : Level v w) (hg : v.inGame = true) :
    Safety.roundsDone v ≤ Safety.roundsDone w + 1 ∧ Safety.roundsDone w ≤ Safety.roundsDone v + 1 := by
  have hr := h.round hg
  have hbv := hv.roundsDone_bounds hg
  have hbw := hw.roundsDone_bounds (h.inGame ▸ hg)
  omega

theorem markSound_of_side {s : State} {q : SquadId}
    (h : Standing s.pairMode q (s.squad q) (s.laneOf q)) : Safety.MarkSound s (s.squad q).current := by
  intro hc k hk
  obtain ⟨hq, hm⟩ := h.mark hc k hk
  have hv : s.squad k.squad = s.squad q := by rw [hq]
  obtain ⟨b, hb, hs⟩ := hm.strike
  dsimp only
  rw [hv]
  exact ⟨rfl, hm.bowling, hm.frame, hm.open_, ⟨b, hb, hs⟩, hm.waits⟩

theorem mark_of_markSound {s : State} (hp : Safety.SquadsPlaced s) {q : SquadId}
    (h : Safety.MarkSound s (s.squad q).current) (hc : (s.laneOf q).state ≠ .closing) (k : ReopenMark)
    (hk : (s.laneOf q).reopen = some k) : k.squad = q ∧ MarkedStrike (s.squad q) k := by
  obtain ⟨hcur, hb, hf, ho, ⟨b, hbo, hs⟩, hw⟩ := h hc k hk
  have hq : k.squad = q := eq_of_current_eq hp hcur
  rw [hq] at hb hf ho hbo hs hw
  exact ⟨hq, hb, hf, ho, ⟨b, hbo, hs⟩, hw⟩

/-- `Safety.GamesSound` is the two sides and their level. -/
theorem gamesSound_iff (s : State) : Safety.GamesSound s ↔ GamesOk s := by
  constructor
  · rintro ⟨hp, hs, hm, hd, hl, hc, h1, hf, hx⟩
    have hon : ∀ q, s.squadOn (s.squad q).current = s.squad q := fun q => by
      rw [State.squadOn, show (s.lane (s.squad q).current).squad = q from hp.2.1 q]
    refine ⟨hp, fun q => ⟨(squadSound_iff _).mp (hs q), mark_of_markSound hp (hm _), fun hpl => ?_, ?_, ?_,
      fun h => h1 h q, hf q⟩, fun h q => ?_⟩
    · have := hd (s.squad q).current hpl
      rwa [hon] at this
    · have := hl (s.squad q).current
      rwa [hon] at this
    · rintro ⟨c, hcm, hcl⟩
      exact hc _ c hcm hcl
    · obtain ⟨hg, hr⟩ := hx h
      have hab : Level (s.squad .a) (s.squad .b) := ⟨hg, fun h => (hr h).1, fun h => (hr h).2.1⟩
      cases q
      · exact hab
      · exact hab.symm
  · intro h
    have hat : ∀ l, ∃ q, (s.squad q).current = l ∧ s.squadOn l = s.squad q := fun l =>
      ⟨(s.lane l).squad, current_squad_of_placed h.placed l, rfl⟩
    refine ⟨h.placed, fun q => (squadSound_iff _).mpr (h.side q).ok, fun l => ?_, fun l => ?_, fun l => ?_, fun l c hc hp => ?_,
      fun hm q => (h.side q).single hm, fun q => (h.side q).home, fun hm => ?_⟩
    · obtain ⟨q, rfl, -⟩ := hat l
      exact markSound_of_side (h.side q)
    · obtain ⟨q, rfl, hq⟩ := hat l
      intro hpl
      rw [hq]
      exact (h.side q).deck hpl
    · obtain ⟨q, rfl, hq⟩ := hat l
      rw [hq]
      exact (h.side q).plays
    · obtain ⟨q, rfl, hq⟩ := hat l
      exact (h.side q).closes ⟨c, hc, hp⟩
    · have hl := h.level hm .a
      exact ⟨hl.inGame, fun hg => ⟨hl.round hg, hl.bowling hg, hl.roundsDone_le (h.side .a).ok (h.side .b).ok hg⟩⟩

/-! ### Quiet and calm steps keep the games -/

section
variable {m : PairMode} {q : SquadId} {v w : Squad} {r t : LaneRec}

/-- A reopen mark that stays, or goes, on a lane whose state stays out of CLOSING. -/
theorem Standing.of_quiet (h : Standing m q v r) (hl : LaneQuiet r t) (hv : SquadQuiet v w) : Standing m q w t where
  ok := h.ok.of_quiet hv
  mark := fun hc k hk => by
    rcases hl.reopen with hr | hr
    · obtain ⟨hq, hm⟩ := h.mark (mt hl.closing_iff.mpr hc) k (hr ▸ hk)
      exact ⟨hq, hm.of_quiet hv⟩
    · rw [hr] at hk; cases hk
  deck := fun hp => by rw [hl.deck, hv.facing]; exact h.deck (hl.plays_eq ▸ hp)
  plays := by rw [hl.plays_eq, hv.inGame]; exact h.plays
  closes := fun hc => hl.closing_iff.mpr ((hl.closes hc).elim h.closes id)
  single := by rw [hv.current, hv.state]; exact h.single
  home := by rw [hv.current, hv.state]; exact h.home

theorem Level.of_quiet {v' w' : Squad} (h : Level v w) (hv : SquadQuiet v v') (hw : SquadQuiet w w') : Level v' w' where
  inGame := by rw [hv.inGame, hw.inGame]; exact h.inGame
  round := by rw [hv.inGame, hv.round, hw.round]; exact h.round
  bowling := by rw [hv.inGame, hv.state, hw.state]; exact h.bowling

end

section
variable {s t : State}

theorem Quiet.laneOf (h : Quiet s t) (q : SquadId) : LaneQuiet (s.laneOf q) (t.laneOf q) := by
  unfold State.laneOf
  rw [(h.squads q).current]
  exact h.lanes _

theorem GamesOk.of_quiet (hs : GamesOk s) (h : Quiet s t) : GamesOk t where
  placed := h.keepsRecords.placed hs.placed
  side := fun q => h.mode ▸ (hs.side q).of_quiet (h.laneOf q) (h.squads q)
  level := fun hm q => (hs.level (h.mode ▸ hm) q).of_quiet (h.squads q) (h.squads q.other)

/-- Lanes, squads and pair mode alone say whether the games are sound. -/
theorem GamesOk.of_board (hs : GamesOk s) (h : SameBoard s t) : GamesOk t where
  placed := by simpa only [Safety.SquadsPlaced, h.lane, h.squad] using hs.placed
  side := fun q => by
    unfold State.laneOf
    rw [h.mode, h.squad, h.lane]
    exact hs.side q
  level := by simpa only [h.mode, h.squad] using hs.level

/-! ### One side rewritten

`P` is what is known of squad `q` and its lane while a move is under way; the other side stays sound. -/

/-- A sound side beside one of which `P` holds. -/
structure Halves (P : PairMode → Squad → LaneRec → Prop) (q : SquadId) (s : State) : Prop where
  placed : Safety.SquadsPlaced s
  this : P s.pairMode (s.squad q) (s.laneOf q)
  other : Standing s.pairMode q.other (s.squad q.other) (s.laneOf q.other)

/-- Two halves that are level in CROSS. -/
structure Sided (P : PairMode → Squad → LaneRec → Prop) (q : SquadId) (s : State) : Prop extends Halves P q s where
  level : s.pairMode = .cross → Level (s.squad q) (s.squad q.other)

theorem GamesOk.sided (h : GamesOk s) (q : SquadId) : Sided (fun m => Standing m q) q s :=
  ⟨⟨h.placed, h.side q, h.side q.other⟩, fun hm => h.level hm q⟩

theorem Halves.side {q : SquadId} (h : Halves (fun m => Standing m q) q s) (p : SquadId) :
    Standing s.pairMode p (s.squad p) (s.laneOf p) := by
  by_cases hp : p = q
  · exact hp ▸ h.this
  · exact Side.eq_other_of_ne hp ▸ h.other

theorem Sided.gamesOk {q : SquadId} (h : Sided (fun m => Standing m q) q s) : GamesOk s where
  placed := h.placed
  side := h.toHalves.side
  level := fun hm p => by
    by_cases hp : p = q
    · exact hp ▸ h.level hm
    · rw [Side.eq_other_of_ne hp, Side.other_other]
      exact (h.level hm).symm

section
variable {P Q : PairMode → Squad → LaneRec → Prop} {q : SquadId}

theorem Halves.current_other (h : Halves P q s) : (s.squad q.other).current = (s.squad q).current.other :=
  ((squadsPlaced_iff s).mp h.placed q).2.2

/-- The side rewritten, its squad where it stood. -/
theorem Halves.rewrite (h : Halves P q s) {f : Squad → Squad} {g : LaneRec → LaneRec} {l : Lane}
    (hl : (s.squad q).current = l)
    (hf : (f (s.squad q)).home = (s.squad q).home ∧ (f (s.squad q)).current = (s.squad q).current)
    (hg : (g (s.laneOf q)).squad = (s.laneOf q).squad)
    (hq : P s.pairMode (s.squad q) (s.laneOf q) → Q s.pairMode (f (s.squad q)) (g (s.laneOf q))) :
    Halves Q q (modSquad q f (modLane l g s)) := by
  subst hl
  have hsq : ∀ k, (modSquad q f (modLane (s.squad q).current g s)).squad k = if k = q then f (s.squad q) else s.squad k :=
    fun k => by rw [modSquad_squad]; rfl
  have hln : ∀ k, (modSquad q f (modLane (s.squad q).current g s)).lane k =
      if k = (s.squad q).current then g (s.laneOf q) else s.lane k := fun k => by rw [modSquad_lane, modLane_lane]; rfl
  have hat : ∀ k, ((modSquad q f (modLane (s.squad q).current g s)).squad k).home = (s.squad k).home ∧
      ((modSquad q f (modLane (s.squad q).current g s)).squad k).current = (s.squad k).current := fun k => by
    rw [hsq]
    split
    next hk => exact hk ▸ hf
    next => exact ⟨rfl, rfl⟩
  have hls : ∀ k, ((modSquad q f (modLane (s.squad q).current g s)).lane k).squad = (s.lane k).squad := fun k => by
    rw [hln]
    split
    next hk => rw [hg, hk]; rfl
    next => rfl
  have hother : (modSquad q f (modLane (s.squad q).current g s)).laneOf q.other = s.laneOf q.other := by
    unfold State.laneOf
    rw [(hat _).2, h.current_other, hln, if_neg (Side.other_ne _)]
  have hthis : (modSquad q f (modLane (s.squad q).current g s)).laneOf q = g (s.laneOf q) := by
    unfold State.laneOf
    rw [(hat q).2, hln, if_pos rfl]; rfl
  refine ⟨?_, ?_, ?_⟩
  · simpa only [Safety.SquadsPlaced, fun k => (hat k).1, fun k => (hat k).2, hls] using h.placed
  · rw [hthis, hsq, if_pos rfl]
    exact hq h.this
  · rw [hother, hsq, if_neg (Side.other_ne q)]
    exact h.other

theorem Sided.rewrite (h : Sided P q s) {f : Squad → Squad} {g : LaneRec → LaneRec} {l : Lane}
    (hl : (s.squad q).current = l)
    (hf : (f (s.squad q)).home = (s.squad q).home ∧ (f (s.squad q)).current = (s.squad q).current)
    (hg : (g (s.laneOf q)).squad = (s.laneOf q).squad)
    (hq : P s.pairMode (s.squad q) (s.laneOf q) → Q s.pairMode (f (s.squad q)) (g (s.laneOf q)))
    (hlv : s.pairMode = .cross → Level (s.squad q) (s.squad q.other) → Level (f (s.squad q)) (s.squad q.other)) :
    Sided Q q (modSquad q f (modLane l g s)) where
  toHalves := h.toHalves.rewrite hl hf hg hq
  level := fun hm => by
    rw [modSquad_squad, modSquad_squad, if_pos rfl, if_neg (Side.other_ne q)]
    exact hlv hm (h.level hm)

theorem modLane_id (l : Lane) (s : State) : modLane l id s = s := State.setLane_self s l

/-- The side's squad rewritten. -/
theorem Halves.rewrite_squad (h : Halves P q s) {f : Squad → Squad}
    (hf : (f (s.squad q)).home = (s.squad q).home ∧ (f (s.squad q)).current = (s.squad q).current)
    (hq : P s.pairMode (s.squad q) (s.laneOf q) → Q s.pairMode (f (s.squad q)) (s.laneOf q)) : Halves Q q (modSquad q f s) := by
  have hr := h.rewrite (Q := Q) (f := f) (g := id) rfl hf rfl hq
  rwa [modLane_id] at hr

theorem Sided.rewrite_squad (h : Sided P q s) {f : Squad → Squad}
    (hf : (f (s.squad q)).home = (s.squad q).home ∧ (f (s.squad q)).current = (s.squad q).current)
    (hq : P s.pairMode (s.squad q) (s.laneOf q) → Q s.pairMode (f (s.squad q)) (s.laneOf q))
    (hlv : s.pairMode = .cross → Level (s.squad q) (s.squad q.other) → Level (f (s.squad q)) (s.squad q.other)) :
    Sided Q q (modSquad q f s) := by
  have hr := h.rewrite (Q := Q) (f := f) (g := id) rfl hf rfl hq hlv
  rwa [modLane_id] at hr

/-- The side's lane rewritten. -/
theorem Sided.rewrite_lane (h : Sided P q s) {g : LaneRec → LaneRec} {l : Lane} (hl : (s.squad q).current = l)
    (hg : (g (s.laneOf q)).squad = (s.laneOf q).squad)
    (hq : P s.pairMode (s.squad q) (s.laneOf q) → Q s.pairMode (s.squad q) (g (s.laneOf q))) :
    Sided Q q (modLane l g s) := by
  have hr := h.rewrite (Q := Q) (f := id) hl ⟨rfl, rfl⟩ hg hq fun _ => id
  rwa [show modSquad q id (modLane l g s) = modLane l g s from State.setSquad_self _ _] at hr

theorem Halves.of_quiet (h : Halves P q s) (k : Quiet s t)
    (hq : LaneQuiet (s.laneOf q) (t.laneOf q) → SquadQuiet (s.squad q) (t.squad q) → P s.pairMode (s.squad q) (s.laneOf q) →
      Q s.pairMode (t.squad q) (t.laneOf q)) : Halves Q q t where
  placed := k.keepsRecords.placed h.placed
  this := k.mode ▸ hq (k.laneOf q) (k.squads q) h.this
  other := k.mode ▸ h.other.of_quiet (k.laneOf q.other) (k.squads q.other)

theorem Sided.of_quiet (h : Sided P q s) (k : Quiet s t)
    (hq : LaneQuiet (s.laneOf q) (t.laneOf q) → SquadQuiet (s.squad q) (t.squad q) → P s.pairMode (s.squad q) (s.laneOf q) →
      Q s.pairMode (t.squad q) (t.laneOf q)) : Sided Q q t where
  toHalves := h.toHalves.of_quiet k hq
  level := fun hm => (h.level (k.mode ▸ hm)).of_quiet (k.squads q) (k.squads q.other)

end

/-! ### Squads at home -/

/-- Two squads at home, each side sound, and level in CROSS. -/
theorem GamesOk.of_home (hp : Safety.SquadsPlaced s) (hc : ∀ q, (s.squad q).current = q)
    (hs : ∀ q, Standing s.pairMode q (s.squad q) (s.lane q))
    (hl : s.pairMode = .cross → ∀ q : SquadId, Level (s.squad q) (s.squad q.other)) : GamesOk s where
  placed := hp
  side := fun q => by
    have hq := hs q
    unfold State.laneOf
    rwa [hc q]
  level := hl

end

end Sys2Proof.Machine

namespace Sys2Proof.Machine

/-! ### Squads between games, at a new round, and at a choice -/

/-- What a squad's record keeps in a game and out of one. -/
structure SquadFit (v : Squad) : Prop where
  first : 1 ≤ v.round
  last : v.round ≤ 10
  sheets : ∀ b ∈ v.order, SheetOk b.sheet b.pending

theorem SquadOk.fit {v : Squad} (h : SquadOk v) : SquadFit v := ⟨h.first, h.last, h.sheets⟩

/-- A squad whose next bowler is to be chosen (R20): it bowls, and no ACTIVE bowler is within the frame round. -/
structure Rotates (v : Squad) : Prop extends SquadFit v where
  bowling : v.state = .bowling
  between : ∀ b ∈ v.order, BetweenFrames v.round b
  inRound : ∀ b ∈ v.order, InRound v.round (v.round - 1) b

section
variable {v : Squad} {b : Bowler} {k r d : Nat}

theorem inGame_of_bowling (h : v.state = .bowling) : v.inGame = true := by simp [Squad.inGame, h]

theorem roundsDone_of_bowling (h : v.state = .bowling) : Safety.roundsDone v = v.round - 1 := by
  simp [Safety.roundsDone, h]

/-- A FORMING squad is in no game, and nothing is asked of it there. -/
theorem SquadOk.of_forming (h : SquadFit v) (hs : v.state = .forming) (hn : v.slot = none) : SquadOk v where
  first := h.first
  last := h.last
  waits := by simp [hs]
  ends := by simp [hs]
  sheets := h.sheets
  idle := fun _ => hn
  current := by simp [hn]
  game := by simp [Squad.inGame, hs]
  others := by simp [hs]

theorem SquadFit.formed (h : SquadFit v) : SquadOk v.formed := .of_forming ⟨h.first, h.last, h.sheets⟩ rfl rfl

theorem squadOk_closed (v : Squad) : SquadOk v.closed :=
  .of_forming ⟨le_rfl, show 1 ≤ 10 by decide, by simp [Squad.closed]⟩ rfl rfl

/-- A squad at the first ball of a round whose earlier rounds are complete (R21, R97). -/
theorem squadOk_toRound (h1 : 1 ≤ k) (h10 : k ≤ 10) (hs : ∀ b ∈ v.order, SheetOk b.sheet b.pending)
    (hr : ∀ b ∈ v.order, InRound (k - 1) (k - 1) b) : SquadOk (v.toRound k) := by
  have hnil : ∀ b ∈ v.order, (frameAt b.sheet k).balls = [] := fun b hb => (hr b hb).after k (by omega) h10
  refine ⟨h1, h10, by simp [Squad.toRound], by simp [Squad.toRound], hs, fun h => absurd rfl h, fun n hn => ?_,
    fun _ b hb => ⟨fun j hj h10 => (hr b hb).after j (by simp [Squad.toRound] at hj; omega) h10, (hr b hb).done⟩,
    fun _ i b hb _ _ => .inl (hnil b (mem_of_bowlerAt hb))⟩
  obtain ⟨b, hb, ha⟩ := firstActive_eq_some hn
  have hx := hnil b (mem_of_bowlerAt hb)
  exact ⟨b, hb, ha, by simp [frameComplete, Squad.toRound, hx], by simp [Squad.toRound, hx]⟩

theorem facing_toRound (h1 : 1 ≤ k) (h10 : k ≤ 10) (hr : ∀ b ∈ v.order, InRound (k - 1) (k - 1) b) :
    (v.toRound k).facing = fullRack :=
  Squad.facing_of_fresh fun c hc => by
    obtain ⟨n, -, hb⟩ := Squad.currentBowler_eq_some.mp hc
    exact (hr c (mem_of_bowlerAt hb)).after k (by omega) h10

theorem inRound_emptySheet (h : b.sheet = emptySheet) (hd : d = 0) : InRound r d b :=
  ⟨fun k _ _ => by rw [h, frameAt_emptySheet]; rfl, fun _ k h1 hk => by omega⟩

/-- The start of a game (R19). -/
theorem squadOk_started (v : Squad) (game : Nat) : SquadOk (v.started game) ∧ (v.started game).facing = fullRack := by
  let w : Squad := { v with order := v.order.map freshGame }
  have hs : ∀ b ∈ w.order, SheetOk b.sheet b.pending := by
    intro b hb
    obtain ⟨c, -, rfl⟩ := List.mem_map.mp hb
    exact sheetOk_empty
  have hr : ∀ b ∈ w.order, InRound (1 - 1) (1 - 1) b := by
    intro b hb
    obtain ⟨c, -, rfl⟩ := List.mem_map.mp hb
    exact inRound_emptySheet rfl rfl
  have hq : SquadQuiet (w.toRound 1) (v.started game) := ⟨rfl, rfl, rfl, rfl, rfl, rfl, rfl⟩
  exact ⟨(squadOk_toRound le_rfl (by decide) hs hr).of_quiet hq, hq.facing.trans (facing_toRound le_rfl (by decide) hr)⟩

/-! ### The choice of the next bowler (R20) -/

/-- The bowler chosen has no ball of the round, and bowls next. -/
theorem Rotates.chosen (h : Rotates v) (hk : firstLacking v.round v.order = some k) :
    ∃ b, bowlerAt v.order k = some b ∧ (frameAt b.sheet v.round).balls = [] ∧ Bowls v.round 1 b := by
  obtain ⟨b, hb, ha, hl⟩ := firstLacking_eq_some hk
  have hnil := (h.between b (mem_of_bowlerAt hb) ha).resolve_right (by simp [hl])
  exact ⟨b, hb, hnil, ha, hl, by simp [hnil]⟩

theorem Rotates.squadOk (h : Rotates v) (hk : firstLacking v.round v.order = some k) :
    SquadOk { v with slot := some k, ball := 1 } where
  first := h.first
  last := h.last
  waits := by simp [h.bowling]
  ends := by simp [h.bowling]
  sheets := h.sheets
  idle := fun hn => absurd h.bowling hn
  current := fun n hn => by
    obtain ⟨b, hb, -, hbw⟩ := h.chosen hk
    cases hn
    exact ⟨b, hb, hbw⟩
  game := fun _ b hb => by
    rw [roundsDone_of_bowling (v := { v with slot := some k, ball := 1 }) h.bowling]
    exact h.inRound b hb
  others := fun _ i b hb _ => h.between b (mem_of_bowlerAt hb)

theorem Rotates.facing (h : Rotates v) (hk : firstLacking v.round v.order = some k) :
    ({ v with slot := some k, ball := 1 } : Squad).facing = fullRack :=
  Squad.facing_of_fresh fun c hc => by
    obtain ⟨b, hb, hnil, -⟩ := h.chosen hk
    obtain ⟨n, hn, hc⟩ := Squad.currentBowler_eq_some.mp hc
    cases hn
    cases hb.symm.trans hc
    exact hnil

/-- With nobody left to bowl the round is complete. -/
theorem Rotates.inRound_of_none (h : Rotates v) (hk : firstLacking v.round v.order = none) (hb : b ∈ v.order) :
    InRound v.round v.round b :=
  ⟨(h.inRound b hb).after, fun ha j h1 hj => by
    rcases Nat.lt_or_ge j v.round with hlt | hge
    · exact (h.inRound b hb).done ha j h1 (by omega)
    · have : j = v.round := by omega
      subst this
      exact firstLacking_eq_none hk hb ha⟩

/-- A marked strike waits while the bowler chosen has no ball (R86). -/
theorem Rotates.marked (h : Rotates v) (hk : firstLacking v.round v.order = some k) {m : ReopenMark}
    (hm : MarkedStrike { v with slot := none } m) : MarkedStrike { v with slot := some k, ball := 1 } m :=
  ⟨hm.bowling, hm.frame, hm.open_, hm.strike, fun c hc => by
    obtain ⟨b, hb, hnil, -⟩ := h.chosen hk
    obtain ⟨n, hn, hc⟩ := Squad.currentBowler_eq_some.mp hc
    cases hn
    cases hb.symm.trans hc
    exact hnil⟩

/-! ### A squad whose round is complete -/

/-- A squad that waits for the swap (R98). -/
theorem SquadFit.waiting (h : SquadFit v) (hr : ∀ b ∈ v.order, InRound v.round v.round b) (h9 : v.round < 10) :
    SquadOk { v with state := .swapWait, ball := 1, slot := none } :=
  ⟨h.first, h.last, fun _ => by dsimp only; omega, nofun, h.sheets, fun _ => rfl, nofun, fun _ => hr, nofun⟩

/-- A squad that has ended the pair's game (R99). -/
theorem SquadFit.ended (h : SquadFit v) (hr : ∀ b ∈ v.order, InRound v.round v.round b) (h10 : v.round = 10) :
    SquadOk { v with state := .gameDone, slot := none } :=
  ⟨h.first, h.last, nofun, fun _ => h10, h.sheets, fun _ => rfl, nofun,
    fun _ b hb => by rw [show Safety.roundsDone { v with state := .gameDone, slot := none } = v.round from h10.symm]; exact hr b hb,
    nofun⟩

/-- Bowlers rewritten one by one, each with its sheet and list. -/
theorem SquadFit.map (h : SquadFit v) {f : Bowler → Bowler}
    (hf : ∀ b, (f b).sheet = b.sheet ∧ (f b).pending = b.pending) : SquadFit { v with order := v.order.map f } :=
  ⟨h.first, h.last, fun b hb => by
    obtain ⟨c, hc, rfl⟩ := List.mem_map.mp hb
    rw [(hf c).1, (hf c).2]
    exact h.sheets c hc⟩

theorem convertWaiting_sheet (b : Bowler) : (convertWaiting b).sheet = b.sheet ∧ (convertWaiting b).pending = b.pending := by
  unfold convertWaiting
  split <;> exact ⟨rfl, rfl⟩

theorem completeGame_line (b : Bowler) : (completeGame b).line = b.line := by
  unfold completeGame
  split <;> rfl

/-- Totals stored (R44) are nothing the game is judged by. -/
theorem squadQuiet_completeGame (v : Squad) : SquadQuiet v { v with order := v.order.map completeGame } :=
  ⟨rfl, rfl, rfl, rfl, rfl, rfl, by simp [Function.comp_def, completeGame_line]⟩

end

end Sys2Proof.Machine

namespace Sys2Proof.Machine

/-! ### One side at a choice, at the end of a round and at the end of a game -/

/-- A lane in play, with no closing cycle, on which squad `q` stands. -/
structure InPlay (m : PairMode) (q : SquadId) (v : Squad) (r : LaneRec) : Prop where
  fit : SquadFit v
  plays : r.state.plays = true
  free : ¬r.sup.closes
  single : m = .single → v.current = q

/-- A side whose next bowler is to be chosen (R20), its lane's reopen mark one of a strike that leaves the round open
(R86). -/
structure Choosing (m : PairMode) (q : SquadId) (v : Squad) (r : LaneRec) : Prop extends InPlay m q v r where
  rotates : Rotates v
  mark : ∀ k, r.reopen = some k →
    k.squad = q ∧ (firstLacking v.round v.order).isSome = true ∧ MarkedStrike { v with slot := none } k

/-- A side whose frame round is complete (R21, R96). -/
structure RoundOver (m : PairMode) (q : SquadId) (v : Squad) (r : LaneRec) : Prop extends InPlay m q v r where
  bowling : v.state = .bowling
  inRound : ∀ b ∈ v.order, InRound v.round v.round b
  unmarked : r.reopen = none
  rack : r.sup.nextDeck = fullRack

/-- A lane whose Next Deck is a full rack (R63). -/
def LaneRec.racked (r : LaneRec) : LaneRec := { r with sup := { r.sup with nextDeck := fullRack } }

/-- A lane at the start of a game (R19). -/
def LaneRec.atStart (r : LaneRec) : LaneRec := { r.racked with reopen := none }

theorem ne_closing_of_plays {st : LaneState} (h : st.plays = true) : st ≠ .closing := by
  rintro rfl; simp [LaneState.plays] at h

section
variable {m : PairMode} {q : SquadId} {v w : Squad} {r t : LaneRec} {k : Nat}

theorem Standing.unmarked (h : Standing m q v r) (hc : r.state ≠ .closing) (hs : v.state ≠ .bowling) : r.reopen = none :=
  Option.eq_none_iff_forall_ne_some.mpr fun k hk => hs (h.mark hc k hk).2.bowling

theorem Standing.inPlay (h : Standing m q v r) (hg : v.inGame = true) : InPlay m q v r :=
  ⟨h.ok.fit, h.plays.trans hg, fun hc => ne_closing_of_plays (h.plays.trans hg) (h.closes hc), fun hm => (h.single hm).1⟩

theorem SquadFit.of_quiet (h : SquadFit v) (hv : SquadQuiet v w) : SquadFit w :=
  ⟨hv.round ▸ h.first, hv.round ▸ h.last, fun b hb => by
    obtain ⟨c, hc, hl⟩ := exists_mem_of_lines hv.lines hb
    obtain ⟨-, hs, hp⟩ := line_eq hl
    rw [hs, hp]
    exact h.sheets c hc⟩

theorem InPlay.of_quiet (h : InPlay m q v r) (hl : LaneQuiet r t) (hv : SquadQuiet v w) : InPlay m q w t where
  fit := h.fit.of_quiet hv
  plays := hl.plays_eq.trans h.plays
  free := fun hc => (hl.closes hc).elim h.free (ne_closing_of_plays h.plays)
  single := hv.current ▸ h.single

theorem firstSlot_of_lines {test : Bowler → Bool} (ht : ∀ b c : Bowler, b.line = c.line → test b = test c) {n : Nat}
    {xs ys : List Bowler} (h : ys.map Bowler.line = xs.map Bowler.line) : firstSlot test n ys = firstSlot test n xs := by
  induction xs generalizing n ys with
  | nil => rw [List.map_eq_nil_iff.mp h]
  | cons x xs ih =>
    cases ys with
    | nil => cases h
    | cons y ys =>
      obtain ⟨hxy, hr⟩ := List.cons.inj h
      simp only [firstSlot, ht y x hxy, ih hr]

theorem firstLacking_of_lines {xs ys : List Bowler} (h : ys.map Bowler.line = xs.map Bowler.line) (k : Nat) :
    firstLacking k ys = firstLacking k xs :=
  firstSlot_of_lines (fun b c hl => by
    obtain ⟨hs, hsh, -⟩ := line_eq hl
    simp [Bowler.isActive, hs, hsh]) h

theorem Rotates.of_quiet (h : Rotates v) (hv : SquadQuiet v w) : Rotates w where
  toSquadFit := h.toSquadFit.of_quiet hv
  bowling := hv.state.trans h.bowling
  between := fun b hb => by
    obtain ⟨c, hc, hl⟩ := exists_mem_of_lines hv.lines hb
    rw [hv.round]
    exact (h.between c hc).of_line hl
  inRound := fun b hb => by
    obtain ⟨c, hc, hl⟩ := exists_mem_of_lines hv.lines hb
    rw [hv.round]
    exact (h.inRound c hc).of_line hl

theorem Choosing.of_quiet (h : Choosing m q v r) (hl : LaneQuiet r t) (hv : SquadQuiet v w) : Choosing m q w t where
  toInPlay := h.toInPlay.of_quiet hl hv
  rotates := h.rotates.of_quiet hv
  mark := fun k hk => by
    rcases hl.reopen with hr | hr
    · obtain ⟨hq, hs, hm⟩ := h.mark k (hr ▸ hk)
      refine ⟨hq, by rw [hv.round, firstLacking_of_lines hv.lines]; exact hs, hm.of_quiet ?_⟩
      exact ⟨hv.home, hv.current, hv.state, hv.round, rfl, hv.ball, hv.lines⟩
    · rw [hr] at hk; cases hk

theorem RoundOver.of_quiet (h : RoundOver m q v r) (hl : LaneQuiet r t) (hv : SquadQuiet v w) : RoundOver m q w t where
  toInPlay := h.toInPlay.of_quiet hl hv
  bowling := hv.state.trans h.bowling
  inRound := fun b hb => by
    obtain ⟨c, hc, hl⟩ := exists_mem_of_lines hv.lines hb
    rw [hv.round]
    exact (h.inRound c hc).of_line hl
  unmarked := hl.reopen.elim (fun hr => hr.trans h.unmarked) id
  rack := hl.deck.trans h.rack

/-- A side whose squad is in a game, on a lane with no mark that faces a full rack. -/
theorem InPlay.standing (h : InPlay m q v r) (hok : SquadOk w) (hg : w.inGame = true) (hf : w.facing = fullRack)
    (hn : r.reopen = none) (hr : r.sup.nextDeck = fullRack) (hc : w.current = v.current)
    (hs : m = .single → w.state ≠ .swapWait ∧ w.state ≠ .gameDone) : Standing m q w r where
  ok := hok
  mark := fun _ k hk => by rw [hn] at hk; cases hk
  deck := fun _ => hr.trans hf.symm
  plays := h.plays.trans hg.symm
  closes := fun hx => absurd hx h.free
  single := fun hm => ⟨hc.trans (h.single hm), hs hm⟩
  home := fun hx => absurd hx ((inGame_iff w).mp hg)

/-- The bowler chosen (R20). -/
theorem Choosing.standing (h : Choosing m q v r) (hk : firstLacking v.round v.order = some k) :
    Standing m q { v with slot := some k, ball := 1 } r.racked where
  ok := h.rotates.squadOk hk
  mark := fun _ k hk' => by
    obtain ⟨hq, -, hm⟩ := h.mark k hk'
    exact ⟨hq, h.rotates.marked hk hm⟩
  deck := fun _ => (h.rotates.facing hk).symm
  plays := h.plays.trans (inGame_of_bowling h.rotates.bowling).symm
  closes := fun hc => absurd hc h.free
  single := fun hm => ⟨h.single hm, by simp [h.rotates.bowling], by simp [h.rotates.bowling]⟩
  home := fun hf => by simp [h.rotates.bowling] at hf

/-- Nobody left to bowl the round (R20). -/
theorem Choosing.roundOver (h : Choosing m q v r) (hk : firstLacking v.round v.order = none) : RoundOver m q v r.racked where
  toInPlay := ⟨h.fit, h.plays, h.free, h.single⟩
  bowling := h.rotates.bowling
  inRound := fun b hb => h.rotates.inRound_of_none hk hb
  unmarked := Option.eq_none_iff_forall_ne_some.mpr fun x hx => by simpa [hk] using (h.mark x hx).2.1
  rack := rfl

theorem RoundOver.next_inRound (h : RoundOver m q v r) : ∀ b ∈ v.order, InRound (v.round + 1 - 1) (v.round + 1 - 1) b := by
  simpa using h.inRound

/-- The next round (R21). -/
theorem RoundOver.standing_next (h : RoundOver m q v r) (h9 : v.round < 10) : Standing m q (v.toRound (v.round + 1)) r :=
  h.toInPlay.standing (squadOk_toRound (Nat.le_add_left 1 _) h9 h.fit.sheets h.next_inRound) rfl
    (facing_toRound (Nat.le_add_left 1 _) h9 h.next_inRound) h.unmarked h.rack rfl fun _ => ⟨nofun, nofun⟩

theorem facing_of_slot_none (h : v.slot = none) : v.facing = fullRack :=
  Squad.facing_of_none (by simp [Squad.currentBowler, h])

/-- A squad that waits for the swap (R98). -/
theorem RoundOver.standing_waiting (h : RoundOver .cross q v r) (h9 : v.round < 10) :
    Standing .cross q { v with state := .swapWait, ball := 1, slot := none } r :=
  h.toInPlay.standing (h.fit.waiting h.inRound h9) rfl (facing_of_slot_none rfl) h.unmarked h.rack rfl nofun

/-- A squad that has ended the pair's game (R99). -/
theorem RoundOver.standing_ended (h : RoundOver .cross q v r) (h10 : v.round = 10) :
    Standing .cross q { v with state := .gameDone, slot := none } r :=
  h.toInPlay.standing (h.fit.ended h.inRound h10) rfl (facing_of_slot_none rfl) h.unmarked h.rack rfl nofun

/-- A new game on the lane (R19). -/
theorem InPlay.standing_started (h : InPlay m q v r) (game : Nat) : Standing m q (v.started game) r.atStart := by
  have hp : InPlay m q v r.atStart := ⟨h.fit, h.plays, h.free, h.single⟩
  exact hp.standing (squadOk_started v game).1 rfl (squadOk_started v game).2 rfl rfl rfl fun _ => ⟨nofun, nofun⟩

/-- The squad without a game and the lane OPEN (R21). -/
theorem InPlay.standing_opened (h : InPlay m q v r) (hh : v.current = q) (hn : r.reopen = none) :
    Standing m q v.formed { r with state := .opened } where
  ok := h.fit.formed
  mark := fun _ k hk => by rw [show r.reopen = some k from hk] at hn; cases hn
  deck := by simp [LaneState.plays]
  plays := by simp [LaneState.plays, Squad.formed, Squad.inGame]
  closes := fun hx => absurd hx h.free
  single := fun _ => ⟨hh, by simp [Squad.formed], by simp [Squad.formed]⟩
  home := fun _ => hh

theorem InPlay.map (h : InPlay m q v r) {f : Bowler → Bowler} (hf : ∀ b, (f b).sheet = b.sheet ∧ (f b).pending = b.pending) :
    InPlay m q { v with order := v.order.map f } r := ⟨h.fit.map hf, h.plays, h.free, h.single⟩

end

end Sys2Proof.Machine

namespace Sys2Proof.Machine

/-! ### The end of a game (R21, R99, R100) -/

section
variable {q : SquadId} {l : Lane} {s t : State}

theorem sameBoard_raiseLane (k : NoticeKind) (l : Lane) (s : State) : SameBoard s (raiseLane k l s) :=
  ⟨by simp, by simp, by simp⟩

theorem sameBoard_creditShort (l : Lane) (q : SquadId) (s : State) : SameBoard s (creditShort l q s) := by
  unfold creditShort
  split
  · exact sameBoard_raiseLane _ _ _
  · exact .refl s

/-- A game started at home (R19). -/
theorem startSquadGame_squad (q p : SquadId) (game : Nat) (s : State) :
    (startSquadGame q game s).squad p = if p = q then (s.squad q).started game else s.squad p :=
  modSquad_squad q p (fun v => v.started game) s

theorem startSquadGame_lane (h : (s.squad q).current = q) (l : Lane) (game : Nat) :
    (startSquadGame q game s).lane l = if l = q then (s.lane q).atStart else s.lane l := by
  rw [startSquadGame_eq, h]
  by_cases hl : l = q
  · subst hl; simp; rfl
  · rw [State.setLane_lane, if_neg hl, if_neg hl, State.setSquad_lane]

/-- What follows a completed game, on a lane at home (R21). -/
theorem standing_afterGame {m : PairMode} (h : InPlay m q (s.squad q) (s.lane q)) (hh : (s.squad q).current = q)
    (hn : (s.lane q).reopen = none) : Standing m q ((afterGame q q s).squad q) ((afterGame q q s).lane q) := by
  unfold afterGame
  dsimp only
  split
  · have hb := sameBoard_creditShort q q (startSquadGame q (saturate 255 (s.squad q).game) s)
    rw [hb.squad, hb.lane, startSquadGame_squad, startSquadGame_lane hh, if_pos rfl, if_pos rfl]
    exact h.standing_started _
  · rw [setLaneState, modLane_lane_same, modSquad_lane]
    exact (modSquad_squad_same q Squad.formed s) ▸ h.standing_opened hh hn

theorem afterGame_other (hh : (s.squad q).current = q) :
    (afterGame q q s).squad q.other = s.squad q.other ∧ (afterGame q q s).lane q.other = s.lane q.other := by
  unfold afterGame
  dsimp only
  split
  · have hb := sameBoard_creditShort q q (startSquadGame q (saturate 255 (s.squad q).game) s)
    rw [hb.squad, hb.lane, startSquadGame_squad, startSquadGame_lane hh, if_neg (Side.other_ne q), if_neg (Side.other_ne q)]
    exact ⟨rfl, rfl⟩
  · rw [setLaneState, modLane_lane_other, modSquad_lane]
    exact ⟨(modSquad_squad q q.other Squad.formed s).trans (if_neg (Side.other_ne q)), rfl⟩

/-- In SINGLE each squad stands at home. -/
theorem GamesOk.of_single (hp : Safety.SquadsPlaced s) (hm : s.pairMode = .single)
    (h : Standing .single q (s.squad q) (s.lane q)) (h' : Standing .single q.other (s.squad q.other) (s.lane q.other)) :
    GamesOk s := by
  have hs : ∀ p, Standing .single p (s.squad p) (s.lane p) := by
    intro p
    by_cases hpq : p = q
    · exact hpq ▸ h
    · exact Side.eq_other_of_ne hpq ▸ h'
  exact .of_home hp (fun p => ((hs p).single rfl).1) (fun p => hm ▸ hs p) (fun hc => by rw [hm] at hc; cases hc)

theorem afterGame_pairMode (q : SquadId) (l : Lane) (s : State) : (afterGame q l s).pairMode = s.pairMode := by
  unfold afterGame
  dsimp only
  split
  · exact (sameBoard_creditShort _ _ _).mode
  · rfl

theorem gamesOk_afterGame (hm : s.pairMode = .single)
    (h : Sided (fun m v r => InPlay m q v r ∧ r.reopen = none) q s) : GamesOk (afterGame q q s) := by
  obtain ⟨hi, hn⟩ := h.this
  have hc := hi.single hm
  unfold State.laneOf at hi hn
  rw [hc] at hi hn
  have ho := h.other
  have hco := (ho.single hm).1
  unfold State.laneOf at ho
  rw [hco, hm] at ho
  obtain ⟨hsq, hln⟩ := afterGame_other hc
  refine .of_single (q := q) ((keepsRecords_afterGame q q s).placed h.placed) ((afterGame_pairMode q q s).trans hm)
    (standing_afterGame (hm ▸ hi) hc hn) ?_
  rw [hsq, hln]
  exact ho

/-- The state in which the pair's game ends: the WAITING bowlers converted and both squads at home (R100). -/
def sentHome (s : State) : State := clearReopens (dropSwapHolds (returnHome (convertSquad .a (convertSquad .b s))))

theorem keepsRecords_sentHome (s : State) : KeepsRecords s (sentHome s) :=
  ((keepsRecords_mapOrder .b convertWaiting s).trans (keepsRecords_mapOrder .a convertWaiting _)).trans
    ((keepsRecords_returnHome _).trans ((keepsRecords_dropSwapHolds _).trans (keepsRecords_clearReopens _)))

theorem sentHome_squad (s : State) (q : SquadId) :
    (sentHome s).squad q =
      { s.squad q with order := (s.squad q).order.map convertWaiting, current := (s.squad q).home } := by
  cases q <;> rfl

theorem sentHome_lane (s : State) (l : Lane) :
    (sentHome s).lane l = { s.lane l with squad := l, holds := (s.lane l).holds.put .swap false, reopen := none } := by
  cases l <;> rfl

/-- Both squads in a game on lanes in play: every lane is in play, whoever stands there. -/
theorem lanes_inPlay (hp : Safety.SquadsPlaced s) (hs : ∀ q, InPlay s.pairMode q (s.squad q) (s.laneOf q)) (l : Lane) :
    (s.lane l).state.plays = true ∧ ¬(s.lane l).sup.closes := by
  have h := hs (s.lane l).squad
  unfold State.laneOf at h
  rw [current_squad_of_placed hp l] at h
  exact ⟨h.plays, h.free⟩

/-- Two games started at home (R95, R100). -/
theorem gamesOk_startBoth (hp : Safety.SquadsPlaced t) (hc : ∀ q, (t.squad q).current = q)
    (hi : ∀ q, InPlay t.pairMode q (t.squad q) (t.lane q)) (ga gb : Nat) :
    GamesOk (startSquadGame .b gb (startSquadGame .a ga t)) := by
  have hca : ((startSquadGame .a ga t).squad .b).current = .b := by
    rw [startSquadGame_squad, if_neg (by decide)]; exact hc .b
  have hsq : ∀ q, ∃ g, (startSquadGame .b gb (startSquadGame .a ga t)).squad q = (t.squad q).started g := fun q => by
    rw [startSquadGame_squad, startSquadGame_squad, startSquadGame_squad]
    cases q
    · exact ⟨ga, rfl⟩
    · exact ⟨gb, rfl⟩
  have hln : ∀ q, (startSquadGame .b gb (startSquadGame .a ga t)).lane q = (t.lane q).atStart := fun q => by
    rw [startSquadGame_lane hca, startSquadGame_lane (hc .a), startSquadGame_lane (hc .a)]
    cases q <;> rfl
  refine GamesOk.of_home (((keepsRecords_startSquadGame .a ga t).trans (keepsRecords_startSquadGame .b gb _)).placed hp)
    (fun q => ?_) (fun q => ?_) (fun _ q => ?_)
  · obtain ⟨g, hg⟩ := hsq q
    rw [hg]; exact hc q
  · obtain ⟨g, hg⟩ := hsq q
    rw [hg, hln]; exact (hi q).standing_started g
  · obtain ⟨g, hg⟩ := hsq q
    obtain ⟨g', hg'⟩ := hsq q.other
    rw [hg, hg']; exact ⟨rfl, fun _ => rfl, fun _ => .inl rfl⟩

/-- Both squads without a game, on OPEN lanes (R100). -/
def bothFormed (s : State) : State :=
  setLaneState .a .opened (setLaneState .b .opened (modSquad .a Squad.formed (modSquad .b Squad.formed s)))

theorem gamesOk_bothFormed (hp : Safety.SquadsPlaced t) (hc : ∀ q, (t.squad q).current = q)
    (hi : ∀ q, InPlay t.pairMode q (t.squad q) (t.lane q)) (hn : ∀ l, (t.lane l).reopen = none) : GamesOk (bothFormed t) := by
  have hsq : ∀ q, (bothFormed t).squad q = (t.squad q).formed := fun q => by cases q <;> rfl
  have hln : ∀ q, (bothFormed t).lane q = { t.lane q with state := .opened } := fun q => by cases q <;> rfl
  refine GamesOk.of_home (((keepsRecords_formed .b t).trans ((keepsRecords_formed .a _).trans
    ((keepsRecords_setLaneState .b _ (by decide)).trans (keepsRecords_setLaneState .a _ (by decide))))).placed hp)
    (fun q => ?_) (fun q => ?_) (fun _ q => ?_)
  · rw [hsq]; exact hc q
  · rw [hsq, hln]; exact (hi q).standing_opened (hc q) (hn q)
  · rw [hsq, hsq]; exact ⟨rfl, nofun, nofun⟩

/-- The end of the pair's game (R100). -/
theorem gamesOk_endPairGame (q : SquadId) (hp : Safety.SquadsPlaced s)
    (hs : ∀ q, InPlay s.pairMode q (s.squad q) (s.laneOf q)) : GamesOk (endPairGame q s) := by
  have hpt : Safety.SquadsPlaced (sentHome s) := (keepsRecords_sentHome s).placed hp
  have hc : ∀ q, ((sentHome s).squad q).current = q := fun q => by rw [sentHome_squad]; exact hp.1 q
  have hi : ∀ q, InPlay (sentHome s).pairMode q ((sentHome s).squad q) ((sentHome s).lane q) := fun q => by
    rw [sentHome_squad, sentHome_lane]
    obtain ⟨hpl, hfr⟩ := lanes_inPlay hp hs q
    obtain ⟨h1, h10, hsh⟩ := (hs q).fit.map convertWaiting_sheet
    exact ⟨⟨h1, h10, hsh⟩, hpl, hfr, fun _ => hp.1 q⟩
  have hn : ∀ l, ((sentHome s).lane l).reopen = none := fun l => by rw [sentHome_lane]
  unfold endPairGame
  dsimp only
  split
  · have hg := gamesOk_startBoth hpt hc hi (saturate 255 ((sentHome s).squad .a).game) (saturate 255 ((sentHome s).squad .b).game)
    exact ((hg.of_board (sameBoard_creditShort .a .a _)).of_board (sameBoard_creditShort .b .b _)).of_quiet
      (quiet_bothChanged _)
  · exact (gamesOk_bothFormed hpt hc hi hn).of_quiet (quiet_bothChanged _)

end

end Sys2Proof.Machine

namespace Sys2Proof.Machine

/-! ### The end of a frame round (R21, R96) -/

section
variable {q : SquadId} {l : Lane} {s : State} {f k : Nat}

/-- The state after a swap, before the supervisors take their new bowlers (R97). -/
def swapped (f : Nat) (s : State) : State :=
  clearReopens (dropSwapHolds (writeNextDeck .a fullRack (writeNextDeck .b fullRack
    (modSquad .a (fun v => v.toRound (f + 1)) (modSquad .b (fun v => v.toRound (f + 1)) (exchangeLanes s))))))

theorem keepsRecords_swapped (f : Nat) (s : State) : KeepsRecords s (swapped f s) :=
  (keepsRecords_exchangeLanes s).trans ((keepsRecords_toRound .b (fun _ => f + 1) _).trans
    ((keepsRecords_toRound .a (fun _ => f + 1) _).trans ((keepsRecords_writeNextDeck .b fullRack _).trans
      ((keepsRecords_writeNextDeck .a fullRack _).trans ((keepsRecords_dropSwapHolds _).trans (keepsRecords_clearReopens _))))))

theorem swapped_squad (f : Nat) (s : State) (q : SquadId) :
    (swapped f s).squad q = { (s.squad q).toRound (f + 1) with current := (s.squad q).current.other } := by
  cases q <;> rfl

theorem swapped_lane (f : Nat) (s : State) (l : Lane) :
    (swapped f s).lane l =
      { (s.lane l).atStart with squad := (s.lane l).squad.other, holds := (s.lane l).holds.put .swap false } := by
  cases l <;> rfl

/-- The swap of two squads that have completed the same round (R97). -/
theorem gamesOk_swapSquads (hp : Safety.SquadsPlaced s) (hm : s.pairMode = .cross)
    (hs : ∀ q, InPlay s.pairMode q (s.squad q) (s.laneOf q)) (h10 : f < 10)
    (hr : ∀ q, ∀ b ∈ (s.squad q).order, InRound f f b) : GamesOk (swapSquads f s) := by
  refine GamesOk.of_quiet (s := swapped f s) ?_ (quiet_bothChanged _)
  have hmt : (swapped f s).pairMode = .cross := hm
  refine ⟨(keepsRecords_swapped f s).placed hp, fun q => ?_, fun _ q => ?_⟩
  · have hq : ∀ b ∈ (s.squad q).order, InRound (f + 1 - 1) (f + 1 - 1) b := by simpa using hr q
    have hok := squadOk_toRound (Nat.le_add_left 1 f) h10 (hs q).fit.sheets hq
    have hface := facing_toRound (Nat.le_add_left 1 f) h10 hq
    unfold State.laneOf
    rw [hmt, swapped_squad, swapped_lane]
    obtain ⟨hpl, hfr⟩ := lanes_inPlay hp hs (s.squad q).current.other
    exact {
      ok := ⟨hok.first, hok.last, hok.waits, hok.ends, hok.sheets, hok.idle, hok.current, hok.game, hok.others⟩
      mark := nofun
      deck := fun _ => hface.symm
      plays := hpl
      closes := fun hc => absurd hc hfr
      single := nofun
      home := nofun }
  · rw [swapped_squad, swapped_squad]
    exact ⟨rfl, fun _ => rfl, fun _ => .inl rfl⟩

theorem Level.of_state {v w v' : Squad} (h : Level v w) (hg : v'.inGame = v.inGame) (hr : v'.round = v.round)
    (hb : v'.inGame = true → v'.state = .bowling ∨ w.state = .bowling) : Level v' w :=
  ⟨hg.trans h.inGame, fun hi => hr.trans (h.round (hg ▸ hi)), hb⟩

theorem level_of_single {v w : Squad} {m : PairMode} (hm : m = .single) (hc : m = .cross) : Level v w := by
  rw [hm] at hc; cases hc

theorem quiet_storeTotals (q : SquadId) (s : State) : Quiet s (storeTotals q s) := quiet_modSquad (squadQuiet_completeGame _)

/-- Beside a squad that has completed its round: the other bowls, or waits for the swap, or has ended the game (R96). -/
theorem Sided.other_state (h : Sided (fun m => RoundOver m q) q s) (hm : s.pairMode = .cross) :
    (s.squad q.other).round = (s.squad q).round ∧
      ((s.squad q.other).state = .bowling ∨ ((s.squad q.other).state = .swapWait ∧ (s.squad q).round < 10) ∨
        ((s.squad q.other).state = .gameDone ∧ (s.squad q).round = 10)) := by
  have hg := inGame_of_bowling h.this.bowling
  have hr := (h.level hm).round hg
  have ho : (s.squad q.other).inGame = true := (h.level hm).inGame ▸ hg
  refine ⟨hr.symm, ?_⟩
  cases hs : (s.squad q.other).state with
  | forming => exact absurd hs ((inGame_iff _).mp ho)
  | bowling => exact .inl rfl
  | swapWait => exact .inr (.inl ⟨rfl, by have := h.other.ok.waits hs; omega⟩)
  | gameDone => exact .inr (.inr ⟨rfl, hr.trans (h.other.ok.ends hs)⟩)

/-- A round complete in SINGLE (R21). -/
theorem gamesOk_roundDoneSingle (hm : s.pairMode = .single) (h : Sided (fun m => RoundOver m q) q s) :
    GamesOk (roundDoneSingle q q s) := by
  unfold roundDoneSingle
  split
  next h10 =>
    exact (h.rewrite_squad (f := fun v => v.toRound (v.round + 1)) ⟨rfl, rfl⟩ (fun hr => hr.standing_next h10)
      fun hc _ => level_of_single hm hc).gamesOk
  next =>
    have h1 : Sided (fun m => RoundOver m q) q (storeTotals q s) :=
      h.of_quiet (quiet_storeTotals q s) fun hl hv hr => hr.of_quiet hl hv
    have h2 : Sided (fun m v r => InPlay m q v r ∧ r.reopen = none) q (convertSquad q (storeTotals q s)) :=
      h1.rewrite_squad (f := fun v => { v with order := v.order.map convertWaiting }) ⟨rfl, rfl⟩
        (fun hr => ⟨hr.toInPlay.map convertWaiting_sheet, hr.unmarked⟩) fun hc _ => level_of_single hm hc
    have h3 : Sided (fun m v r => InPlay m q v r ∧ r.reopen = none) q (raiseLane .game q (convertSquad q (storeTotals q s))) :=
      h2.of_quiet (quiet_raiseLane _ _ _) fun hl hv hr => ⟨hr.1.of_quiet hl hv, hl.reopen.elim (·.trans hr.2) id⟩
    exact gamesOk_afterGame (by simpa using hm) h3

/-- A squad that waits for the swap, the other still bowling (R98). -/
theorem gamesOk_waitForSwap (hm : s.pairMode = .cross) (h : Sided (fun m => RoundOver m q) q s)
    (h9 : (s.squad q).round < 10) (ho : (s.squad q.other).state = .bowling) : GamesOk (waitForSwap q l s) := by
  have h1 : Sided (fun m => Standing m q) q (modSquad q (fun v => { v with state := .swapWait, ball := 1, slot := none }) s) :=
    h.rewrite_squad ⟨rfl, rfl⟩ (fun hr => by rw [hm] at hr ⊢; exact hr.standing_waiting h9)
      fun _ hl => hl.of_state (inGame_of_bowling h.this.bowling).symm rfl fun _ => .inr ho
  exact h1.gamesOk.of_quiet (quiet_addHold l .swap _)

/-- A squad ends the pair's game (R99): it waits for the other, or the game ends for both. -/
theorem gamesOk_reachGameDone (hm : s.pairMode = .cross) (h : Sided (fun m => RoundOver m q) q s)
    (h10 : (s.squad q).round = 10) : GamesOk (reachGameDone q l s) := by
  have hq := quiet_storeTotals q s
  have h1 : Sided (fun m => RoundOver m q) q (storeTotals q s) := h.of_quiet hq fun hl hv hr => hr.of_quiet hl hv
  have h10' : ((storeTotals q s).squad q).round = 10 := (hq.squads q).round.trans h10
  have hg : ((storeTotals q s).squad q).inGame = true := inGame_of_bowling h1.this.bowling
  have hlv := h1.level hm
  have hst : (storeTotals q s).squad q.other = s.squad q.other :=
    (modSquad_squad q q.other _ s).trans (if_neg (Side.other_ne q))
  rw [hst] at hlv
  have h2 : Halves (fun m => Standing m q) q
      (modSquad q (fun v => { v with state := .gameDone, slot := none }) (storeTotals q s)) :=
    h1.toHalves.rewrite_squad ⟨rfl, rfl⟩ fun hr => by
      have hm' : (storeTotals q s).pairMode = .cross := hm
      rw [hm'] at hr ⊢
      exact hr.standing_ended h10'
  have h3 := h2.of_quiet (Q := fun m => Standing m q) (quiet_raiseLane .game l _) fun hl hv hr => hr.of_quiet hl hv
  unfold reachGameDone
  dsimp only
  split
  next ho =>
    refine gamesOk_endPairGame q h3.placed fun p => (h3.side p).inPlay ?_
    rw [(quiet_raiseLane .game l _).squads p |>.inGame, modSquad_squad, inGame_iff]
    split
    · simp
    next hp => rw [Side.eq_other_of_ne hp, hst, ho]; simp
  next ho =>
    refine GamesOk.of_quiet (Sided.gamesOk ⟨h3, fun _ => ?_⟩) (quiet_addHold l .swap _)
    have hv := (quiet_raiseLane .game l (modSquad q (fun v => { v with state := .gameDone, slot := none }) (storeTotals q s))).squads
    refine Level.of_quiet ?_ (hv q) (hv q.other)
    rw [modSquad_squad, modSquad_squad, if_pos rfl, if_neg (Side.other_ne q), hst]
    refine hlv.of_state hg.symm rfl fun _ => .inr ?_
    rcases (h.other_state hm).2 with ho' | ⟨-, hlt⟩ | ⟨ho', -⟩
    · exact ho'
    · omega
    · exact absurd ho' ho

/-- A round complete in CROSS (R96). -/
theorem gamesOk_roundDoneCross (hm : s.pairMode = .cross) (h : Sided (fun m => RoundOver m q) q s) :
    GamesOk (roundDoneCross q l s) := by
  obtain ⟨hr, ho⟩ := h.other_state hm
  unfold roundDoneCross
  dsimp only
  split
  next h9 =>
    split
    next hw =>
      have hg : (s.squad q.other).inGame = true := (inGame_iff _).mpr (by rw [hw.1]; nofun)
      refine gamesOk_swapSquads h.placed hm (fun p => ?_) h9 fun p => ?_
      · by_cases hp : p = q
        · subst hp; exact h.this.toInPlay
        · rw [Side.eq_other_of_ne hp]; exact h.other.inPlay hg
      · by_cases hp : p = q
        · subst hp; exact h.this.inRound
        · rw [Side.eq_other_of_ne hp]
          have hx := h.other.ok.game hg
          rwa [show Safety.roundsDone (s.squad q.other) = (s.squad q.other).round by simp [Safety.roundsDone, hw.1], hr] at hx
    next hw =>
      refine gamesOk_waitForSwap hm h h9 ?_
      rcases ho with ho | ⟨ho, -⟩ | ⟨-, h10⟩
      · exact ho
      · exact absurd ⟨ho, hr⟩ hw
      · omega
  next h9 => exact gamesOk_reachGameDone hm h (by have := h.this.fit.last; omega)

/-- A round complete (R21, R96). -/
theorem gamesOk_roundDone (h : Sided (fun m => RoundOver m q) q s) (hl : (s.squad q).current = l) :
    GamesOk (roundDone q l s) := by
  have hq := (quiet_raiseLane .frame l s).trans (quiet_reportRound l _)
  have ht : Sided (fun m => RoundOver m q) q (reportRound l (raiseLane .frame l s)) :=
    h.of_quiet hq fun hl hv hr => hr.of_quiet hl hv
  unfold roundDone
  dsimp only
  split
  next hm =>
    have hlq : l = q := hl.symm.trans (h.this.single (hq.mode ▸ hm))
    subst hlq
    exact gamesOk_roundDoneSingle hm ht
  next hm => exact gamesOk_roundDoneCross hm ht

/-- The next bowler chosen, or the round complete (R20). -/
theorem gamesOk_chooseNext (h : Sided (fun m => Choosing m q) q s) (hl : (s.squad q).current = l) :
    GamesOk (chooseNext q l s) := by
  unfold chooseNext
  dsimp only
  split
  next k hk =>
    exact (h.rewrite (f := fun v => { v with slot := some k, ball := 1 }) (g := LaneRec.racked) hl ⟨rfl, rfl⟩ rfl
      (fun hc => hc.standing hk) fun _ hv =>
        hv.of_state rfl rfl fun _ => .inl h.this.rotates.bowling).gamesOk
  next hk =>
    exact gamesOk_roundDone (h.rewrite_lane (g := LaneRec.racked) hl rfl fun hc => hc.roundOver hk) hl

end

end Sys2Proof.Machine

namespace Sys2Proof.Machine

/-! ### Parking, opening and closing keep the games -/

section
variable {m : PairMode} {q : SquadId} {v w v' : Squad} {r t : LaneRec} {l : Lane} {s u : State}

/-- The side that stands on a lane. -/
theorem GamesOk.on (h : GamesOk s) (l : Lane) : Standing s.pairMode (s.lane l).squad (s.squad (s.lane l).squad) (s.lane l) := by
  have hq := h.side (s.lane l).squad
  unfold State.laneOf at hq
  rwa [current_squad_of_placed h.placed l] at hq

theorem laneOf_squad (h : Safety.SquadsPlaced s) (l : Lane) : s.laneOf (s.lane l).squad = s.lane l := by
  unfold State.laneOf
  rw [current_squad_of_placed h l]

theorem Standing.forming (h : Standing m q v r) (hp : r.state.plays = false) : v.state = .forming := by
  have := h.plays.symm.trans hp
  simpa [Squad.inGame] using this

/-- A squad in no game is level with one in none. -/
theorem Level.of_not_inGame (h : Level v w) (hv : v.inGame = false) (hv' : v'.inGame = false) : Level v' w :=
  ⟨hv'.trans (hv.symm.trans h.inGame), by simp [hv'], by simp [hv']⟩

theorem not_inGame_of_forming (h : v.state = .forming) : v.inGame = false := by simp [Squad.inGame, h]

/-- A squad in no game, at home on a lane that is not in play. -/
theorem Standing.of_forming (hok : SquadOk v) (hs : v.state = .forming) (hh : v.current = q) (hp : r.state.plays = false)
    (hn : r.state ≠ .closing → r.reopen = none ∧ ¬r.sup.closes) : Standing m q v r where
  ok := hok
  mark := fun hc k hk => by rw [(hn hc).1] at hk; cases hk
  deck := fun h => by rw [hp] at h; cases h
  plays := hp.trans (not_inGame_of_forming hs).symm
  closes := fun hc => Classical.byContradiction fun h => (hn h).2 hc
  single := fun _ => ⟨hh, by simp [hs], by simp [hs]⟩
  home := fun _ => hh

/-- A CLOSING lane parks (R5, R159). -/
theorem gamesOk_park (h : GamesOk s) (hc : (s.lane l).state = .closing) (faulted : Bool) : GamesOk (park l faulted s) := by
  have hon := h.on l
  have hf := hon.forming (by rw [hc]; rfl)
  rw [park_eq]
  refine ((h.sided (s.lane l).squad).rewrite (Q := fun m => Standing m (s.lane l).squad) (f := Squad.closed)
    (g := fun r => { r with
      state := .closed, holds := .none, latchedFault := r.latchedFault || faulted, reopen := none, acct := .cleared
      runTicks := 0, sup := r.sup.afterPark })
    (current_squad_of_placed h.placed l) ⟨rfl, rfl⟩ rfl (fun _ => ?_)
    fun _ hl => hl.of_not_inGame (not_inGame_of_forming hf) rfl).gamesOk
  exact .of_forming (squadOk_closed _) rfl (hon.home hf) rfl fun _ => ⟨rfl, not_closes_of_none rfl⟩

theorem Calm.gamesOk (h : Calm s u) (hs : GamesOk s) : GamesOk u := by
  induction h with
  | quiet h => exact hs.of_quiet h
  | park hc => exact gamesOk_park hs hc _
  | trans _ _ ih ih' => exact ih' (ih hs)

/-- OPEN_LANE (R2): a CLOSED lane holds no mark and no closing cycle. -/
theorem gamesOk_openEffect (h : GamesOk s) (hc : (s.lane l).state = .closed) (a : AccountMode) (credit warn : Nat) :
    GamesOk (openEffect l a credit warn s) := by
  have hon := h.on l
  have hf := hon.forming (by rw [hc]; rfl)
  have hn := hon.unmarked (by simp [hc]) (by simp [hf])
  have hfree : ¬(s.lane l).sup.closes := fun hx => by simpa [hc] using hon.closes hx
  refine GamesOk.of_quiet ?_ (quiet_wake l _)
  refine ((h.sided (s.lane l).squad).rewrite_lane (Q := fun m => Standing m (s.lane l).squad)
    (current_squad_of_placed h.placed l) rfl fun hst => ?_).gamesOk
  rw [laneOf_squad h.placed]
  refine .of_forming hon.ok hf (hon.home hf) rfl fun _ => ⟨hn, ?_⟩
  dsimp only
  unfold openSupervisor
  split <;> exact hfree

/-- Steps 2 to 4 of CLOSE_LANE in SINGLE (R5). -/
theorem gamesOk_endSession (h : GamesOk s) (hm : s.pairMode = .single) (l : Lane) : GamesOk (endSession l s) := by
  let q := (s.lane l).squad
  have hcl : (s.squad q).current = l := current_squad_of_placed h.placed l
  have hcq : (s.squad q).current = q := ((h.side q).single hm).1
  let P : PairMode → Squad → LaneRec → Prop := fun m v r => m = .single ∧ SquadFit v ∧ v.current = q ∧ r.state = .closing
  have h1 : Sided P q (setLaneState l .closing s) :=
    (h.sided q).rewrite_lane hcl rfl fun hst => ⟨hm, hst.ok.fit, hcq, rfl⟩
  have h2 := h1.rewrite_lane (Q := P) (l := l) (g := fun r =>
      { r with summary := some (frozenSummary l r.acct (clockReading s.clock)), runTicks := 0,
               acct := { r.acct with phase := 0 } }) hcl rfl fun hp => hp
  have h3 : Sided P q (freezeSession l (setLaneState l .closing s)) :=
    h2.of_quiet (quiet_raiseLane .closed l _) fun hl hv hp =>
      ⟨hp.1, hp.2.1.of_quiet hv, hv.current.trans hp.2.2.1, hl.closing_iff.mpr hp.2.2.2⟩
  have hsq : ((freezeSession l (setLaneState l .closing s)).lane l).squad = q := by
    simp [freezeSession, setLaneState, q]
  have hc3 : ((freezeSession l (setLaneState l .closing s)).squad q).current = l := by
    simp [freezeSession, setLaneState, State.squad_of_squads (s := s), hcl]
  unfold endSession abandonGame
  rw [hsq]
  exact (h3.rewrite (Q := fun m => Standing m q) (f := Squad.formed) (g := LaneRec.racked) hc3 ⟨rfl, rfl⟩ rfl
    (fun ⟨_, hfit, hcur, hcl⟩ => .of_forming hfit.formed rfl hcur (by simp [LaneRec.racked, hcl, LaneState.plays])
      fun hx => absurd hcl hx)
    fun hc _ => level_of_single h3.this.1 hc).gamesOk

/-! ### Starts, pair modes and the forced split -/

/-- START_GAME in SINGLE (R3). -/
theorem gamesOk_starts (h : GamesOk s) (hm : s.pairMode = .single) (ho : (s.lane l).state = .opened) (g : Games) :
    GamesOk (setLaneState l .playing (beginGames (s.lane l).squad g s)) := by
  let q := (s.lane l).squad
  have hcl : (s.squad q).current = l := current_squad_of_placed h.placed l
  have he : setLaneState l .playing (beginGames q g s) =
      modSquad q (fun v => ({ v with games := g } : Squad).started 1) (modLane l (fun r => { r.atStart with state := .playing }) s) := by
    rw [beginGames_eq, hcl]
    simp [setLaneState, modLane_eq, modSquad_eq]
    rfl
  rw [he]
  refine ((h.sided q).rewrite (Q := fun m => Standing m q) hcl ⟨rfl, rfl⟩ rfl (fun hst => ?_)
    fun hc _ => level_of_single hm hc).gamesOk
  have hfree : ¬(s.laneOf q).sup.closes := fun hx => by simpa [q, laneOf_squad h.placed, ho] using hst.closes hx
  have hi : InPlay s.pairMode q { s.squad q with games := g } { s.laneOf q with state := .playing } :=
    ⟨⟨hst.ok.first, hst.ok.last, hst.ok.sheets⟩, rfl, hfree, fun hm => (hst.single hm).1⟩
  exact hi.standing_started 1

theorem setLaneState_startSquadGame (l : Lane) (st : LaneState) (q : SquadId) (game : Nat) (s : State) :
    setLaneState l st (startSquadGame q game s) = startSquadGame q game (setLaneState l st s) := by
  have hs : (setLaneState l st s).squad q = s.squad q := rfl
  rw [startSquadGame_eq, startSquadGame_eq, hs]
  cases (s.squad q).current <;> cases l <;> rfl

theorem modSquad_startSquadGame (f : Squad → Squad) (game : Nat) (s : State) :
    modSquad .b f (startSquadGame .a game s) = startSquadGame .a game (modSquad .b f s) := by
  have hs : (modSquad .b f s).squad .a = s.squad .a := rfl
  rw [startSquadGame_eq, startSquadGame_eq, hs]
  rfl

/-- START_GAME in CROSS (R95): both squads, at home on OPEN lanes. -/
theorem gamesOk_startsPair (h : GamesOk s) (ho : ∀ l, (s.lane l).state = .opened) (g : Games) :
    GamesOk (setLaneState .b .playing (setLaneState .a .playing (beginGames .b g (beginGames .a g s)))) := by
  have hf : ∀ q, (s.squad q).state = .forming := fun q =>
    (h.side q).forming (by rw [State.laneOf, ho]; rfl)
  have hc : ∀ q, (s.squad q).current = q := fun q => (h.side q).home (hf q)
  let u := setLaneState .b .playing (setLaneState .a .playing
    (modSquad .b (fun v => { v with games := g }) (modSquad .a (fun v => { v with games := g }) s)))
  have hsq : ∀ q, u.squad q = { s.squad q with games := g } := fun q => by cases q <;> rfl
  have hln : ∀ l, u.lane l = { s.lane l with state := .playing } := fun l => by cases l <;> rfl
  have he : setLaneState .b .playing (setLaneState .a .playing (beginGames .b g (beginGames .a g s))) =
      startSquadGame .b 1 (startSquadGame .a 1 u) := by
    unfold beginGames
    rw [modSquad_startSquadGame, setLaneState_startSquadGame, setLaneState_startSquadGame, setLaneState_startSquadGame,
      setLaneState_startSquadGame]
  rw [he]
  refine gamesOk_startBoth ?_ (fun q => ?_) (fun q => ?_) 1 1
  · simpa only [Safety.SquadsPlaced, hsq, hln] using h.placed
  · rw [hsq]; exact hc q
  · rw [hsq, hln]
    have hst := h.side q
    unfold State.laneOf at hst
    rw [hc q] at hst
    exact ⟨⟨hst.ok.first, hst.ok.last, hst.ok.sheets⟩, rfl, fun hx => by simpa [ho] using hst.closes hx, fun _ => hc q⟩

/-- A side in no game stands in either pair mode. -/
theorem Standing.of_mode {m' : PairMode} (h : Standing m q v r)
    (hs : m' = .single → v.current = q ∧ v.state ≠ .swapWait ∧ v.state ≠ .gameDone) : Standing m' q v r := { h with single := hs }

theorem level_of_forming (hv : v.state = .forming) (hw : w.state = .forming) : Level v w :=
  ⟨by rw [not_inGame_of_forming hv, not_inGame_of_forming hw], by simp [not_inGame_of_forming hv],
    by simp [not_inGame_of_forming hv]⟩

/-- A change of pair mode while no squad is in a game. -/
theorem gamesOk_pairMode (h : GamesOk s) (hf : ∀ q, (s.squad q).state = .forming) (m' : PairMode) :
    GamesOk { s with pairMode := m' } :=
  ⟨h.placed, fun q => (h.side q).of_mode fun _ => ⟨(h.side q).home (hf q), by rw [hf q]; nofun, by rw [hf q]; nofun⟩,
    fun _ q => level_of_forming (hf q) (hf q.other)⟩

/-- SET_PAIR_MODE CROSS (R94): both squads without a game on OPEN lanes. -/
theorem gamesOk_joins (h : GamesOk s) (ho : ∀ l, (s.lane l).state = .opened) : GamesOk { s with pairMode := .cross } :=
  gamesOk_pairMode h (fun q => (h.side q).forming (by rw [State.laneOf, ho]; rfl)) _

/-- SPLIT_PAIR (R101): two squads between games are without a game. -/
theorem gamesOk_splits (h : GamesOk s) (hm : s.pairMode = .cross) (hs : ∀ q, (s.squad q).state.splittable = true) :
    GamesOk { s with pairMode := .single } := by
  have hnb : ∀ q, (s.squad q).state ≠ .bowling := fun q hb => by simpa [hb, SquadState.splittable] using hs q
  refine gamesOk_pairMode h (fun q => ?_) _
  have hg : (s.squad q).inGame = false := Bool.eq_false_iff.mpr fun hx =>
    ((h.level hm q).bowling hx).elim (hnb q) (hnb q.other)
  simpa [Squad.inGame] using hg

end

end Sys2Proof.Machine

namespace Sys2Proof.Machine

/-! ### The forced split (R102) -/

section
variable {q : SquadId} {l : Lane} {s u : State}

theorem standing_splitSquad (hc : (s.squad q).current = q) (h : Standing .cross q (s.squad q) (s.lane q)) :
    Standing .single q ((splitSquad q s).squad q) ((splitSquad q s).lane q) := by
  unfold splitSquad
  dsimp only
  split
  next hs =>
    have hi := h.inPlay ((inGame_iff _).mpr (by rw [hs]; nofun))
    have h9 := h.ok.waits hs
    have hin : ∀ b ∈ (s.squad q).order,
        InRound ((s.squad q).round + 1 - 1) ((s.squad q).round + 1 - 1) b := by
      have := h.ok.game ((inGame_iff _).mpr (by rw [hs]; nofun))
      simpa [Safety.roundsDone, hs] using this
    have hok := squadOk_toRound (Nat.le_add_left 1 _) (by omega) h.ok.sheets hin
    have hface := facing_toRound (Nat.le_add_left 1 _) (by omega) hin
    have hn := h.unmarked (ne_closing_of_plays hi.plays) (by rw [hs]; nofun)
    have hi' : InPlay .single q (s.squad q) (s.lane q).racked := ⟨hi.fit, hi.plays, hi.free, fun _ => hc⟩
    have hst := hi'.standing hok rfl hface hn rfl rfl fun _ => ⟨nofun, nofun⟩
    have hsq : (modSquad q (fun v => v.toRound (v.round + 1)) s).squad q = (s.squad q).toRound ((s.squad q).round + 1) :=
      modSquad_squad_same _ _ _
    have hln : (writeNextDeck q fullRack (modSquad q (fun v => v.toRound (v.round + 1)) s)).lane q = (s.lane q).racked :=
      modLane_lane_same _ _ _
    rw [hc, hln, show (writeNextDeck q fullRack (modSquad q (fun v => v.toRound (v.round + 1)) s)).squad q = _ from hsq]
    exact hst
  next hs =>
    have hi := h.inPlay ((inGame_iff _).mpr (by rw [hs]; nofun))
    have hn := h.unmarked (ne_closing_of_plays hi.plays) (by rw [hs]; nofun)
    have hsq : (convertSquad q s).squad q = { s.squad q with order := (s.squad q).order.map convertWaiting } :=
      modSquad_squad_same _ _ _
    have hi' : InPlay .single q ((convertSquad q s).squad q) ((convertSquad q s).lane q) := by
      rw [hsq]
      exact InPlay.map ⟨hi.fit, hi.plays, hi.free, fun _ => hc⟩ convertWaiting_sheet
    rw [hc]
    exact standing_afterGame hi' (by rw [hsq]; exact hc) hn
  next h1 h2 => exact h.of_mode fun _ => ⟨hc, h1, h2⟩

theorem splitSquad_other (hc : (s.squad q).current = q) :
    (splitSquad q s).squad q.other = s.squad q.other ∧ (splitSquad q s).lane q.other = s.lane q.other := by
  unfold splitSquad
  dsimp only
  rw [hc]
  split
  · have hsq := modSquad_squad q q.other (fun v => v.toRound (v.round + 1)) s
    exact ⟨hsq.trans (if_neg (Side.other_ne q)), modLane_lane_other _ _ _⟩
  · have hsq : (convertSquad q s).squad q = { s.squad q with order := (s.squad q).order.map convertWaiting } :=
      modSquad_squad_same _ _ _
    obtain ⟨h1, h2⟩ := afterGame_other (s := convertSquad q s) (q := q) (by rw [hsq]; exact hc)
    exact ⟨h1.trans ((modSquad_squad q q.other _ s).trans (if_neg (Side.other_ne q))), h2⟩
  · exact ⟨rfl, rfl⟩

theorem splitSquad_pairMode (q : SquadId) (s : State) : (splitSquad q s).pairMode = s.pairMode := by
  unfold splitSquad
  dsimp only
  split
  · rfl
  · exact afterGame_pairMode _ _ _
  · rfl

/-- The squads renamed by where they stand (R102): each is sound there. -/
theorem standing_renamed (h : GamesOk s) (hm : s.pairMode = .cross) (q : SquadId) :
    Standing .cross q ((renameSquads { s with pairMode := .single }).squad q) ((renameSquads { s with pairMode := .single }).lane q) ∧
      ((renameSquads { s with pairMode := .single }).squad q).current = q := by
  by_cases ha : (s.squad .a).current = .a
  · rw [renameSquads_of_home (s := { s with pairMode := .single }) ha]
    have hc : (s.squad q).current = q := by
      cases q
      · exact ha
      · have hb := ((squadsPlaced_iff s).mp h.placed .a).2.2
        rw [ha] at hb
        exact hb
    have hq := h.side q
    unfold State.laneOf at hq
    rw [hc, hm] at hq
    exact ⟨hq, hc⟩
  · have hc : (s.squad q.other).current = q := by
      have hab : (s.squad .a).current = .b := Side.eq_other_of_ne ha
      cases q
      · have hb := ((squadsPlaced_iff s).mp h.placed .a).2.2
        rw [hab] at hb
        exact hb
      · exact hab
    have hq := h.side q.other
    unfold State.laneOf at hq
    rw [hc, hm] at hq
    rw [renameSquads_squad (s := { s with pairMode := .single }) ha, renameSquads_lane (s := { s with pairMode := .single }) ha]
    refine ⟨?_, rfl⟩
    exact {
      ok := ⟨hq.ok.first, hq.ok.last, hq.ok.waits, hq.ok.ends, hq.ok.sheets, hq.ok.idle, hq.ok.current, hq.ok.game, hq.ok.others⟩
      mark := fun hcl k hk => by
        obtain ⟨x, hx, rfl⟩ := Option.map_eq_some_iff.mp hk
        obtain ⟨hxq, hxm⟩ := hq.mark hcl x hx
        exact ⟨by rw [hxq, Side.other_other], hxm.bowling, hxm.frame, hxm.open_, hxm.strike, hxm.waits⟩
      deck := hq.deck
      plays := hq.plays
      closes := hq.closes
      single := nofun
      home := fun _ => rfl }

/-- The state in which a forced split takes its squads one by one (R102). -/
def readyToSplit (s : State) : State := dropSwapHolds (renameSquads { s with pairMode := .single })

theorem splitRecords_eq (s : State) : splitRecords s = splitSquad .b (splitSquad .a (readyToSplit s)) := rfl

theorem quiet_readyToSplit (s : State) : Quiet (renameSquads { s with pairMode := .single }) (readyToSplit s) :=
  (quiet_dropHold .b .swap _).trans (quiet_dropHold .a .swap _)

theorem splitRecords_pairMode (s : State) : (splitRecords s).pairMode = .single := by
  rw [splitRecords_eq, splitSquad_pairMode, splitSquad_pairMode, (quiet_readyToSplit s).mode]
  unfold renameSquads
  split <;> rfl

/-- The records of a forced split (R102): each squad bowls on, or starts again, or is without a game, at home. -/
theorem gamesOk_splitRecords (h : GamesOk s) (hm : s.pairMode = .cross) : GamesOk (splitRecords s) := by
  have hq := quiet_readyToSplit s
  have h0 : ∀ q, Standing .cross q ((readyToSplit s).squad q) ((readyToSplit s).lane q) := fun q =>
    (standing_renamed h hm q).1.of_quiet (hq.lanes q) (hq.squads q)
  have hc : ∀ q, ((readyToSplit s).squad q).current = q := fun q =>
    (hq.squads q).current.trans (standing_renamed h hm q).2
  obtain ⟨hsb, hlb⟩ := splitSquad_other (hc .a)
  have hcb : ((splitSquad .a (readyToSplit s)).squad .b).current = .b := (congrArg Squad.current hsb).trans (hc .b)
  have hb : Standing .cross .b ((splitSquad .a (readyToSplit s)).squad .b) ((splitSquad .a (readyToSplit s)).lane .b) := by
    have hx := h0 .b
    rwa [← show _ = (readyToSplit s).squad .b from hsb, ← show _ = (readyToSplit s).lane .b from hlb] at hx
  obtain ⟨hsa, hla⟩ := splitSquad_other hcb
  refine .of_single (q := .b) ((keepsRecords_splitRecords s).placed h.placed) (splitRecords_pairMode s)
    (standing_splitSquad hcb hb) ?_
  rw [splitRecords_eq, hsa, hla]
  exact standing_splitSquad (hc .a) (h0 .a)

/-! ### Starts of the core -/

/-- A lane and a squad at their cold-start values (R22, R23). -/
theorem standing_cold (m : PairMode) (q : SquadId) (r : LaneRec) : Standing m q (.reset q) (coldLane q r) :=
  .of_forming (.of_forming ⟨le_rfl, show 1 ≤ 10 by decide, nofun⟩ rfl rfl) rfl rfl rfl
    fun _ => ⟨rfl, not_closes_of_none rfl⟩

theorem gamesOk_coldPair (h : GamesOk s) : GamesOk (coldPair s) :=
  .of_home ((keepsRecords_coldPair s).placed h.placed) (fun q => by cases q <;> rfl)
    (fun q => by cases q <;> exact standing_cold _ _ _) nofun

theorem gamesOk_coldRecords (h : GamesOk s) : GamesOk (coldRecords s) := (gamesOk_coldPair h).of_board ⟨rfl, rfl, rfl⟩

/-- The Next Deck derived from the scoring records (R76) is what the next ball faces. -/
theorem derivedDeck_eq_facing {v : Squad} (h : SquadOk v) : derivedDeck v = v.facing := by
  unfold derivedDeck
  cases hc : v.currentBowler with
  | none => exact (Squad.facing_of_none hc).symm
  | some b =>
    obtain ⟨n, hn, hb⟩ := Squad.currentBowler_eq_some.mp hc
    obtain ⟨c, hcb, hbw⟩ := h.current n hn
    cases hcb.symm.trans hb
    dsimp only
    rw [Squad.facing_of_current hc]
    split
    next h1 =>
      have hnil : (frameAt b.sheet v.round).balls = [] := List.length_eq_zero_iff.mp (by have := hbw.ball; omega)
      rw [hnil, nextLeave_nil]
    next => rfl

/-- A start closes the squad of a lane that parks (R23, R158). -/
theorem startOn_squad_placed (hp : Safety.SquadsPlaced s) (k : StartKind) (q : SquadId) :
    (startOn k s).squad q = if (s.laneOf q).parksAtStart then (s.squad q).closed else s.squad q := by
  have hiff : (((s.lane .a).parksAtStart ∧ (s.lane .a).squad = q) ∨ ((s.lane .b).parksAtStart ∧ (s.lane .b).squad = q)) ↔
      (s.laneOf q).parksAtStart := by
    constructor
    · rintro (⟨h, rfl⟩ | ⟨h, rfl⟩) <;> rwa [laneOf_squad hp]
    · intro h
      have hq := squad_laneOf hp q
      unfold State.laneOf at h hq
      cases hc : (s.squad q).current <;> rw [hc] at h hq
      · exact .inl ⟨h, hq⟩
      · exact .inr ⟨h, hq⟩
  rw [startOn_squad]
  exact if_congr hiff rfl rfl

theorem startOn_pairMode (k : StartKind) (s : State) : (startOn k s).pairMode = s.pairMode := by
  rw [startOn_eq]
  simp only [restartCycle_frame]
  rfl

/-- A start of the core (R169): decks are derived anew, marks and cycles are gone, and a CLOSING lane may park. -/
theorem gamesOk_startOn (h : GamesOk s) (k : StartKind) : GamesOk (startOn k s) := by
  have hcur : ∀ q, ((startOn k s).squad q).current = (s.squad q).current := fun q => by
    rw [startOn_squad_placed h.placed]; split <;> rfl
  have hforming : ∀ q, (s.laneOf q).parksAtStart → (s.squad q).state = .forming := fun q hpk =>
    (h.side q).forming (by rw [hpk.1]; rfl)
  have hgame : ∀ q, ((startOn k s).squad q).inGame = (s.squad q).inGame := fun q => by
    rw [startOn_squad_placed h.placed]
    split
    next hpk => rw [not_inGame_of_forming (hforming q hpk)]; rfl
    next => rfl
  refine ⟨(keepsRecords_startOn k s).placed h.placed, fun q => ?_, fun hm q => ?_⟩
  · have hst := h.side q
    have hon : s.squadOn (s.squad q).current = s.squad q := congrArg s.squad (squad_laneOf h.placed q)
    rw [startOn_pairMode, State.laneOf, hcur, startOn_lane, startOn_squad_placed h.placed, hon]
    have hlane : s.lane (s.squad q).current = s.laneOf q := rfl
    rw [hlane]
    split
    next hpk =>
      exact .of_forming (squadOk_closed _) rfl (hst.home (hforming q hpk)) rfl fun _ => ⟨rfl, not_closes_of_none rfl⟩
    next =>
      exact {
        ok := hst.ok
        mark := nofun
        deck := fun _ => derivedDeck_eq_facing hst.ok
        plays := hst.plays
        closes := fun hx => absurd hx (not_closes_of_none rfl)
        single := hst.single
        home := hst.home }
  · rw [startOn_pairMode] at hm
    have hl := h.level hm q
    have hsame : ∀ p, (s.squad p).inGame = true → (startOn k s).squad p = s.squad p := fun p hg => by
      rw [startOn_squad_placed h.placed, if_neg fun hpk => (inGame_iff _).mp hg (hforming p hpk)]
    refine ⟨by rw [hgame, hgame]; exact hl.inGame, fun hg => ?_, fun hg => ?_⟩ <;> rw [hgame] at hg <;>
      rw [hsame q hg, hsame q.other (hl.inGame ▸ hg)]
    · exact hl.round hg
    · exact hl.bowling hg

end

end Sys2Proof.Machine

namespace Sys2Proof.Machine

/-! ### Rosters rewritten

A roster request renumbers the bowlers that stay in play, puts one aside, or adds one. -/

/-- A bowler who takes no part in the squad's game, if one is in progress. -/
structure Aside (v : Squad) (c : Bowler) : Prop where
  sheet : SheetOk c.sheet c.pending
  inactive : v.inGame = true → c.status ≠ .active
  inRound : v.inGame = true → InRound v.round (Safety.roundsDone v) c

/-- The squad `w` is `v` with its bowlers at the slots that `ρ` gives, but for those at the slots `gone`; every further
bowler of `w` stands aside. -/
structure Regrouped (v w : Squad) (ρ : Nat → Nat) (gone : Nat → Prop) : Prop where
  home : w.home = v.home
  current : w.current = v.current
  state : w.state = v.state
  round : w.round = v.round
  ball : w.ball = v.ball
  slot : w.slot = v.slot.map ρ
  kept : ∀ n b, bowlerAt v.order n = some b → ¬gone n → ∃ c, bowlerAt w.order (ρ n) = some c ∧ c.line = b.line
  each : ∀ i c, bowlerAt w.order i = some c →
    (∃ n b, bowlerAt v.order n = some b ∧ ¬gone n ∧ ρ n = i ∧ c.line = b.line) ∨ Aside v c

theorem exists_bowlerAt_of_mem {order : List Bowler} {b : Bowler} (h : b ∈ order) : ∃ i, bowlerAt order i = some b := by
  obtain ⟨i, hi⟩ := List.mem_iff_getElem?.mp h
  exact ⟨1 + i, by rw [bowlerAt_succ, hi]⟩

namespace Regrouped
variable {v w : Squad} {ρ : Nat → Nat} {gone : Nat → Prop}

theorem inGame (h : Regrouped v w ρ gone) : w.inGame = v.inGame := by simp [Squad.inGame, h.state]

theorem roundsDone (h : Regrouped v w ρ gone) : Safety.roundsDone w = Safety.roundsDone v := by
  simp [Safety.roundsDone, h.state, h.round]

theorem fit (h : Regrouped v w ρ gone) (hv : SquadOk v) : SquadFit w where
  first := h.round ▸ hv.first
  last := h.round ▸ hv.last
  sheets := fun c hc => by
    obtain ⟨i, hi⟩ := exists_bowlerAt_of_mem hc
    rcases h.each i c hi with ⟨n, b, hb, -, -, hl⟩ | ha
    · obtain ⟨-, hs, hp⟩ := line_eq hl
      rw [hs, hp]
      exact hv.sheets b (mem_of_bowlerAt hb)
    · exact ha.sheet

theorem inRound (h : Regrouped v w ρ gone) (hv : SquadOk v) (hg : v.inGame = true) :
    ∀ c ∈ w.order, InRound v.round (Safety.roundsDone v) c := by
  intro c hc
  obtain ⟨i, hi⟩ := exists_bowlerAt_of_mem hc
  rcases h.each i c hi with ⟨n, b, hb, -, -, hl⟩ | ha
  · exact (hv.game hg b (mem_of_bowlerAt hb)).of_line hl
  · exact ha.inRound hg

/-- The bowlers of `w` that are not current are between frames. -/
theorem between (h : Regrouped v w ρ gone) (hv : SquadOk v) (hs : v.state = .bowling) {i : Nat} {c : Bowler}
    (hc : bowlerAt w.order i = some c) (hi : ∀ n, ¬gone n → ρ n = i → v.slot ≠ some n) : BetweenFrames v.round c := by
  rcases h.each i c hc with ⟨n, b, hb, hn, hρ, hl⟩ | ha
  · exact (hv.others hs n b hb (hi n hn hρ)).of_line hl
  · exact fun hact => absurd hact (ha.inactive (inGame_of_bowling hs))

theorem squadOk (h : Regrouped v w ρ gone) (hv : SquadOk v) (hg : ∀ n, v.slot = some n → ¬gone n) : SquadOk w where
  first := (h.fit hv).first
  last := (h.fit hv).last
  sheets := (h.fit hv).sheets
  waits := by rw [h.state, h.round]; exact hv.waits
  ends := by rw [h.state, h.round]; exact hv.ends
  idle := fun hs => by rw [h.slot, hv.idle (h.state ▸ hs)]; rfl
  current := fun n hn => by
    obtain ⟨m, hm, rfl⟩ := Option.map_eq_some_iff.mp (h.slot ▸ hn)
    obtain ⟨b, hb, hbw⟩ := hv.current m hm
    obtain ⟨c, hc, hl⟩ := h.kept m b hb (hg m hm)
    exact ⟨c, hc, h.round ▸ h.ball ▸ hbw.of_line hl⟩
  game := fun hin c hc => by
    rw [h.round, h.roundsDone]
    exact h.inRound hv (h.inGame ▸ hin) c hc
  others := fun hs i c hc hn => by
    rw [h.round]
    refine h.between hv (h.state ▸ hs) hc fun n _ hρ hx => hn ?_
    rw [h.slot, hx, ← hρ]; rfl

/-- With the current bowler gone the next one is to be chosen (R20). -/
theorem rotates (h : Regrouped v w ρ gone) (hv : SquadOk v) (hs : v.state = .bowling) (hg : ∀ n, v.slot = some n → gone n) :
    Rotates w where
  toSquadFit := h.fit hv
  bowling := h.state.trans hs
  between := fun c hc => by
    obtain ⟨i, hi⟩ := exists_bowlerAt_of_mem hc
    rw [h.round]
    exact h.between hv hs hi fun n hn _ hx => hn (hg n hx)
  inRound := fun c hc => by
    rw [h.round, ← roundsDone_of_bowling hs]
    exact h.inRound hv (inGame_of_bowling hs) c hc

theorem exists_current (h : Regrouped v w ρ gone) (hg : ∀ n, v.slot = some n → ¬gone n) {c : Bowler}
    (hc : w.currentBowler = some c) (hv : SquadOk v) : ∃ b, v.currentBowler = some b ∧ c.line = b.line := by
  obtain ⟨n, hn, hc⟩ := Squad.currentBowler_eq_some.mp hc
  obtain ⟨m, hm, rfl⟩ := Option.map_eq_some_iff.mp (h.slot ▸ hn)
  obtain ⟨b, hb, -⟩ := hv.current m hm
  obtain ⟨c', hc', hl⟩ := h.kept m b hb (hg m hm)
  cases hc.symm.trans hc'
  exact ⟨b, Squad.currentBowler_eq_some.mpr ⟨m, hm, hb⟩, hl⟩

theorem facing (h : Regrouped v w ρ gone) (hv : SquadOk v) (hg : ∀ n, v.slot = some n → ¬gone n) : w.facing = v.facing := by
  cases hw : w.currentBowler with
  | some c =>
    obtain ⟨b, hb, hl⟩ := h.exists_current hg hw hv
    rw [Squad.facing_of_current hw, Squad.facing_of_current hb, h.round, (line_eq hl).2.1]
  | none =>
    have hn : v.slot = none := by
      refine Option.eq_none_iff_forall_ne_some.mpr fun m hm => ?_
      obtain ⟨c, hc, -⟩ := (h.squadOk hv hg).current (ρ m) (by rw [h.slot, hm]; rfl)
      rw [Squad.currentBowler_eq_some.mpr ⟨ρ m, by rw [h.slot, hm]; rfl, hc⟩] at hw
      cases hw
    rw [Squad.facing_of_none hw, facing_of_slot_none hn]

theorem marked (h : Regrouped v w ρ gone) (hv : SquadOk v) (hg : ∀ n, v.slot = some n → ¬gone n) {k : ReopenMark}
    (hk : MarkedStrike v k) (hn : ¬gone k.slot) : MarkedStrike w { k with slot := ρ k.slot } where
  bowling := h.state.trans hk.bowling
  frame := hk.frame.trans h.round.symm
  open_ := h.round ▸ hk.open_
  strike := by
    obtain ⟨b, hb, ha, hl, hs⟩ := hk.strike
    obtain ⟨c, hc, hline⟩ := h.kept _ b hb hn
    obtain ⟨hst, hsh, -⟩ := line_eq hline
    exact ⟨c, hc, hst.trans ha, by rw [h.round, hsh]; exact hl, by rw [h.round, hsh]; exact hs⟩
  waits := fun c hc => by
    obtain ⟨b, hb, hl⟩ := h.exists_current hg hc hv
    rw [h.round, (line_eq hl).2.1]
    exact hk.waits b hb

end Regrouped

/-! ### Roster moves over the state -/

section
variable {m : PairMode} {q : SquadId} {v w : Squad} {r : LaneRec} {s : State} {ρ : Nat → Nat} {gone : Nat → Prop}
  {f : ReopenMark → Option ReopenMark}

/-- The other squad's marks are not touched. -/
theorem Standing.bind_reopen (h : Standing m q v r) (hf : ∀ k, k.squad = q → f k = some k) :
    Standing m q v { r with reopen := r.reopen.bind f } :=
  { h with
    mark := fun hc k hk => by
      obtain ⟨x, hx, hfx⟩ := Option.bind_eq_some_iff.mp hk
      rw [hf x (h.mark hc x hx).1] at hfx
      cases hfx
      exact h.mark hc k hx }

/-- A side whose roster is rewritten about its current bowler, its mark renumbered or dropped. -/
theorem Standing.regroup (h : Standing m q v r) (hr : Regrouped v w ρ gone) (hg : ∀ n, v.slot = some n → ¬gone n)
    (hf : ∀ k x, k.squad = q → MarkedStrike v k → f k = some x → ¬gone k.slot ∧ x = { k with slot := ρ k.slot }) :
    Standing m q w { r with reopen := r.reopen.bind f } where
  ok := hr.squadOk h.ok hg
  mark := fun hc x hx => by
    obtain ⟨k, hk, hfk⟩ := Option.bind_eq_some_iff.mp hx
    obtain ⟨hq, hm⟩ := h.mark hc k hk
    obtain ⟨hn, rfl⟩ := hf k x hq hm hfk
    exact ⟨hq, hr.marked h.ok hg hm hn⟩
  deck := fun hp => (h.deck hp).trans (hr.facing h.ok hg).symm
  plays := h.plays.trans hr.inGame.symm
  closes := h.closes
  single := by rw [hr.current, hr.state]; exact h.single
  home := by rw [hr.current, hr.state]; exact h.home

theorem mapReopens_lane (f : ReopenMark → Option ReopenMark) (s : State) (l : Lane) :
    (mapReopens f s).lane l = { s.lane l with reopen := (s.lane l).reopen.bind f } := by cases l <;> rfl

theorem mapReopens_some (s : State) : mapReopens some s = s := by
  have hid : (fun r : LaneRec => { r with reopen := r.reopen.bind some }) = id := by
    funext r
    rw [Option.bind_fun_some]
    rfl
  unfold mapReopens
  rw [hid, modLane_id, modLane_id]

/-- A roster move of one squad: the other side stays sound. -/
theorem GamesOk.sided_regroup (h : GamesOk s) {g : Squad → Squad} {P : PairMode → Squad → LaneRec → Prop}
    (hr : Regrouped (s.squad q) (g (s.squad q)) ρ gone) (hf : ∀ k, k.squad ≠ q → f k = some k)
    (hP : P s.pairMode (g (s.squad q)) { s.laneOf q with reopen := (s.laneOf q).reopen.bind f }) :
    Sided P q (mapReopens f (modSquad q g s)) := by
  have hsq : ∀ p, (mapReopens f (modSquad q g s)).squad p = if p = q then g (s.squad q) else s.squad p := fun p =>
    modSquad_squad q p g s
  have hat : ∀ p, ((mapReopens f (modSquad q g s)).squad p).home = (s.squad p).home ∧
      ((mapReopens f (modSquad q g s)).squad p).current = (s.squad p).current := fun p => by
    rw [hsq]
    split
    next hp => rw [hp]; exact ⟨hr.home, hr.current⟩
    next => exact ⟨rfl, rfl⟩
  have hln : ∀ p, (mapReopens f (modSquad q g s)).laneOf p = { s.laneOf p with reopen := (s.laneOf p).reopen.bind f } :=
    fun p => by rw [State.laneOf, (hat p).2, mapReopens_lane]; rfl
  refine ⟨⟨?_, ?_, ?_⟩, fun hm => ?_⟩
  · simpa only [Safety.SquadsPlaced, fun p => (hat p).1, fun p => (hat p).2, mapReopens_lane, modSquad_lane] using h.placed
  · rw [hln, hsq, if_pos rfl]
    exact hP
  · rw [hln, hsq, if_neg (Side.other_ne q)]
    exact (h.side q.other).bind_reopen fun k hk => hf k (by rw [hk]; exact Side.other_ne q)
  · rw [hsq, hsq, if_pos rfl, if_neg (Side.other_ne q)]
    have hl := h.level hm q
    exact ⟨hr.inGame.trans hl.inGame, fun hx => hr.round.trans (hl.round (hr.inGame ▸ hx)),
      fun hx => hr.state ▸ hl.bowling (hr.inGame ▸ hx)⟩

/-- A roster move about the current bowler. -/
theorem GamesOk.regroup (h : GamesOk s) {g : Squad → Squad} (hr : Regrouped (s.squad q) (g (s.squad q)) ρ gone)
    (hg : ∀ n, (s.squad q).slot = some n → ¬gone n) (ho : ∀ k, k.squad ≠ q → f k = some k)
    (hf : ∀ k x, k.squad = q → MarkedStrike (s.squad q) k → f k = some x →
      ¬gone k.slot ∧ x = { k with slot := ρ k.slot }) : GamesOk (mapReopens f (modSquad q g s)) :=
  (h.sided_regroup (P := fun m => Standing m q) hr ho ((h.side q).regroup hr hg hf)).gamesOk

/-- A roster move that takes the current bowler, and the choice that follows (R15, R17, R20). -/
theorem GamesOk.regroup_choose (h : GamesOk s) {g : Squad → Squad} (hr : Regrouped (s.squad q) (g (s.squad q)) ρ gone)
    {n : Nat} (hs : (s.squad q).slot = some n) (hn : gone n) (ho : ∀ k, k.squad ≠ q → f k = some k) :
    GamesOk (chooseAnew q (mapReopens f (modSquad q g s))) := by
  have hst := h.side q
  have hb : (s.squad q).state = .bowling := Classical.byContradiction fun hx => by
    rw [hst.ok.idle hx] at hs; cases hs
  have hi := hst.inPlay (inGame_of_bowling hb)
  have hrot := hr.rotates hst.ok hb fun x hx => by rw [hs] at hx; cases hx; exact hn
  have hsd : Sided (fun m v r => InPlay m q v r ∧ Rotates v) q (mapReopens f (modSquad q g s)) :=
    h.sided_regroup hr ho ⟨⟨hrot.toSquadFit, hi.plays, hi.free, fun hm => hr.current.trans (hi.single hm)⟩, hrot⟩
  refine gamesOk_chooseNext (hsd.rewrite_lane (g := fun r => { r with reopen := none }) rfl rfl fun hx => ?_) rfl
  exact ⟨⟨hx.1.fit, hx.1.plays, hx.1.free, hx.1.single⟩, hx.2, nofun⟩

end

end Sys2Proof.Machine

namespace Sys2Proof.Machine

/-! ### The roster requests (R14 to R17) -/

section
variable {q : SquadId} {v : Squad} {s : State} {b c : Bowler} {n i j y : Nat}

theorem one_le_of_bowlerAt {order : List Bowler} (h : bowlerAt order n = some b) : 1 ≤ n :=
  Nat.one_le_iff_ne_zero.mpr (bowlerAt_eq_some h).1

theorem bowlerAt_of_pos (order : List Bowler) (hy : 1 ≤ y) : bowlerAt order y = order[y - 1]? := if_neg (by omega)

/-- The order with the bowler at slot `n` taken out (R15). -/
theorem bowlerAt_eraseIdx (order : List Bowler) (hn : 1 ≤ n) (hy : 1 ≤ y) :
    bowlerAt (order.eraseIdx (n - 1)) y = bowlerAt order (if y < n then y else y + 1) := by
  rw [bowlerAt_of_pos _ hy, bowlerAt_of_pos _ (by split <;> omega), List.getElem?_eraseIdx]
  by_cases h : y < n
  · rw [if_pos (by omega), if_pos h]
  · rw [if_neg (by omega), if_neg h]
    congr 1
    omega

/-- The order with a bowler put in at slot `j`. -/
theorem bowlerAt_insertIdx {order : List Bowler} (hj : 1 ≤ j) (hl : j ≤ order.length + 1) (hy : 1 ≤ y) :
    bowlerAt (order.insertIdx (j - 1) b) y =
      if y < j then bowlerAt order y else if y = j then some b else bowlerAt order (y - 1) := by
  rw [bowlerAt_of_pos _ hy, List.getElem?_insertIdx]
  by_cases h : y < j
  · rw [if_pos (by omega), if_pos h, bowlerAt_of_pos _ hy]
  · by_cases he : y = j
    · subst he
      simp; omega
    · rw [if_neg (by omega), if_neg (by omega), if_neg h, if_neg he, bowlerAt_of_pos _ (by omega)]

theorem slotAfterMove_pos (hi : 1 ≤ i) (hj : 1 ≤ j) (hy : 1 ≤ y) : 1 ≤ slotAfterMove i j y := by
  unfold slotAfterMove
  split_ifs <;> omega

/-- A move undone. -/
theorem slotAfterMove_slotAfterMove (i j y : Nat) : slotAfterMove i j (slotAfterMove j i y) = y := by
  unfold slotAfterMove
  split_ifs <;> omega

/-- The order with the bowler at slot `i` moved to slot `j` (R16). -/
theorem bowlerAt_moveInOrder {order : List Bowler} (hb : bowlerAt order i = some b) (hj : 1 ≤ j) (hl : j ≤ order.length)
    (hy : 1 ≤ y) : bowlerAt (moveInOrder order i j) y = bowlerAt order (slotAfterMove j i y) := by
  obtain ⟨-, hget⟩ := bowlerAt_eq_some hb
  have hi := one_le_of_bowlerAt hb
  have hlt := (List.getElem?_eq_some_iff.mp hget).1
  have hlen : (order.eraseIdx (i - 1)).length + 1 = order.length := by
    rw [List.length_eraseIdx, if_pos hlt]; omega
  unfold moveInOrder
  rw [hb]
  dsimp only
  rw [bowlerAt_insertIdx hj (by omega) hy]
  by_cases h : y < j
  · rw [if_pos h, bowlerAt_eraseIdx _ hi hy]
    congr 1
    unfold slotAfterMove
    split_ifs <;> omega
  · by_cases he : y = j
    · rw [if_neg h, if_pos he, ← hb]
      simp [slotAfterMove, he]
    · rw [if_neg h, if_neg he, bowlerAt_eraseIdx _ hi (by omega)]
      congr 1
      unfold slotAfterMove
      split_ifs <;> omega

/-- REMOVE_BOWLER's rewrite of the squad (R15). -/
theorem regrouped_without (hn : 1 ≤ n) : Regrouped v (v.without n) (slotAfterRemoval n) (· = n) where
  home := rfl
  current := rfl
  state := rfl
  round := rfl
  ball := rfl
  slot := rfl
  kept := fun m b hb hm => by
    have h1 := one_le_of_bowlerAt hb
    refine ⟨b, ?_, rfl⟩
    rw [Squad.without, bowlerAt_eraseIdx _ hn (by unfold slotAfterRemoval; split_ifs <;> omega), ← hb]
    congr 1
    unfold slotAfterRemoval
    split_ifs <;> omega
  each := fun i c hc => by
    rw [Squad.without, bowlerAt_eraseIdx _ hn (one_le_of_bowlerAt hc)] at hc
    refine .inl ⟨_, c, hc, by split_ifs <;> omega, ?_, rfl⟩
    unfold slotAfterRemoval
    split_ifs <;> omega

/-- MOVE_BOWLER's rewrite of the squad (R16). -/
theorem regrouped_moved (hb : bowlerAt v.order i = some b) (hj : 1 ≤ j) (hl : j ≤ v.order.length) :
    Regrouped v (v.moved i j) (slotAfterMove i j) (fun _ => False) where
  home := rfl
  current := rfl
  state := rfl
  round := rfl
  ball := rfl
  slot := rfl
  kept := fun m c hc _ => by
    have hpos := slotAfterMove_pos (one_le_of_bowlerAt hb) hj (one_le_of_bowlerAt hc)
    exact ⟨c, by rw [Squad.moved, bowlerAt_moveInOrder hb hj hl hpos, slotAfterMove_slotAfterMove, hc], rfl⟩
  each := fun x c hc => by
    rw [Squad.moved, bowlerAt_moveInOrder hb hj hl (one_le_of_bowlerAt hc)] at hc
    exact .inl ⟨_, c, hc, id, slotAfterMove_slotAfterMove _ _ _, rfl⟩

/-- ADD_BOWLER's rewrite of the squad (R14). -/
theorem regrouped_append (hc : Aside v c) : Regrouped v { v with order := v.order ++ [c] } id (fun _ => False) where
  home := rfl
  current := rfl
  state := rfl
  round := rfl
  ball := rfl
  slot := (Option.map_id ..).symm ▸ rfl
  kept := fun m b hb _ => by
    obtain ⟨-, hget⟩ := bowlerAt_eq_some hb
    refine ⟨b, ?_, rfl⟩
    rw [id, bowlerAt_of_pos _ (one_le_of_bowlerAt hb), List.getElem?_append_left (List.getElem?_eq_some_iff.mp hget).1, hget]
  each := fun x d hd => by
    have h1 := one_le_of_bowlerAt hd
    rw [bowlerAt_of_pos _ h1, List.getElem?_append] at hd
    split at hd
    · exact .inl ⟨x, d, by rw [bowlerAt_of_pos _ h1, hd], id, rfl, rfl⟩
    · refine .inr ?_
      rw [List.getElem?_singleton] at hd
      split at hd
      · cases hd; exact hc
      · cases hd

/-- The bowler at a slot put aside (R17). -/
theorem regrouped_setBowler (hb : bowlerAt v.order n = some b) (hc : Aside v c) :
    Regrouped v { v with order := setBowler v.order n c } id (· = n) where
  home := rfl
  current := rfl
  state := rfl
  round := rfl
  ball := rfl
  slot := (Option.map_id ..).symm ▸ rfl
  kept := fun m d hd hm => ⟨d, by rw [id, bowlerAt_setBowler hb, if_neg hm, hd], rfl⟩
  each := fun x d hd => by
    rw [bowlerAt_setBowler hb] at hd
    split at hd
    · cases hd; exact .inr hc
    next hx => exact .inl ⟨x, d, hd, hx, rfl, rfl⟩

/-- A bowler who is not ACTIVE while the squad is in a game, and has bowled nothing behind the frame round. -/
theorem Aside.of_inactive (hs : SheetOk c.sheet c.pending) (ha : v.inGame = true → c.status ≠ .active)
    (hn : v.inGame = true → ∀ k, v.round < k → k ≤ 10 → (frameAt c.sheet k).balls = []) : Aside v c :=
  ⟨hs, ha, fun hg => ⟨hn hg, fun hact => absurd hact (ha hg)⟩⟩

theorem emptySheet_balls (k : Nat) : (frameAt emptySheet k).balls = [] := by rw [frameAt_emptySheet]; rfl

theorem aside_newBowler (v : Squad) (name : List Byte) (handicap blind : Option Nat) :
    Aside v (newBowler name handicap blind (!v.inGame)) :=
  .of_inactive sheetOk_empty (fun hg => by simp [newBowler, hg]) fun _ k _ _ => emptySheet_balls k

theorem aside_absentWith (hv : SquadOk v) (hb : b ∈ v.order) (blind : Nat) : Aside v (absentWith blind b) :=
  .of_inactive (hv.sheets b hb) (fun _ => by unfold absentWith; dsimp only; split <;> simp [*])
    fun hg => (hv.game hg b hb).after

theorem aside_presentAgain (hv : SquadOk v) (hb : b ∈ v.order) (ha : b.status = .absent) :
    Aside v (presentAgain v.inGame b) := by
  unfold presentAgain
  rw [if_pos ha]
  cases hg : v.inGame with
  | true => exact .of_inactive sheetOk_empty (fun _ => nofun) fun _ k _ _ => emptySheet_balls k
  | false => exact .of_inactive (hv.sheets b hb) (fun hx => by rw [hg] at hx; cases hx) fun hx => by rw [hg] at hx; cases hx

/-- ADD_BOWLER (R14). -/
theorem gamesOk_adds (h : GamesOk s) (name : List Byte) (handicap blind : Option Nat) :
    GamesOk (modSquad q (fun v => { v with order := v.order ++ [newBowler name handicap blind (!v.inGame)] }) s) := by
  have hg := h.regroup (q := q) (f := some) (g := fun v => { v with order := v.order ++ [newBowler name handicap blind (!v.inGame)] })
    (regrouped_append (aside_newBowler _ _ _ _)) (fun _ _ => id) (fun _ _ => rfl)
    (fun k x _ _ hx => by cases hx; exact ⟨id, rfl⟩)
  rwa [mapReopens_some] at hg

/-- A mark of the squad is dropped with its bowler and otherwise follows that bowler (R86). -/
theorem unmark_spec {k x : ReopenMark} {ρ : Nat → Nat} (hk : k.squad = q)
    (hx : (if k.squad = q then (if k.slot = n then none else some { k with slot := ρ k.slot }) else some k) = some x) :
    ¬k.slot = n ∧ x = { k with slot := ρ k.slot } := by
  rw [if_pos hk] at hx
  split at hx
  · cases hx
  next hn => cases hx; exact ⟨hn, rfl⟩

/-- REMOVE_BOWLER of a bowler who is not current (R15). -/
theorem gamesOk_removes (h : GamesOk s) (hb : bowlerAt (s.squad q).order n = some b) (hs : (s.squad q).slot ≠ some n) :
    GamesOk (withoutBowler q n s) :=
  h.regroup (regrouped_without (one_le_of_bowlerAt hb)) (fun _ hm hx => hs (hx ▸ hm)) (fun _ hk => if_neg hk)
    fun _ _ hk _ hx => unmark_spec hk hx

/-- REMOVE_BOWLER of the current bowler (R15). -/
theorem gamesOk_removesCurrent (h : GamesOk s) (hb : bowlerAt (s.squad q).order n = some b)
    (hs : (s.squad q).slot = some n) : GamesOk (chooseAnew q (withoutBowler q n s)) :=
  h.regroup_choose (regrouped_without (one_le_of_bowlerAt hb)) hs rfl fun _ hk => if_neg hk

/-- MOVE_BOWLER (R16). -/
theorem gamesOk_moves (h : GamesOk s) (hb : bowlerAt (s.squad q).order i = some b) (hj : 1 ≤ j)
    (hl : j ≤ (s.squad q).order.length) :
    GamesOk (mapReopens (fun m => some (if m.squad = q then { m with slot := slotAfterMove i j m.slot } else m))
      (modSquad q (fun v => v.moved i j) s)) :=
  h.regroup (regrouped_moved hb hj hl) (fun _ _ => id) (fun _ hk => by rw [if_neg hk])
    fun k x hk _ hx => by rw [if_pos hk] at hx; cases hx; exact ⟨id, rfl⟩

theorem modBowler_of_some (hb : bowlerAt (s.squad q).order n = some b) (f : Bowler → Bowler) :
    modBowler q n f s = modSquad q (fun v => { v with order := setBowler v.order n (f b) }) s := by
  rw [modBowler, modSquad_eq, modSquad_eq, hb]

/-- MARK_ABSENT of a bowler who is not current (R17). -/
theorem gamesOk_absents (h : GamesOk s) (hb : bowlerAt (s.squad q).order n = some b) (hs : (s.squad q).slot ≠ some n)
    (blind : Nat) : GamesOk (withAbsent q n blind s) := by
  unfold withAbsent
  rw [modBowler_of_some hb]
  exact h.regroup (regrouped_setBowler hb (aside_absentWith (h.side q).ok (mem_of_bowlerAt hb) blind))
    (fun _ hm hx => hs (hx ▸ hm)) (fun _ hk => if_neg hk) fun _ _ hk _ hx => unmark_spec hk hx

/-- MARK_ABSENT of the current bowler (R17). -/
theorem gamesOk_absentsCurrent (h : GamesOk s) (hb : bowlerAt (s.squad q).order n = some b)
    (hs : (s.squad q).slot = some n) (blind : Nat) : GamesOk (chooseAnew q (withAbsent q n blind s)) := by
  unfold withAbsent
  rw [modBowler_of_some hb]
  exact h.regroup_choose (regrouped_setBowler hb (aside_absentWith (h.side q).ok (mem_of_bowlerAt hb) blind)) hs rfl
    fun _ hk => if_neg hk

/-- MARK_PRESENT (R17): an ABSENT bowler is neither current nor marked, and of another the blind score alone goes. -/
theorem gamesOk_presents (h : GamesOk s) (hb : bowlerAt (s.squad q).order n = some b) :
    GamesOk (modBowler q n (presentAgain (s.squad q).inGame) s) := by
  rw [modBowler_of_some hb]
  have hok := (h.side q).ok
  by_cases ha : b.status = .absent
  · have hne : ∀ m c, bowlerAt (s.squad q).order m = some c → c.status = .active → ¬m = n := fun m c hc hact hm => by
      subst hm
      cases hb.symm.trans hc
      rw [ha] at hact
      cases hact
    have hg := h.regroup (f := some) (regrouped_setBowler hb (aside_presentAgain hok (mem_of_bowlerAt hb) ha))
      (fun m hm => by
        obtain ⟨c, hc, hbw⟩ := hok.current m hm
        exact hne m c hc hbw.active)
      (fun _ _ => rfl)
      (fun k x _ hmark hx => by
        cases hx
        obtain ⟨c, hc, hact, -⟩ := hmark.strike
        exact ⟨hne _ c hc hact, rfl⟩)
      (g := fun v => { v with order := setBowler v.order n (presentAgain (s.squad q).inGame b) })
    rwa [mapReopens_some] at hg
  · refine h.of_quiet (quiet_modSquad ⟨rfl, rfl, rfl, rfl, rfl, rfl, lines_setBowler hb ?_⟩)
    unfold presentAgain
    rw [if_neg ha]
    rfl

end

end Sys2Proof.Machine

namespace Sys2Proof.Machine

/-! ### One frame of one bowler scored again -/

/-- The bowler `c` is `b` with the balls of frame `k` now `new`, but for split marks; the sheet is scored. -/
structure Rescored (k : Nat) (new : List BallEntry) (b c : Bowler) : Prop where
  status : c.status = b.status
  ok : SheetOk c.sheet c.pending
  here : AlikeBalls (frameAt c.sheet k).balls new
  other : ∀ i, 1 ≤ i → i ≤ 10 → i ≠ k → AlikeBalls (frameAt c.sheet i).balls (frameAt b.sheet i).balls

theorem bowlerAt_rescored {order : List Bowler} {n : Nat} {b c : Bowler} (hb : bowlerAt order n = some b) :
    bowlerAt (setBowler order n c) n = some c := by rw [bowlerAt_setBowler hb, if_pos rfl]

namespace Rescored
variable {m : PairMode} {q : SquadId} {v : Squad} {r : LaneRec} {k n d i : Nat} {new : List BallEntry} {b c : Bowler}

theorem complete (h : Rescored k new b c) : frameComplete c.sheet k = ballsComplete k new := h.here.ballsComplete k

theorem complete_of_ne (h : Rescored k new b c) (h1 : 1 ≤ i) (h10 : i ≤ 10) (hi : i ≠ k) :
    frameComplete c.sheet i = frameComplete b.sheet i := (h.other i h1 h10 hi).ballsComplete i

theorem inRound (h : Rescored k new b c) {r : Nat} (hb : InRound r d b) (hk : k ≤ r) (hd : d ≤ 10)
    (hc : k ≤ d → b.status = .active → ballsComplete k new = true) : InRound r d c where
  after := fun j hj h10 => (h.other j (by omega) h10 (by omega)).nil_iff.mpr (hb.after j hj h10)
  done := fun ha j h1 hj => by
    by_cases hjk : j = k
    · subst hjk
      rw [h.complete]
      exact hc hj (h.status ▸ ha)
    · rw [h.complete_of_ne h1 (by omega) hjk]
      exact hb.done (h.status ▸ ha) j h1 hj

/-- The squad with the bowler rewritten, in its sheets. -/
theorem fit (h : Rescored k new b c) (hv : SquadOk v) : SquadFit { v with order := setBowler v.order n c } :=
  ⟨hv.first, hv.last, fun x hx => (mem_setBowler hx).elim (hv.sheets x) fun he => he ▸ h.ok⟩

/-- Every bowler of a squad within the round, the one rewritten too. -/
theorem all_inRound (h : Rescored k new b c) (hv : SquadOk v) (hb : bowlerAt v.order n = some b) (hg : v.inGame = true)
    (hk : k ≤ v.round) (hc : k ≤ Safety.roundsDone v → b.status = .active → ballsComplete k new = true) :
    ∀ x ∈ setBowler v.order n c, InRound v.round (Safety.roundsDone v) x := fun x hx =>
  (mem_setBowler hx).elim (hv.game hg x) fun he =>
    he ▸ h.inRound (hv.game hg b (mem_of_bowlerAt hb)) hk ((hv.roundsDone_bounds hg).2.trans hv.last) hc

/-- The current bowler's frame is complete: the next bowler is to be chosen (R28, R88). -/
theorem rotates (h : Rescored v.round new b c) (hv : SquadOk v) (hs : v.slot = some n) (hb : bowlerAt v.order n = some b)
    (hc : ballsComplete v.round new = true) : Rotates { v with order := setBowler v.order n c } := by
  have hbow : v.state = .bowling := Classical.byContradiction fun hx => by rw [hv.idle hx] at hs; cases hs
  have hrd := roundsDone_of_bowling hbow
  have hl := hv.last
  refine ⟨h.fit hv, hbow, fun x hx => ?_, ?_⟩
  · obtain ⟨i, hi⟩ := exists_bowlerAt_of_mem hx
    rw [bowlerAt_setBowler hb] at hi
    split at hi
    · cases hi
      exact fun _ => .inr (h.complete.trans hc)
    next hne => exact hv.others hbow i x hi fun he => hne (Option.some.inj (he.symm.trans hs))
  · have := h.all_inRound hv hb (inGame_of_bowling hbow) le_rfl (by have := hv.first; omega)
    rwa [hrd] at this

/-- The current bowler's frame is not complete: the same bowler bowls on (R28, R87). -/
theorem squadOk (h : Rescored v.round new b c) (hv : SquadOk v) (hs : v.slot = some n) (hb : bowlerAt v.order n = some b)
    (hc : ballsComplete v.round new = false) {x : Nat} (hx : x = new.length + 1) :
    SquadOk { v with order := setBowler v.order n c, ball := x } := by
  have hbow : v.state = .bowling := Classical.byContradiction fun hx => by rw [hv.idle hx] at hs; cases hs
  have hrd := roundsDone_of_bowling hbow
  have hl := hv.last
  obtain ⟨b', hb', hbw⟩ := hv.current n hs
  cases hb.symm.trans hb'
  have hfit := h.fit (n := n) hv
  refine ⟨hfit.first, hfit.last, hv.waits, hv.ends, hfit.sheets, fun hx => absurd hbow hx, fun i hi => ?_, fun _ => ?_,
    fun _ i y hy hne => ?_⟩
  · cases hs.symm.trans hi
    refine ⟨c, bowlerAt_rescored hb, h.status.trans hbw.active, h.complete.trans hc, ?_⟩
    rw [hx, h.here.length]
  · exact h.all_inRound hv hb (inGame_of_bowling hbow) le_rfl (by have := hv.first; omega)
  · rw [bowlerAt_setBowler hb] at hy
    split at hy
    next he => exact absurd (he ▸ hs) hne
    · exact hv.others hbow i y hy hne

theorem facing (h : Rescored v.round new b c) (hs : v.slot = some n) (hc : bowlerAt v.order n = some c) :
    v.facing = nextLeave v.round new := by
  rw [Squad.facing_of_current (Squad.currentBowler_eq_some.mpr ⟨n, hs, hc⟩)]
  exact h.here.nextLeave _

/-- A frame that stands as it can be bowled and begins with a strike holds one ball. -/
theorem length_of_strike (h : Rescored k new b c) (h1 : 1 ≤ k) (h9 : k ≤ 9) (hs : firstIsStrike new = true) :
    (frameAt c.sheet k).balls.length = 1 ∧ firstIsStrike (frameAt c.sheet k).balls = true := by
  have hst : firstIsStrike (frameAt c.sheet k).balls = true := h.here.firstIsStrike.trans hs
  have hbt := (bowledInTurn_open h9 _).mp (h.ok.frame k h1 (by omega)).balls
  refine ⟨?_, hst⟩
  have hne : (frameAt c.sheet k).balls ≠ [] := fun hn => by rw [hn] at hst; cases hst
  have hpos := List.length_pos_iff.mpr hne
  have h2 : (frameAt c.sheet k).balls.length ≠ 2 := fun hx => by rw [hbt.2 hx] at hst; cases hst
  omega

/-- The side whose current bowler has completed the frame, with the mark that R86 asks for. -/
theorem choosing (h : Rescored v.round new b c) (hst : Standing m q v r) (hs : v.slot = some n)
    (hb : bowlerAt v.order n = some b) (hc : ballsComplete v.round new = true) :
    Choosing m q { v with order := setBowler v.order n c }
      { r with reopen := markAfterStrike q n v.round (firstIsStrike new)
                 (firstLacking v.round (setBowler v.order n c)).isSome } := by
  have hrot := h.rotates hst.ok hs hb hc
  have hbow : v.state = .bowling := hrot.bowling
  have hi := hst.inPlay (inGame_of_bowling hbow)
  obtain ⟨b', hb', hbw⟩ := hst.ok.current n hs
  cases hb.symm.trans hb'
  refine ⟨⟨hrot.toSquadFit, hi.plays, hi.free, hi.single⟩, hrot, fun k hk => ?_⟩
  unfold markAfterStrike at hk
  split at hk
  next hx =>
    cases hk
    obtain ⟨hlen, hstr⟩ := h.length_of_strike hst.ok.first hx.1 hx.2.1
    exact ⟨rfl, hx.2.2, hbow, rfl, hx.1,
      ⟨c, bowlerAt_rescored hb, h.status.trans hbw.active, hlen, hstr⟩, nofun⟩
  next => cases hk

end Rescored

end Sys2Proof.Machine

namespace Sys2Proof.Machine

/-! ### A ball recorded (R28) -/

section
variable {m : PairMode} {q : SquadId} {v : Squad} {r : LaneRec} {l : Lane} {n : Nat} {b : Bowler} {s : State}

/-- The bowler with one more ball of the frame round. -/
theorem rescored_ball (hv : SquadOk v) (hs : v.slot = some n) (hb : bowlerAt v.order n = some b) (e : BallEntry) :
    Rescored v.round ((frameAt b.sheet v.round).balls ++ [e]) b (bowlerWithBall v.round e b) ∧
      (frameAt (bowlerWithBall v.round e b).sheet v.round).balls = (frameAt b.sheet v.round).balls ++ [e] := by
  have hbow : v.state = .bowling := Classical.byContradiction fun hx => by rw [hv.idle hx] at hs; cases hs
  obtain ⟨b', hb', hbw⟩ := hv.current n hs
  cases hb.symm.trans hb'
  have hmem := mem_of_bowlerAt hb
  have hok := hv.sheets b hmem
  have hlt := hok.pending_lt hbw.lacks (hv.game (inGame_of_bowling hbow) b hmem).after
  have hballs := fun i (hi : 1 ≤ i) => scoreBall_balls (e := e) hok hv.first hv.last hlt hi
  have hhere : (frameAt (bowlerWithBall v.round e b).sheet v.round).balls = (frameAt b.sheet v.round).balls ++ [e] := by
    rw [bowlerWithBall, hballs v.round hv.first, if_pos rfl]
  refine ⟨⟨rfl, sheetOk_scoreBall (e := e) hok hv.first hv.last hbw.lacks hlt, by rw [hhere]; rfl, fun i h1 _ hi => ?_⟩, hhere⟩
  rw [bowlerWithBall, hballs i h1, if_neg hi]
  rfl

theorem LaneQuiet.remark {t : LaneRec} (h : LaneQuiet r t) (x : Option ReopenMark) :
    LaneQuiet { r with reopen := x } { t with reopen := x } :=
  ⟨h.state, h.squad, .inl rfl, h.deck, h.closes, h.unheld⟩

/-- A lane whose next ball faces `x`, without a mark. -/
def LaneRec.facedWith (x : Leave) (r : LaneRec) : LaneRec :=
  { r with reopen := none, sup := { r.sup with nextDeck := x } }

theorem LaneQuiet.facedWith {t : LaneRec} (h : LaneQuiet r t) (x : Leave) : LaneQuiet (r.facedWith x) (t.facedWith x) :=
  ⟨h.state, h.squad, .inl rfl, rfl, h.closes, h.unheld⟩

/-- The side whose current bowler bowls on in the frame (R28, R87). -/
theorem Rescored.standing {new : List BallEntry} {c : Bowler} (h : Rescored v.round new b c) (hst : Standing m q v r)
    (hs : v.slot = some n) (hb : bowlerAt v.order n = some b) (hc : ballsComplete v.round new = false) {x : Nat}
    (hx : x = new.length + 1) :
    Standing m q { v with order := setBowler v.order n c, ball := x } (r.facedWith (nextLeave v.round new)) where
  ok := h.squadOk hst.ok hs hb hc hx
  mark := fun _ k hk => by cases hk
  deck := fun _ =>
    (facing (v := { v with order := setBowler v.order n c, ball := x }) h hs (bowlerAt_rescored hb)).symm
  plays := hst.plays
  closes := hst.closes
  single := hst.single
  home := hst.home

theorem writeNextDeck_modSquad_setReopen (l : Lane) (x : Leave) (f : Squad → Squad) (s : State) :
    writeNextDeck l x (modSquad q f (setReopen l none s)) = modSquad q f (modLane l (LaneRec.facedWith x) s) := by
  simp [writeNextDeck, setReopen, modSup_eq, modLane_eq, modSquad_eq, LaneRec.facedWith, State.sup]

/-- The bowler at a slot rewritten. -/
def withBowler (q : SquadId) (n : Nat) (c : Bowler) (s : State) : State :=
  modSquad q (fun v => { v with order := setBowler v.order n c }) s

theorem withBowler_squad (q : SquadId) (n : Nat) (c : Bowler) (s : State) :
    (withBowler q n c s).squad q = { s.squad q with order := setBowler (s.squad q).order n c } := modSquad_squad_same _ _ _

/-- The current bowler's frame complete: the mark is set or dropped and the next bowler chosen (R28, R86, R88). -/
theorem gamesOk_frameDone (h : GamesOk s) {new : List BallEntry} {c : Bowler}
    (hr : Rescored (s.squad q).round new b c) (hs : (s.squad q).slot = some n) (hb : bowlerAt (s.squad q).order n = some b)
    (hc : ballsComplete (s.squad q).round new = true) {t : State}
    (ht : Quiet (withBowler q n c s) t) :
    GamesOk (chooseNext q (s.squad q).current (setReopen (s.squad q).current (markAfterStrike q n (s.squad q).round
      (firstIsStrike new) (firstLacking (s.squad q).round (t.squad q).order).isSome) t)) := by
  have hsq := withBowler_squad q n c s
  have hlines := (ht.squads q).lines
  rw [hsq] at hlines
  rw [firstLacking_of_lines hlines]
  let x := markAfterStrike q n (s.squad q).round (firstIsStrike new)
    (firstLacking (s.squad q).round (setBowler (s.squad q).order n c)).isSome
  let P : PairMode → Squad → LaneRec → Prop := fun m v r => Choosing m q v { r with reopen := x }
  have h1 : Sided P q (withBowler q n c s) :=
    (h.sided q).rewrite_squad ⟨rfl, rfl⟩ (fun hst => hr.choosing hst hs hb hc) fun _ hl => hl.of_state rfl rfl hl.bowling
  have h2 : Sided P q t := h1.of_quiet ht fun hl hv hP => Choosing.of_quiet hP (hl.remark x) hv
  have hcur : (t.squad q).current = (s.squad q).current := by rw [(ht.squads q).current, hsq]
  exact gamesOk_chooseNext (h2.rewrite_lane (Q := fun m => Choosing m q) (g := fun r => { r with reopen := x }) hcur rfl id) hcur

/-- The current bowler's frame goes on: the same bowler's next ball comes, against the leave it faces (R28). -/
theorem gamesOk_frameGoesOn (h : GamesOk s) {new : List BallEntry} {c : Bowler}
    (hr : Rescored (s.squad q).round new b c) (hs : (s.squad q).slot = some n) (hb : bowlerAt (s.squad q).order n = some b)
    (hc : ballsComplete (s.squad q).round new = false) {t : State}
    (ht : Quiet (withBowler q n c s) t) {f : Squad → Squad} {x : Nat}
    (hf : ∀ v : Squad, v.ball = (s.squad q).ball → f v = { v with ball := x }) (hx : x = new.length + 1) :
    GamesOk (modSquad q f (modLane (s.squad q).current (LaneRec.facedWith (nextLeave (s.squad q).round new)) t)) := by
  have hsq := withBowler_squad q n c s
  let P : PairMode → Squad → LaneRec → Prop := fun m v r =>
    v.ball = (s.squad q).ball ∧ Standing m q { v with ball := x } (r.facedWith (nextLeave (s.squad q).round new))
  have h1 : Sided P q (withBowler q n c s) :=
    (h.sided q).rewrite_squad ⟨rfl, rfl⟩ (fun hst => ⟨rfl, hr.standing hst hs hb hc hx⟩)
      fun _ hl => hl.of_state rfl rfl hl.bowling
  have h2 : Sided P q t := h1.of_quiet ht fun hl hv hP => ⟨hv.ball.trans hP.1,
    hP.2.of_quiet (hl.facedWith _) ⟨hv.home, hv.current, hv.state, hv.round, hv.slot, rfl, hv.lines⟩⟩
  have hcur : (t.squad q).current = (s.squad q).current := by rw [(ht.squads q).current, hsq]
  have hft := hf _ h2.this.1
  refine (h2.rewrite (Q := fun m => Standing m q) hcur (by rw [hft]; exact ⟨rfl, rfl⟩) rfl (fun hP => ?_)
    fun _ hl => ?_).gamesOk
  · rw [hft]; exact hP.2
  · rw [hft]; exact hl.of_state rfl rfl hl.bowling

/-- Recording a ball (R28). -/
theorem gamesOk_recordBall (h : GamesOk s) (l : Lane) (leave : Leave) (foul : Bool) (source : Source) :
    GamesOk (recordBall l leave foul source s).1 := by
  have hcl : (s.squad (s.lane l).squad).current = l := current_squad_of_placed h.placed l
  unfold recordBall
  dsimp only
  split
  next n b hs hb =>
    obtain ⟨n', hn', hb⟩ := Squad.currentBowler_eq_some.mp hb
    cases hs.symm.trans hn'
    have hst := h.side (s.lane l).squad
    generalize (s.lane l).squad = q at hcl hs hb hst ⊢
    generalize recordedEntry (s.squad q) (s.sup l).nextDeck leave foul source = e
    obtain ⟨hr, hhere⟩ := rescored_ball hst.ok hs hb e
    have hq := quiet_countMismatch l e (withBowler q n (bowlerWithBall (s.squad q).round e b) s)
    rw [hhere]
    split
    next hc =>
      refine GamesOk.of_quiet ?_ (quiet_raiseLane .ball l _)
      have hg := gamesOk_frameDone h hr hs hb hc hq
      rwa [hcl] at hg
    next hc =>
      refine GamesOk.of_quiet ?_ (quiet_raiseLane .ball l _)
      obtain ⟨b', hb', hbw⟩ := hst.ok.current n hs
      cases hb.symm.trans hb'
      have hg := gamesOk_frameGoesOn h hr hs hb (Bool.eq_false_iff.mpr hc) hq (f := fun v => { v with ball := v.ball + 1 })
        (x := (s.squad q).ball + 1) (fun v hv => by rw [hv]) (by rw [hbw.ball, List.length_append]; rfl)
      rw [writeNextDeck_modSquad_setReopen]
      rwa [hcl] at hg
  next => exact h

end

end Sys2Proof.Machine

namespace Sys2Proof.Machine

/-! ### A ball corrected (R85 to R89) -/

namespace Rescored
variable {m : PairMode} {q : SquadId} {v : Squad} {r : LaneRec} {k n : Nat} {new : List BallEntry} {b c : Bowler}

/-- A marked strike taken back (R89): its bowler bowls on, and the current bowler waits. -/
theorem standing_reopened (h : Rescored v.round new b c) (hst : Standing m q v r) {k : ReopenMark} (hm : MarkedStrike v k)
    (hb : bowlerAt v.order k.slot = some b) (hl : new.length = (frameAt b.sheet v.round).balls.length)
    (hs : firstIsStrike new = false) :
    Standing m q { v with order := setBowler v.order k.slot c, slot := some k.slot, ball := 2 }
      (r.facedWith (nextLeave v.round new)) := by
  have hv := hst.ok
  obtain ⟨b', hb', hact, hlen, -⟩ := hm.strike
  cases hb.symm.trans hb'
  have hinc : ballsComplete v.round new = false := by
    rw [ballsComplete, if_pos hm.open_, hs, hl, hlen]; rfl
  have hg := inGame_of_bowling hm.bowling
  have hrd := roundsDone_of_bowling hm.bowling
  have hfit := h.fit (n := k.slot) hv
  refine {
    ok := ⟨hfit.first, hfit.last, hv.waits, hv.ends, hfit.sheets, fun hx => absurd hm.bowling hx, fun i hi => ?_, fun _ => ?_,
      fun _ i y hy hne => ?_⟩
    mark := fun _ _ hx => by cases hx
    deck := fun _ => (facing (v := { v with order := setBowler v.order k.slot c, slot := some k.slot, ball := 2 }) h rfl
      (bowlerAt_rescored hb)).symm
    plays := hst.plays
    closes := hst.closes
    single := hst.single
    home := hst.home }
  · cases hi
    exact ⟨c, bowlerAt_rescored hb, h.status.trans hact, h.complete.trans hinc, by rw [h.here.length, hl, hlen]⟩
  · exact h.all_inRound hv hb hg le_rfl (by have := hv.first; omega)
  · rw [bowlerAt_setBowler hb] at hy
    split at hy
    next he => exact absurd (congrArg some he.symm) hne
    next he =>
      by_cases hcur : v.slot = some i
      · exact fun _ => .inl (hm.waits y (Squad.currentBowler_eq_some.mpr ⟨i, hcur, hy⟩))
      · exact hv.others hm.bowling i y hy hcur

/-- What a correction that does not touch rotation keeps of the frame: its number of balls, its being complete, and its
strike. -/
structure Untouched (k : Nat) (balls new : List BallEntry) : Prop where
  some_ : balls ≠ []
  length : new.length = balls.length
  complete : ballsComplete k balls = true → ballsComplete k new = true
  strike : k ≤ 9 → firstIsStrike balls = true → firstIsStrike new = true

/-- The rewritten bowler is between frames where the bowler was. -/
theorem between (h : Rescored k new b c) (hu : Untouched k (frameAt b.sheet k).balls new) {r : Nat} (h1 : 1 ≤ r)
    (h10 : r ≤ 10) (hb : BetweenFrames r b) : BetweenFrames r c := fun ha => by
  rcases hb (h.status ▸ ha) with hnil | hcomp
  · by_cases hrk : r = k
    · subst hrk; exact absurd hnil hu.some_
    · exact .inl ((h.other r h1 h10 hrk).nil_iff.mpr hnil)
  · right
    by_cases hrk : r = k
    · subst hrk; rw [h.complete]; exact hu.complete hcomp
    · rw [h.complete_of_ne h1 h10 hrk]; exact hcomp

theorem squadOk_untouched (h : Rescored k new b c) (hv : SquadOk v) (hb : bowlerAt v.order n = some b) (h1 : 1 ≤ k)
    (h10 : k ≤ 10) (hu : Untouched k (frameAt b.sheet k).balls new) (hn : v.slot = some n → v.round ≠ k) :
    SquadOk { v with order := setBowler v.order n c } := by
  have hfit := h.fit (n := n) hv
  have hmem := mem_of_bowlerAt hb
  refine ⟨hfit.first, hfit.last, hv.waits, hv.ends, hfit.sheets, hv.idle, fun i hi => ?_, fun hg => ?_, fun hs i y hy hne => ?_⟩
  · obtain ⟨y, hy, hbw⟩ := hv.current i hi
    by_cases hin : i = n
    · subst hin
      cases hb.symm.trans hy
      have ha := h.other v.round hv.first hv.last (hn hi)
      exact ⟨c, bowlerAt_rescored hb, h.status.trans hbw.active, (ha.ballsComplete _).trans hbw.lacks,
        by rw [ha.length]; exact hbw.ball⟩
    · exact ⟨y, by rw [bowlerAt_setBowler hb, if_neg hin]; exact hy, hbw⟩
  · have hk : k ≤ v.round := Nat.le_of_not_lt fun hx => hu.some_ ((hv.game hg b hmem).after k hx h10)
    exact h.all_inRound hv hb hg hk fun hkd ha => hu.complete ((hv.game hg b hmem).done ha k h1 hkd)
  · rw [bowlerAt_setBowler hb] at hy
    split at hy
    next he =>
      cases hy
      exact h.between hu hv.first hv.last (hv.others hs n b hb (he ▸ hne))
    next => exact hv.others hs i y hy hne

theorem current_untouched (h : Rescored k new b c) (hv : SquadOk v) (hb : bowlerAt v.order n = some b)
    (hn : v.slot = some n → v.round ≠ k) {x : Bowler}
    (hx : ({ v with order := setBowler v.order n c } : Squad).currentBowler = some x) :
    ∃ y, v.currentBowler = some y ∧ AlikeBalls (frameAt x.sheet v.round).balls (frameAt y.sheet v.round).balls := by
  obtain ⟨i, hi, hxi⟩ := Squad.currentBowler_eq_some.mp hx
  rw [bowlerAt_setBowler hb] at hxi
  split at hxi
  next he =>
    subst he
    cases hxi
    exact ⟨b, Squad.currentBowler_eq_some.mpr ⟨_, hi, hb⟩, h.other v.round hv.first hv.last (hn hi)⟩
  next => exact ⟨x, Squad.currentBowler_eq_some.mpr ⟨i, hi, hxi⟩, rfl⟩

theorem facing_untouched (h : Rescored k new b c) (hv : SquadOk v) (hb : bowlerAt v.order n = some b)
    (hn : v.slot = some n → v.round ≠ k) :
    ({ v with order := setBowler v.order n c } : Squad).facing = v.facing := by
  cases hw : ({ v with order := setBowler v.order n c } : Squad).currentBowler with
  | some x =>
    obtain ⟨y, hy, ha⟩ := h.current_untouched hv hb hn hw
    rw [Squad.facing_of_current hw, Squad.facing_of_current hy]
    exact ha.nextLeave _
  | none =>
    rw [Squad.facing_of_none hw, Squad.facing_of_none]
    unfold Squad.currentBowler at hw ⊢
    cases hs : v.slot with
    | none => rfl
    | some i =>
      rw [show ({ v with order := setBowler v.order n c } : Squad).slot = some i from hs] at hw
      dsimp only [Option.bind] at hw ⊢
      rw [bowlerAt_setBowler hb] at hw
      split at hw
      · cases hw
      · exact hw

theorem marked_untouched (h : Rescored k new b c) (hv : SquadOk v) (hb : bowlerAt v.order n = some b)
    (hu : Untouched k (frameAt b.sheet k).balls new) (hn : v.slot = some n → v.round ≠ k) {x : ReopenMark}
    (hx : MarkedStrike v x) : MarkedStrike { v with order := setBowler v.order n c } x where
  bowling := hx.bowling
  frame := hx.frame
  open_ := hx.open_
  strike := by
    obtain ⟨y, hy, ha, hl, hs⟩ := hx.strike
    by_cases hin : x.slot = n
    · rw [hin] at hy ⊢
      cases hb.symm.trans hy
      refine ⟨c, bowlerAt_rescored hb, h.status.trans ha, ?_⟩
      by_cases hrk : v.round = k
      · subst hrk
        exact ⟨h.here.length.trans (hu.length.trans hl), h.here.firstIsStrike.trans (hu.strike hx.open_ hs)⟩
      · have halike := h.other v.round hv.first hv.last hrk
        exact ⟨halike.length.trans hl, halike.firstIsStrike.trans hs⟩
    · exact ⟨y, by rw [bowlerAt_setBowler hb, if_neg hin]; exact hy, ha, hl, hs⟩
  waits := fun y hy => by
    obtain ⟨z, hz, ha⟩ := h.current_untouched hv hb hn hy
    exact ha.nil_iff.mpr (hx.waits z hz)

/-- A correction that does not touch rotation. -/
theorem standing_untouched (h : Rescored k new b c) (hst : Standing m q v r) (hb : bowlerAt v.order n = some b)
    (h1 : 1 ≤ k) (h10 : k ≤ 10) (hu : Untouched k (frameAt b.sheet k).balls new) (hn : v.slot = some n → v.round ≠ k) :
    Standing m q { v with order := setBowler v.order n c } r where
  ok := h.squadOk_untouched hst.ok hb h1 h10 hu hn
  mark := fun hc x hx => ⟨(hst.mark hc x hx).1, h.marked_untouched hst.ok hb hu hn (hst.mark hc x hx).2⟩
  deck := fun hp => (hst.deck hp).trans (h.facing_untouched hst.ok hb hn).symm
  plays := hst.plays
  closes := hst.closes
  single := hst.single
  home := hst.home

end Rescored

end Sys2Proof.Machine

namespace Sys2Proof.Machine

section
variable {m : PairMode} {q : SquadId} {v : Squad} {r : LaneRec} {l : Lane} {n k j : Nat} {b : Bowler} {entry : BallEntry}
  {after : Leave} {foul : Bool} {new : List BallEntry} {s : State}

theorem replaceTotals_line (forming : Bool) (b : Bowler) : (replaceTotals forming b).line = b.line := by
  unfold replaceTotals
  split <;> rfl

/-- The bowler a taken correction leaves (R85). -/
theorem Correctable.rescored (h : Correctable q n k j b entry after foul new s) (hv : SquadOk (s.squad q))
    (he : Safety.EntriesSound s) (forming : Bool) :
    Rescored k new b (replaceTotals forming (rebuiltBowler k new b)) ∧
      new.length = (frameAt b.sheet k).balls.length := by
  have hmem := mem_of_bowlerAt h.bowler
  have hok := hv.sheets b hmem
  obtain ⟨h1, h10⟩ := h.frame
  have hcount : ∀ f ∈ b.sheet, ∀ e ∈ f.balls, Counted e := fun f hf e hx => .of_sound (he q b hmem f hf e hx)
  have hin : frameAt b.sheet k ∈ b.sheet := by
    have hlt : k - 1 < b.sheet.length := by rw [hok.length]; omega
    rw [frameAt, List.getD, List.getElem?_eq_getElem hlt]
    exact List.getElem_mem hlt
  obtain ⟨hlen, hnew⟩ := correctedBalls_spec h.ball h.named (hcount _ hin) h.balls
  have hturn := shapeKept_bowledInTurn (hok.frame k h1 h10).balls hlen h.shape
  obtain ⟨hreb, halike⟩ := rebuiltBowler_ok hok hcount h1 h10 hnew hturn
  obtain ⟨hst, hsh, hpe⟩ := line_eq (replaceTotals_line forming (rebuiltBowler k new b))
  refine ⟨⟨hst, by rw [hsh, hpe]; exact hreb, ?_, fun i hi hi10 hik => ?_⟩, hlen⟩
  · have := halike k h1 h10
    rwa [if_pos rfl, ← hsh] at this
  · have := halike i hi hi10
    rwa [if_neg hik, ← hsh] at this

theorem Correctable.balls_ne_nil (h : Correctable q n k j b entry after foul new s) : (frameAt b.sheet k).balls ≠ [] := by
  intro hn
  have := h.named
  rw [hn] at this
  cases this

/-- No mark stands on the lane of a current bowler with a ball in the frame round (R86). -/
theorem Standing.unmarked_of_balls (h : Standing m q v r) (hc : r.state ≠ .closing) (hs : v.slot = some n)
    (hb : bowlerAt v.order n = some b) (hn : (frameAt b.sheet v.round).balls ≠ []) : r.reopen = none :=
  Option.eq_none_iff_forall_ne_some.mpr fun x hx =>
    hn ((h.mark hc x hx).2.waits b (Squad.currentBowler_eq_some.mpr ⟨n, hs, hb⟩))

theorem setReopen_eq_self {x : Option ReopenMark} (h : (s.lane l).reopen = x) : setReopen l x s = s := by
  subst h
  exact State.setLane_self s l

theorem writeNextDeck_of_unmarked (h : (s.lane l).reopen = none) (x : Leave) :
    writeNextDeck l x s = modLane l (LaneRec.facedWith x) s := by
  rw [writeNextDeck, modSup_eq, modLane_eq, LaneRec.facedWith, ← h]
  rfl

theorem setReopen_writeNextDeck_modSquad (l : Lane) (x : Leave) (f : Squad → Squad) (s : State) :
    setReopen l none (writeNextDeck l x (modSquad q f s)) = modSquad q f (modLane l (LaneRec.facedWith x) s) := by
  simp [writeNextDeck, setReopen, modSup_eq, modLane_eq, modSquad_eq, LaneRec.facedWith, State.sup]

theorem modSquad_modLane_modSquad (f g : Squad → Squad) (h : LaneRec → LaneRec) (s : State) :
    modSquad q f (modLane l h (modSquad q g s)) = modSquad q (f ∘ g) (modLane l h s) := by
  simp [modLane_eq, modSquad_eq]

theorem modSquad_id (q : SquadId) (s : State) : modSquad q id s = s := State.setSquad_self s q

theorem rotationCase_withBowler (q : SquadId) (n i k : Nat) (c : Bowler) (before after : List BallEntry) (s : State) :
    rotationCase ((withBowler q n c s).squad q) i k before after = rotationCase (s.squad q) i k before after := by
  rw [withBowler_squad]
  rfl

/-- The frame in play stays in play (R87). -/
theorem gamesOk_correctedInPlay {c : Bowler} (h : GamesOk s) (hr : Rescored (s.squad q).round new b c)
    (hs : (s.squad q).slot = some n) (hb : bowlerAt (s.squad q).order n = some b)
    (hlen : new.length = (frameAt b.sheet (s.squad q).round).balls.length) (hun : (s.laneOf q).reopen = none)
    (hinc : ballsComplete (s.squad q).round new = false) :
    GamesOk (writeNextDeck (s.squad q).current (nextLeave (s.squad q).round new) (withBowler q n c s)) := by
  obtain ⟨b', hb', hbw⟩ := (h.side q).ok.current n hs
  cases hb.symm.trans hb'
  have hg := gamesOk_frameGoesOn h hr hs hb hinc (.refl _) (f := id) (x := (s.squad q).ball)
    (fun v hv => by rw [← hv]; rfl) (by rw [hbw.ball, hlen])
  rw [modSquad_id] at hg
  rwa [writeNextDeck_of_unmarked (s := withBowler q n c s) hun]

/-- The frame in play becomes complete (R88). -/
theorem gamesOk_correctedComplete {c : Bowler} (h : GamesOk s) (hr : Rescored (s.squad q).round new b c)
    (hs : (s.squad q).slot = some n) (hb : bowlerAt (s.squad q).order n = some b) (hun : (s.laneOf q).reopen = none)
    (hcomp : ballsComplete (s.squad q).round new = true) {before : List BallEntry}
    (hcase : rotationCase (s.squad q) n (s.squad q).round before new = .completed) :
    GamesOk (rotateCorrected q (s.squad q).current n (s.squad q).round before new (withBowler q n c s)) := by
  have hg := gamesOk_frameDone h hr hs hb hcomp (.refl _)
  unfold rotateCorrected
  rw [rotationCase_withBowler, hcase]
  dsimp only
  rw [show ((withBowler q n c s).squad q).round = (s.squad q).round by rw [withBowler_squad]]
  split
  next x hx => rwa [hx] at hg
  next hx => rwa [hx, setReopen_eq_self (s := withBowler q n c s) hun] at hg

/-- A marked strike is taken back (R89). -/
theorem gamesOk_correctedReopened {c : Bowler} (h : GamesOk s) (hr : Rescored k new b c)
    (hb : bowlerAt (s.squad q).order n = some b) (hlen : new.length = (frameAt b.sheet k).balls.length)
    (hm : MarkedStrike (s.squad q) { squad := q, slot := n, frame := k }) (hns : firstIsStrike new = false) :
    GamesOk (setReopen (s.squad q).current none (writeNextDeck (s.squad q).current (nextLeave k new)
      (modSquad q (fun v => { v with slot := some n, round := k, ball := 2 }) (withBowler q n c s)))) := by
  have hk : k = (s.squad q).round := hm.frame
  subst hk
  rw [setReopen_writeNextDeck_modSquad, withBowler, modSquad_modLane_modSquad]
  exact ((h.sided q).rewrite (Q := fun m => Standing m q)
    (f := (fun v : Squad => { v with slot := some n, round := (s.squad q).round, ball := 2 }) ∘
      fun v : Squad => { v with order := setBowler v.order n c }) rfl ⟨rfl, rfl⟩ rfl
    (fun hs => hr.standing_reopened hs hm hb hlen hns) fun _ hl => hl.of_state rfl rfl hl.bowling).gamesOk

/-- Rotation is not touched: the frame stays as complete as it was, and a strike stays one. -/
theorem gamesOk_correctedUntouched {c : Bowler} (h : GamesOk s) (hc : Correctable q n k j b entry after foul new s)
    (hr : Rescored k new b c) (hlen : new.length = (frameAt b.sheet k).balls.length)
    (hre : ¬(k ≤ 9 ∧ firstIsStrike (frameAt b.sheet k).balls = true ∧ (!firstIsStrike new) = true))
    (hcur : ¬((s.squad q).slot = some n ∧ (s.squad q).round = k ∧ (!ballsComplete k (frameAt b.sheet k).balls) = true)) :
    GamesOk (withBowler q n c s) := by
  have hst := h.side q
  have hb := hc.bowler
  have hok := hst.ok.sheets b (mem_of_bowlerAt hb)
  have hu : Rescored.Untouched k (frameAt b.sheet k).balls new := {
    some_ := hc.balls_ne_nil
    length := hlen
    complete := fun hcomp =>
      (shapeKept_complete (hok.frame k hc.frame.1 hc.frame.2).balls hlen hc.shape hcomp).resolve_right
        fun ⟨h9, _, hs, hn, _⟩ => hre ⟨h9, hs, by rw [hn]; rfl⟩
    strike := fun h9 hs => by
      by_contra hn
      exact hre ⟨h9, hs, by simpa using hn⟩ }
  refine ((h.sided q).rewrite_squad (Q := fun m => Standing m q) ⟨rfl, rfl⟩ (fun hs => ?_)
    fun _ hl => hl.of_state rfl rfl hl.bowling).gamesOk
  refine hr.standing_untouched hs hb hc.frame.1 hc.frame.2 hu fun hslot hk => hcur ⟨hslot, hk, ?_⟩
  obtain ⟨b', hb', hbw⟩ := hst.ok.current n hslot
  cases hb.symm.trans hb'
  rw [show ballsComplete k (frameAt b.sheet k).balls = false from hk ▸ hbw.lacks]; rfl

/-- A correction taken (R85 to R89). -/
theorem gamesOk_corrected (h : GamesOk s) (he : Safety.EntriesSound s)
    (hc : Correctable q n k j b entry after foul new s) : GamesOk (corrected q n k b new s) := by
  have hst := h.side q
  have hb := hc.bowler
  have hcl : (s.laneOf q).state ≠ .closing := fun hx => by
    have := hc.session
    rw [show (s.lane (s.squad q).current).state = .closing from hx] at this
    cases this
  obtain ⟨hr, hlen⟩ := hc.rescored hst.ok he ((s.squad q).state == .forming || (s.squad q).state == .gameDone)
  unfold corrected
  generalize replaceTotals ((s.squad q).state == .forming || (s.squad q).state == .gameDone) (rebuiltBowler k new b) = c
    at hr ⊢
  change GamesOk (rotateCorrected q (s.squad q).current n k (frameAt b.sheet k).balls new (withBowler q n c s))
  by_cases hre : k ≤ 9 ∧ firstIsStrike (frameAt b.sheet k).balls = true ∧ (!firstIsStrike new) = true
  · have hcase : rotationCase (s.squad q) n k (frameAt b.sheet k).balls new = .reopened := if_pos hre
    obtain ⟨h9, hbs, hns⟩ := hre
    rw [Bool.not_eq_true'] at hns
    have hmark : (s.laneOf q).reopen = some { squad := q, slot := n, frame := k } := by
      simpa [shapeKept, h9, shapeOpen, hbs, hns, reopenNames, State.laneOf] using hc.shape
    unfold rotateCorrected
    rw [rotationCase_withBowler, hcase]
    exact gamesOk_correctedReopened h hr hb hlen (hst.mark hcl _ hmark).2 hns
  by_cases hcur : (s.squad q).slot = some n ∧ (s.squad q).round = k ∧ (!ballsComplete k (frameAt b.sheet k).balls) = true
  · have hcase : rotationCase (s.squad q) n k (frameAt b.sheet k).balls new =
        if ballsComplete k new then .completed else .inPlay := (if_neg hre).trans (if_pos hcur)
    obtain ⟨hs, rfl, -⟩ := hcur
    have hun := hst.unmarked_of_balls hcl hs hb hc.balls_ne_nil
    cases hcomp : ballsComplete (s.squad q).round new with
    | true => exact gamesOk_correctedComplete h hr hs hb hun hcomp (hcase.trans (if_pos hcomp))
    | false =>
      unfold rotateCorrected
      rw [rotationCase_withBowler, hcase, if_neg (by simp [hcomp])]
      exact gamesOk_correctedInPlay h hr hs hb hlen hun hcomp
  · have hcase : rotationCase (s.squad q) n k (frameAt b.sheet k).balls new = .untouched := (if_neg hre).trans (if_neg hcur)
    unfold rotateCorrected
    rw [rotationCase_withBowler, hcase]
    exact gamesOk_correctedUntouched h hc hr hlen hre hcur

end

end Sys2Proof.Machine

namespace Sys2Proof.Machine

/-! ### Every step keeps the games sound -/

section
variable {s t : State}

/-- The ball entries stand on sheets that quiet rewrites keep. -/
theorem Quiet.entriesSound (h : Quiet s t) (hs : Safety.EntriesSound s) : Safety.EntriesSound t := by
  intro q b hb f hf
  obtain ⟨c, hc, hl⟩ := exists_mem_of_lines (h.squads q).lines hb
  exact hs q c hc f ((line_eq hl).2.1 ▸ hf)

theorem Play.gamesOk (h : Play s t) (hs : GamesOk s) (he : Safety.EntriesSound s) : GamesOk t := by
  cases h with
  | opens h => exact gamesOk_openEffect hs h _ _ _
  | closes hm => exact gamesOk_endSession hs hm _
  | closesPair hm => exact gamesOk_endSession (gamesOk_splitRecords hs hm) (splitRecords_pairMode s) _
  | starts hm ho => exact gamesOk_starts hs hm ho _
  | startsPair _ ho => exact gamesOk_startsPair hs ho _
  | adds => exact gamesOk_adds hs _ _ _
  | removes hb hn => exact gamesOk_removes hs hb hn
  | removesCurrent hb hn => exact gamesOk_removesCurrent hs hb hn
  | moves hb h1 hj => exact gamesOk_moves hs hb h1 hj
  | absents hb hn => exact gamesOk_absents hs hb hn _
  | absentsCurrent hb hn => exact gamesOk_absentsCurrent hs hb hn _
  | presents hb => exact gamesOk_presents hs hb
  | corrects hc => exact gamesOk_corrected hs he hc
  | records => exact gamesOk_recordBall hs _ _ _ _
  | joins _ ho => exact gamesOk_joins hs ho
  | splits hm hq => exact gamesOk_splits hs hm hq
  | forces hm => exact gamesOk_splitRecords hs hm
  | parks hn hc => exact absurd ((hs.on _).closes hc) hn
  | programs | stores | fails => exact hs.of_board ⟨rfl, rfl, rfl⟩
  | loses => exact (gamesOk_coldRecords hs).of_board ⟨rfl, rfl, rfl⟩
  | restarts => exact gamesOk_startOn hs _
  | coldStarts => exact gamesOk_startOn (gamesOk_coldRecords hs) _
  | resets => exact gamesOk_coldPair hs

theorem Goes.gamesOk (h : Goes s t) (hs : GamesOk s) (he : Safety.EntriesSound s) : GamesOk t := by
  obtain ⟨u, hq, hc | ⟨v, hp, hc⟩⟩ := h
  · exact hc.gamesOk (hs.of_quiet hq)
  · exact hc.gamesOk (hp.gamesOk (hs.of_quiet hq) (hq.entriesSound he))

end

/-- Settles O17: what a step can do, and that each such move keeps the two sides of the pair sound and level. -/
theorem stepKeepsGamesSound : Obligations.StepKeepsGamesSound := by
  unfold Obligations.StepKeepsGamesSound
  intro s t hs he ht
  exact (gamesSound_iff t).mpr ((goes_step ht).gamesOk ((gamesSound_iff s).mp hs) he)

end Sys2Proof.Machine

namespace Sys2Proof.Machine

/-! ### Leaves within leaves -/

/-- A leave lies within another exactly when every pin of it stands there. -/
theorem leaveWithin_iff {x y : Leave} : leaveWithin x y = true ↔ ∀ i, x.getLsbD i = true → y.getLsbD i = true := by
  unfold leaveWithin
  rw [beq_iff_eq]
  constructor
  · intro h i hi
    rw [← h, BitVec.getLsbD_and, Bool.and_eq_true] at hi
    exact hi.2
  · refine fun h => BitVec.eq_of_getLsbD_eq fun i _ => ?_
    cases hx : x.getLsbD i with
    | false => simp [hx]
    | true => simp [hx, h i hx]

theorem leaveWithin_and_right (x y : Leave) : leaveWithin (x &&& y) y = true := leaveWithin_iff.mpr fun i hi => by
  rw [BitVec.getLsbD_and, Bool.and_eq_true] at hi
  exact hi.2

theorem leaveWithin_and_left (x y : Leave) : leaveWithin (x &&& y) x = true := by
  rw [BitVec.and_comm]; exact leaveWithin_and_right y x

theorem leaveWithin_trans {x y z : Leave} (h : leaveWithin x y = true) (k : leaveWithin y z = true) :
    leaveWithin x z = true :=
  leaveWithin_iff.mpr fun i hi => leaveWithin_iff.mp k i (leaveWithin_iff.mp h i hi)

theorem leaveWithin_or {x y z : Leave} (h : leaveWithin x z = true) (k : leaveWithin y z = true) :
    leaveWithin (x ||| y) z = true :=
  leaveWithin_iff.mpr fun i hi => by
    rw [BitVec.getLsbD_or, Bool.or_eq_true] at hi
    exact hi.elim (leaveWithin_iff.mp h i) (leaveWithin_iff.mp k i)

/-- The lowest pins of a leave are pins of it. -/
theorem leaveWithin_lowestPins (n : Nat) (l : Leave) : leaveWithin (lowestPins n l) l = true := by
  induction n generalizing l with
  | zero => exact leaveWithin_iff.mpr fun i hi => by simp [lowestPins] at hi
  | succ n ih => exact leaveWithin_or (leaveWithin_and_left _ _) (leaveWithin_trans (ih _) (leaveWithin_and_left _ _))

/-- The leave that a corrected count builds stays within the leave faced (R80). -/
theorem leaveWithin_leaveOfCount {faced after : Leave} (h : leaveWithin after faced = true) (c : Nat) :
    leaveWithin (leaveOfCount faced after c) faced = true := by
  unfold leaveOfCount
  dsimp only
  split
  · exact leaveWithin_or h (leaveWithin_trans (leaveWithin_lowestPins _ _) (leaveWithin_and_left _ _))
  · exact leaveWithin_trans (leaveWithin_and_left _ _) h

/-- The new leave of a correction lies within the leave faced (R80). -/
theorem leaveWithin_correctedLeave {e : BallEntry} {c : Correction} {foul : Bool} {x : Leave}
    (he : leaveWithin e.after e.faced = true) (h : correctedLeave e c foul = some x) : leaveWithin x e.faced = true := by
  cases c with
  | leave l =>
    simp only [correctedLeave, Option.ite_none_right_eq_some, Option.some.injEq] at h
    exact h.2 ▸ h.1
  | count n =>
    cases foul with
    | true =>
      simp only [correctedLeave, if_true, Option.ite_none_right_eq_some, Option.some.injEq] at h
      exact h.2 ▸ he
    | false =>
      simp only [correctedLeave, Bool.false_eq_true, if_false, Option.ite_none_left_eq_some, Option.some.injEq] at h
      exact h.2 ▸ leaveWithin_leaveOfCount he n

/-! ### Sound entries on a sheet -/

/-- A derived entry is sound when its leave lies within the leave faced (R25, R29, R30). -/
theorem entrySound_makeEntry {faced after : Leave} (h : leaveWithin after faced = true) (k n : Nat) (foul : Bool)
    (source : Source) (mismatch : Bool) : Safety.EntrySound (makeEntry k n faced after foul source mismatch) := ⟨h, rfl⟩

/-- A list of balls whose entries are sound. -/
def SoundBalls (balls : List BallEntry) : Prop := ∀ e ∈ balls, Safety.EntrySound e

/-- A sheet whose ball entries are sound; `Safety.EntriesSound` says it of every bowler's. -/
def SoundSheet (sheet : List FrameRec) : Prop := ∀ f ∈ sheet, SoundBalls f.balls

theorem SoundBalls.append {xs ys : List BallEntry} (hx : SoundBalls xs) (hy : SoundBalls ys) : SoundBalls (xs ++ ys) :=
  fun e he => (List.mem_append.mp he).elim (hx e) (hy e)

theorem SoundBalls.singleton {e : BallEntry} (h : Safety.EntrySound e) : SoundBalls [e] := by
  simpa [SoundBalls] using h

theorem soundSheet_empty : SoundSheet emptySheet := by
  intro f hf
  rw [List.eq_of_mem_replicate hf]
  simp [SoundBalls, unbowledFrame]

section
variable {sheet : List FrameRec} {k : Nat}

theorem SoundSheet.frameAt (h : SoundSheet sheet) (k : Nat) : SoundBalls (frameAt sheet k).balls := by
  unfold Machine.frameAt
  rw [List.getD]
  cases hf : sheet[k - 1]? with
  | none => simp [SoundBalls, unbowledFrame]
  | some f => exact h f (List.mem_of_getElem? hf)

theorem SoundSheet.setFrame (h : SoundSheet sheet) (k : Nat) {f : FrameRec} (hf : SoundBalls f.balls) :
    SoundSheet (setFrame sheet k f) := by
  intro g hg
  rcases List.mem_or_eq_of_mem_set hg with hg | rfl
  · exact h g hg
  · exact hf

/-- The bonus step touches no ball (R36). -/
theorem SoundSheet.payPending (h : SoundSheet sheet) (c : Nat) (pending : List Nat) :
    SoundSheet (payPending c pending sheet) := by
  induction pending generalizing sheet with
  | nil => exact h
  | cons k rest ih => exact ih (h.setFrame k (h.frameAt k))

/-- The frames that become final keep their balls (R37). -/
theorem SoundSheet.finalise (h : SoundSheet sheet) (k p : Nat) : SoundSheet (finalise k p sheet) := by
  intro f hf
  obtain ⟨i, hi⟩ := List.mem_iff_getElem?.mp hf
  have hlt : i < sheet.length := by simpa using (List.getElem?_eq_some_iff.mp hi).1
  obtain ⟨t, ht, -⟩ := finalise_getElem? (k := k) (p := p) (List.getElem?_eq_getElem hlt)
  cases ht.symm.trans hi
  exact h sheet[i] (List.getElem_mem hlt)

/-- A record adds its own entry and keeps the others (R28). -/
theorem SoundSheet.scoreBall (h : SoundSheet sheet) {e : BallEntry} (he : Safety.EntrySound e) (k : Nat)
    (pending : List Nat) : SoundSheet (scoreBall k e sheet pending).1 :=
  have hp := h.payPending e.count pending
  (hp.setFrame k ((hp.frameAt k).append (.singleton he))).finalise 1 0

/-- The replay of balls whose leaves are in order records sound entries (R45). -/
theorem soundSheet_replayBalls {bs : List BallEntry} (hb : SoundBalls bs) (k n : Nat) {acc : List FrameRec × List Nat}
    (h : SoundSheet acc.1) : SoundSheet (replayBalls k n bs acc).1 := by
  induction bs generalizing n acc with
  | nil => exact h
  | cons e rest ih =>
    exact ih (fun x hx => hb x (List.mem_cons_of_mem e hx)) (n + 1)
      (h.scoreBall (entrySound_makeEntry (hb e List.mem_cons_self).1 k n e.foul e.source e.mismatch) k _)

theorem soundSheet_replayFrames {fs : List FrameRec} (hs : SoundSheet fs) (k : Nat) {acc : List FrameRec × List Nat}
    (h : SoundSheet acc.1) : SoundSheet (replayFrames k fs acc).1 := by
  induction fs generalizing k acc with
  | nil => exact h
  | cons f rest ih =>
    exact ih (fun g hg => hs g (List.mem_cons_of_mem f hg)) (k + 1)
      (soundSheet_replayBalls (hs f List.mem_cons_self) k 1 h)

theorem SoundSheet.rebuild (h : SoundSheet sheet) : SoundSheet (rebuild sheet).1 :=
  soundSheet_replayFrames h 1 soundSheet_empty

end

/-! ### Sound entries of a corrected frame (R80, R81) -/

theorem soundBalls_rederive {k : Nat} {earlier later new : List BallEntry} (h : rederive k earlier later = some new)
    (he : SoundBalls earlier) : SoundBalls new := by
  induction later generalizing earlier with
  | nil => cases h; exact he
  | cons e rest ih =>
    unfold rederive at h
    dsimp only at h
    split at h
    next hw => exact ih h (he.append (.singleton (entrySound_makeEntry hw _ _ _ _ _)))
    next => cases h

theorem soundBalls_correctedBalls {k j : Nat} {balls new : List BallEntry} {e : BallEntry} {after : Leave} {foul : Bool}
    (hb : SoundBalls balls) (hw : leaveWithin after e.faced = true) (h : correctedBalls k j balls e after foul = some new) :
    SoundBalls new :=
  soundBalls_rederive h (SoundBalls.append (fun x hx => hb x (List.mem_of_mem_take hx))
    (.singleton (entrySound_makeEntry hw _ _ _ _ _)))

/-- The bowler of a correction keeps sound entries (R85). -/
theorem soundSheet_rebuiltBowler {b : Bowler} {new : List BallEntry} (h : SoundSheet b.sheet) (hn : SoundBalls new)
    (k : Nat) : SoundSheet (rebuiltBowler k new b).sheet := (h.setFrame k hn).rebuild

end Sys2Proof.Machine

namespace Sys2Proof.Machine

/-! ### Moves that keep every ball entry sound

`Play` names a correction by what CORRECT_BALL checked of its shape; that its new leave lies within the leave faced is not
among that, so soundness of the entries is carried through the commands by a relation of its own. -/

/-- A move that keeps every ball entry sound. -/
def KeepsEntries (s t : State) : Prop := Safety.EntriesSound s → Safety.EntriesSound t

namespace KeepsEntries
variable {s t u : State}

theorem refl (s : State) : KeepsEntries s s := id

theorem trans (h : KeepsEntries s t) (k : KeepsEntries t u) : KeepsEntries s u := k ∘ h

/-- A rewrite under which every sheet comes from before, or is sound by itself. -/
theorem of_sheets (h : ∀ q, ∀ b ∈ (t.squad q).order, SoundSheet b.sheet ∨ ∃ p, ∃ c ∈ (s.squad p).order, b.sheet = c.sheet) :
    KeepsEntries s t := fun hs q b hb => (h q b hb).elim id fun ⟨p, c, hc, he⟩ => he ▸ hs p c hc

theorem of_squads (h : ∀ q, t.squad q = s.squad q) : KeepsEntries s t := fun hs q => h q ▸ hs q

theorem modLane (l : Lane) (f : LaneRec → LaneRec) (s : State) : KeepsEntries s (modLane l f s) := of_squads fun _ => rfl

/-- One squad rewritten. -/
theorem modSquad {q : SquadId} {f : Squad → Squad}
    (h : (∀ b ∈ (s.squad q).order, SoundSheet b.sheet) → ∀ b ∈ (f (s.squad q)).order, SoundSheet b.sheet) :
    KeepsEntries s (modSquad q f s) := by
  intro hs k
  rw [modSquad_squad]
  split
  next hk => subst hk; exact h (hs k)
  next => exact hs k

/-- One squad rewritten, its order kept. -/
theorem modSquad_order {q : SquadId} {f : Squad → Squad} (h : (f (s.squad q)).order = (s.squad q).order) :
    KeepsEntries s (Machine.modSquad q f s) := modSquad fun hs => h ▸ hs

/-- One squad's bowlers rewritten one by one, each sheet kept or emptied. -/
theorem mapOrder {q : SquadId} {f : Squad → Squad} {g : Bowler → Bowler}
    (ho : (f (s.squad q)).order = (s.squad q).order.map g) (hg : ∀ b, (g b).sheet = b.sheet ∨ (g b).sheet = emptySheet) :
    KeepsEntries s (Machine.modSquad q f s) := by
  refine modSquad fun hs b hb => ?_
  rw [ho] at hb
  obtain ⟨c, hc, rfl⟩ := List.mem_map.mp hb
  rcases hg c with h | h <;> rw [h]
  · exact hs c hc
  · exact soundSheet_empty

/-- One bowler of a squad rewritten. -/
theorem setBowler {q : SquadId} {n : Nat} {c : Bowler}
    (h : (∀ b ∈ (s.squad q).order, SoundSheet b.sheet) → SoundSheet c.sheet) : KeepsEntries s (withBowler q n c s) :=
  modSquad fun hs _ hb => (mem_setBowler hb).elim (hs _) fun he => he ▸ h hs

end KeepsEntries

section
variable {s t : State}

theorem Quiet.keepsEntries (h : Quiet s t) : KeepsEntries s t := h.entriesSound

theorem SameBoard.keepsEntries (h : SameBoard s t) : KeepsEntries s t := .of_squads h.squad

theorem keepsEntries_park (l : Lane) (faulted : Bool) (s : State) : KeepsEntries s (park l faulted s) :=
  KeepsEntries.trans (.modLane l _ s) ((quiet_powerDown l _).keepsEntries.trans
    (KeepsEntries.trans (.modLane l _ _) (.modSquad fun _ _ hb => by cases hb)))

theorem Calm.keepsEntries (h : Calm s t) : KeepsEntries s t := by
  induction h with
  | quiet h => exact h.keepsEntries
  | park => exact keepsEntries_park _ _ _
  | trans _ _ ih ih' => exact ih.trans ih'

/-! ### Games and rounds keep the entries -/

theorem keepsEntries_writeNextDeck (l : Lane) (x : Leave) (s : State) : KeepsEntries s (writeNextDeck l x s) :=
  .modLane l _ s

theorem keepsEntries_toRound (q : SquadId) (k : Squad → Nat) (s : State) :
    KeepsEntries s (modSquad q (fun v => v.toRound (k v)) s) := .modSquad_order rfl

theorem keepsEntries_formed (q : SquadId) (s : State) : KeepsEntries s (modSquad q Squad.formed s) := .modSquad_order rfl

theorem keepsEntries_convertSquad (q : SquadId) (s : State) : KeepsEntries s (convertSquad q s) :=
  .mapOrder rfl fun b => .inl (convertWaiting_sheet b).1

/-- A game starts on empty sheets (R19). -/
theorem keepsEntries_startSquadGame (q : SquadId) (game : Nat) (s : State) :
    KeepsEntries s (startSquadGame q game s) := by
  have hs : KeepsEntries s (modSquad q (fun v => v.started game) s) := .mapOrder (g := freshGame) rfl fun _ => .inr rfl
  exact hs.trans (KeepsEntries.trans (.modLane _ _ _) (.modLane _ _ _))

theorem keepsEntries_afterGame (q : SquadId) (l : Lane) (s : State) : KeepsEntries s (afterGame q l s) := by
  unfold afterGame
  dsimp only
  split
  · exact (keepsEntries_startSquadGame _ _ s).trans (quiet_creditShort _ _ _).keepsEntries
  · exact (keepsEntries_formed q s).trans (.modLane _ _ _)

theorem keepsEntries_dropSwapHolds (s : State) : KeepsEntries s (dropSwapHolds s) :=
  KeepsEntries.trans (.modLane _ _ s) (.modLane _ _ _)

theorem keepsEntries_clearReopens (s : State) : KeepsEntries s (clearReopens s) :=
  KeepsEntries.trans (.modLane _ _ s) (.modLane _ _ _)

theorem keepsEntries_exchangeLanes (s : State) : KeepsEntries s (exchangeLanes s) := fun h q => by
  rw [exchangeLanes_squad]; exact h q

theorem keepsEntries_returnHome (s : State) : KeepsEntries s (returnHome s) := fun h q => by
  rw [returnHome_squad]; exact h q

theorem keepsEntries_swapSquads (f : Nat) (s : State) : KeepsEntries s (swapSquads f s) := by
  have h1 := (keepsEntries_exchangeLanes s).trans ((keepsEntries_toRound .b (fun _ => f + 1) _).trans
    (keepsEntries_toRound .a (fun _ => f + 1) _))
  have h2 := h1.trans ((keepsEntries_writeNextDeck .b fullRack _).trans (keepsEntries_writeNextDeck .a fullRack _))
  exact h2.trans ((keepsEntries_dropSwapHolds _).trans ((keepsEntries_clearReopens _).trans
    (quiet_bothChanged _).keepsEntries))

theorem keepsEntries_waitForSwap (q : SquadId) (l : Lane) (s : State) : KeepsEntries s (waitForSwap q l s) :=
  KeepsEntries.trans (.modSquad_order rfl) (quiet_addHold l .swap _).keepsEntries

theorem keepsEntries_sentHome (s : State) : KeepsEntries s (sentHome s) :=
  (keepsEntries_convertSquad .b s).trans ((keepsEntries_convertSquad .a _).trans ((keepsEntries_returnHome _).trans
    ((keepsEntries_dropSwapHolds _).trans (keepsEntries_clearReopens _))))

theorem keepsEntries_endPairGame (q : SquadId) (s : State) : KeepsEntries s (endPairGame q s) := by
  refine (keepsEntries_sentHome s).trans ?_
  unfold endPairGame
  dsimp only
  split
  · exact (keepsEntries_startSquadGame .a _ _).trans ((keepsEntries_startSquadGame .b _ _).trans
      (((quiet_creditShort .a .a _).trans (quiet_creditShort .b .b _)).trans (quiet_bothChanged _)).keepsEntries)
  · exact (keepsEntries_formed .b _).trans ((keepsEntries_formed .a _).trans
      (KeepsEntries.trans (.modLane .b _ _) (KeepsEntries.trans (.modLane .a _ _) (quiet_bothChanged _).keepsEntries)))

theorem keepsEntries_reachGameDone (q : SquadId) (l : Lane) (s : State) : KeepsEntries s (reachGameDone q l s) := by
  have h1 : KeepsEntries s (modSquad q (fun v => { v with state := .gameDone, slot := none }) (storeTotals q s)) :=
    (quiet_storeTotals q s).keepsEntries.trans (.modSquad_order rfl)
  have h2 := h1.trans (quiet_raiseLane .game l _).keepsEntries
  unfold reachGameDone
  dsimp only
  split
  · exact h2.trans (keepsEntries_endPairGame q _)
  · exact h2.trans (quiet_addHold l .swap _).keepsEntries

theorem keepsEntries_roundDone (q : SquadId) (l : Lane) (s : State) : KeepsEntries s (roundDone q l s) := by
  have h1 := ((quiet_raiseLane .frame l s).trans (quiet_reportRound l _)).keepsEntries
  unfold roundDone
  dsimp only
  split
  · refine h1.trans ?_
    unfold roundDoneSingle
    split
    · exact keepsEntries_toRound q (fun v => v.round + 1) _
    · exact (quiet_storeTotals q _).keepsEntries.trans ((keepsEntries_convertSquad q _).trans
        ((quiet_raiseLane .game l _).keepsEntries.trans (keepsEntries_afterGame q l _)))
  · refine h1.trans ?_
    unfold roundDoneCross
    dsimp only
    split
    · split
      · exact keepsEntries_swapSquads _ _
      · exact keepsEntries_waitForSwap q l _
    · exact keepsEntries_reachGameDone q l _

theorem keepsEntries_chooseNext (q : SquadId) (l : Lane) (s : State) : KeepsEntries s (chooseNext q l s) := by
  unfold chooseNext
  dsimp only
  split
  · exact (keepsEntries_writeNextDeck l fullRack s).trans (.modSquad_order rfl)
  · exact (keepsEntries_writeNextDeck l fullRack s).trans (keepsEntries_roundDone q l _)

/-- A record puts one sound entry on one sheet (R28, R29). -/
theorem keepsEntries_recordBall (l : Lane) (leave : Leave) (foul : Bool) (source : Source) (s : State) :
    KeepsEntries s (recordBall l leave foul source s).1 := by
  unfold recordBall
  dsimp only
  split
  next n b hn hb =>
    obtain ⟨i, -, hi⟩ := Squad.currentBowler_eq_some.mp hb
    have he : Safety.EntrySound (recordedEntry (s.squad (s.lane l).squad) (s.sup l).nextDeck leave foul source) :=
      entrySound_makeEntry (leaveWithin_and_right _ _) _ _ _ _ _
    have h1 := (KeepsEntries.setBowler (s := s) (q := (s.lane l).squad) (n := n)
      (c := bowlerWithBall (s.squad (s.lane l).squad).round
        (recordedEntry (s.squad (s.lane l).squad) (s.sup l).nextDeck leave foul source) b)
      fun hs => (hs b (mem_of_bowlerAt hi)).scoreBall he _ _).trans (quiet_countMismatch l
        (recordedEntry (s.squad (s.lane l).squad) (s.sup l).nextDeck leave foul source) _).keepsEntries
    split
    · exact h1.trans (KeepsEntries.trans (.modLane l _ _) ((keepsEntries_chooseNext _ l _).trans
        (quiet_raiseLane .ball l _).keepsEntries))
    · exact h1.trans (KeepsEntries.trans (.modLane l _ _) (KeepsEntries.trans (.modSquad_order rfl)
        (KeepsEntries.trans (.modLane l _ _) (quiet_raiseLane .ball l _).keepsEntries)))
  next => exact .refl s

/-! ### The forced split keeps the entries (R102) -/

theorem keepsEntries_renameSquads (s : State) : KeepsEntries s (renameSquads s) := by
  by_cases h : (s.squad .a).current = .a
  · rw [renameSquads_of_home h]; exact .refl s
  · exact .of_sheets fun q b hb => by
      rw [renameSquads_squad h] at hb
      exact .inr ⟨q.other, b, hb, rfl⟩

theorem keepsEntries_splitSquad (q : SquadId) (s : State) : KeepsEntries s (splitSquad q s) := by
  unfold splitSquad
  dsimp only
  split
  · exact (keepsEntries_toRound q (fun v => v.round + 1) s).trans (.modLane _ _ _)
  · exact (keepsEntries_convertSquad q s).trans (keepsEntries_afterGame q _ _)
  · exact .refl s

theorem keepsEntries_splitRecords (s : State) : KeepsEntries s (splitRecords s) :=
  (keepsEntries_renameSquads { s with pairMode := .single }).trans ((keepsEntries_dropSwapHolds _).trans
    ((keepsEntries_splitSquad .a _).trans (keepsEntries_splitSquad .b _)))

end

end Sys2Proof.Machine

namespace Sys2Proof.Machine

/-! ### The requests that are not calm keep the entries -/

/-- A request whose own part keeps the entries. -/
def KeepsBody (body : State → Answer) : Prop := ∀ s, KeepsEntries s (body s).state

theorem CalmBody.keepsBody {body : State → Answer} (h : CalmBody body) : KeepsBody body := fun s => (h s).keepsEntries

theorem keepsBody_withLane {f : Lane → State → Answer} (h : ∀ l, KeepsBody (f l)) (c : Coded Lane) :
    KeepsBody (withLane c f) := by
  cases c with
  | val l => exact h l
  | bad _ => exact .refl

theorem keepsBody_open (mode : Coded AccountMode) (credit : BitVec 16) (warn : Option (BitVec 16)) (l : Lane) :
    KeepsBody (openBody mode credit warn l) := by
  intro s
  cases mode with
  | bad _ => exact .refl s
  | val m =>
    unfold openBody
    dsimp only
    split
    · exact .refl s
    · exact KeepsEntries.trans (.modLane l _ s) (quiet_wake l _).keepsEntries

theorem keepsEntries_endSession (l : Lane) (s : State) : KeepsEntries s (endSession l s) :=
  KeepsEntries.trans (.modLane l _ s) (KeepsEntries.trans (.modLane l _ _) ((quiet_raiseLane .closed l _).keepsEntries.trans
    ((keepsEntries_formed _ _).trans (keepsEntries_writeNextDeck l fullRack _))))

theorem keepsBody_close (l : Lane) : KeepsBody (closeBody l) := by
  have hend : ∀ s, KeepsEntries s (closeSequence l (endSession l s)) := fun s =>
    (keepsEntries_endSession l s).trans (calm_closeSequence (closing_endSession l s)).keepsEntries
  intro s
  unfold closeBody
  split
  · dsimp only [done, Answer.state]
    unfold closeEffect
    split
    · exact hend s
    · exact (keepsEntries_splitRecords s).trans ((hend _).trans (quiet_decide52 _ _).keepsEntries)
  · exact .refl s

theorem keepsEntries_beginGames (q : SquadId) (g : Games) (s : State) : KeepsEntries s (beginGames q g s) :=
  KeepsEntries.trans (.modSquad_order rfl) (keepsEntries_startSquadGame q 1 _)

theorem keepsEntries_setLaneState (l : Lane) (st : LaneState) (s : State) : KeepsEntries s (setLaneState l st s) :=
  .modLane l _ s

theorem keepsBody_start (games : Byte) (l : Lane) : KeepsBody (startBody games l) := by
  intro s
  unfold startBody
  split
  · exact .refl s
  · split
    · unfold startSingle
      split
      · exact .refl s
      split
      · exact .refl s
      · exact (keepsEntries_beginGames _ _ s).trans ((keepsEntries_setLaneState l _ _).trans
          (quiet_decide52 l _).keepsEntries)
    · unfold startCross
      split
      · exact .refl s
      split
      · exact .refl s
      · exact (keepsEntries_beginGames .a _ s).trans ((keepsEntries_beginGames .b _ _).trans
          ((keepsEntries_setLaneState .a _ _).trans ((keepsEntries_setLaneState .b _ _).trans
            ((quiet_decide52 .a _).trans (quiet_decide52 .b _)).keepsEntries)))

/-! ### The rosters keep the entries (R14 to R18) -/

/-- A roster request keeps the entries as its own effect does. -/
theorem keepsBody_withRoster {f : SquadId → State → Answer} (h : ∀ q, KeepsBody (f q)) (c : Coded SquadId)
    (slots : List Nat) : KeepsBody (withRoster c slots f) := by
  intro s
  cases c with
  | bad _ => exact .refl s
  | val q =>
    unfold withRoster
    dsimp only
    split
    · exact .refl s
    split
    · exact .refl s
    · exact h q s

theorem keepsEntries_mapReopens (f : ReopenMark → Option ReopenMark) (s : State) : KeepsEntries s (mapReopens f s) :=
  KeepsEntries.trans (.modLane .b _ s) (.modLane .a _ _)

theorem keepsEntries_replaceCurrent (q : SquadId) (s : State) : KeepsEntries s (replaceCurrent q s) :=
  KeepsEntries.trans (.modLane _ _ s) ((keepsEntries_chooseNext q _ _).trans (quiet_bowlerChanged _ _).keepsEntries)

/-- A bowler rewritten, its sheet kept or emptied. -/
theorem keepsEntries_modBowler (q : SquadId) (n : Nat) {f : Bowler → Bowler}
    (hf : ∀ b, (f b).sheet = b.sheet ∨ (f b).sheet = emptySheet) (s : State) : KeepsEntries s (modBowler q n f s) := by
  refine .modSquad fun hs b hb => ?_
  split at hb
  next c hc =>
    rcases mem_setBowler hb with hb | rfl
    · exact hs b hb
    · rcases hf c with h | h <;> rw [h]
      · exact hs c (mem_of_bowlerAt hc)
      · exact soundSheet_empty
  next => exact hs b hb

theorem keepsBody_addBowler (name : List Byte) (handicap : Option Byte) (blind : Option (BitVec 16)) (q : SquadId) :
    KeepsBody (addBowlerBody name handicap blind q) := by
  intro s
  unfold addBowlerBody
  split
  · exact .refl s
  split
  · dsimp only [done, Answer.state]
    refine .modSquad fun hs b hb => ?_
    rcases List.mem_append.mp hb with hb | hb
    · exact hs b hb
    · rw [List.mem_singleton.mp hb]; exact soundSheet_empty
  · exact .refl s

theorem keepsBody_removeBowler (n : Nat) (q : SquadId) : KeepsBody (removeBowlerBody n q) := by
  intro s
  have hw : KeepsEntries s (withoutBowler q n s) :=
    KeepsEntries.trans (.modSquad fun hs b hb => hs b (List.mem_of_mem_eraseIdx hb)) (keepsEntries_mapReopens _ _)
  unfold removeBowlerBody
  dsimp only
  split
  · exact .refl s
  · dsimp only [done, Answer.state]
    split
    · exact hw.trans (keepsEntries_replaceCurrent q _)
    · exact hw

theorem mem_of_mem_moveInOrder {order : List Bowler} {i j : Nat} {b : Bowler} (h : b ∈ moveInOrder order i j) :
    b ∈ order := by
  unfold moveInOrder at h
  split at h
  · exact h
  next c hc =>
    rcases List.eq_or_mem_of_mem_insertIdx h with rfl | h
    · exact mem_of_bowlerAt hc
    · exact List.mem_of_mem_eraseIdx h

theorem keepsBody_moveBowler (i j : Nat) (q : SquadId) : KeepsBody (moveBowlerBody i j q) := by
  intro s
  unfold moveBowlerBody
  split
  · exact .refl s
  split
  · exact .refl s
  split
  · exact .refl s
  · exact KeepsEntries.trans (.modSquad fun hs b hb => hs b (mem_of_mem_moveInOrder hb)) (keepsEntries_mapReopens _ _)

theorem keepsBody_markAbsent (n : Nat) (blind : BitVec 16) (q : SquadId) : KeepsBody (markAbsentBody n blind q) := by
  intro s
  have hw : ∀ x, KeepsEntries s (withAbsent q n x s) := fun x =>
    (keepsEntries_modBowler q n (f := absentWith x) (fun _ => .inl rfl) s).trans (keepsEntries_mapReopens _ _)
  unfold markAbsentBody
  split
  · exact .refl s
  dsimp only
  split
  · exact .refl s
  split
  · exact .refl s
  · dsimp only [done, Answer.state]
    split
    · exact (hw _).trans (keepsEntries_replaceCurrent q _)
    · exact hw _

theorem presentAgain_sheet (inGame : Bool) (b : Bowler) :
    (presentAgain inGame b).sheet = b.sheet ∨ (presentAgain inGame b).sheet = emptySheet := by
  unfold presentAgain
  split
  · split
    · exact .inr rfl
    · exact .inl rfl
  · exact .inl rfl

theorem keepsBody_markPresent (n : Nat) (q : SquadId) : KeepsBody (markPresentBody n q) := by
  intro s
  unfold markPresentBody
  split
  · exact .refl s
  · exact keepsEntries_modBowler q n (presentAgain_sheet _) s

theorem keepsBody_setHandicap (n : Nat) (handicap : Option Byte) (q : SquadId) :
    KeepsBody (setHandicapBody n handicap q) := by
  intro s
  unfold setHandicapBody
  split
  · exact .refl s
  next h _ => exact keepsEntries_modBowler q n (f := fun b => { b with handicap := h }) (fun _ => .inl rfl) s

/-! ### Corrections and entered balls keep the entries -/

theorem keepsEntries_rotateCorrected (q : SquadId) (l : Lane) (n k : Nat) (before after : List BallEntry) (s : State) :
    KeepsEntries s (rotateCorrected q l n k before after s) := by
  unfold rotateCorrected
  split
  · exact keepsEntries_writeNextDeck l _ s
  · split
    · exact KeepsEntries.trans (.modLane l _ s) (keepsEntries_chooseNext q l _)
    · exact keepsEntries_chooseNext q l s
  · exact KeepsEntries.trans (.modSquad_order rfl) ((keepsEntries_writeNextDeck l _ _).trans (.modLane l _ _))
  · exact .refl s

/-- A correction with sound balls keeps the entries (R85 to R92). -/
theorem keepsEntries_takeCorrection {q : SquadId} {n : Nat} {b : Bowler} {new : List BallEntry} {s : State} (p : Port)
    (k : Nat) (hb : bowlerAt (s.squad q).order n = some b) (hn : Safety.EntriesSound s → SoundBalls new) :
    KeepsEntries s (takeCorrection p q n k b new s) := by
  intro hs
  have hc : KeepsEntries s (corrected q n k b new s) := by
    refine KeepsEntries.trans (KeepsEntries.setBowler (q := q) (n := n) fun hq => ?_)
      (keepsEntries_rotateCorrected _ _ _ _ _ _ _)
    obtain ⟨-, hsheet, -⟩ := line_eq (replaceTotals_line
      ((s.squad q).state == .forming || (s.squad q).state == .gameDone) (rebuiltBowler k new b))
    rw [hsheet]
    exact soundSheet_rebuiltBowler (hq b (mem_of_bowlerAt hb)) (hn hs) k
  refine KeepsEntries.trans hc ?_ hs
  unfold takeCorrection
  dsimp only
  split
  · exact ((quiet_staleAfterCorrection _ _ _).trans ((quiet_bowlerChanged _ _).trans (quiet_enterNotice _ _ _))).keepsEntries
  · exact ((quiet_staleAfterCorrection _ _ _).trans (quiet_enterNotice _ _ _)).keepsEntries

theorem keepsEntries_applyCorrection {q : SquadId} {n k j : Nat} {b : Bowler} {entry : BallEntry} {s : State} (p : Port)
    (c : Correction) (foul : Bool) (hb : bowlerAt (s.squad q).order n = some b)
    (he : (frameAt b.sheet k).balls[j - 1]? = some entry) :
    KeepsEntries s (applyCorrection p q n k j b entry c foul s).state := by
  unfold applyCorrection
  dsimp only
  split
  · exact .refl s
  next after ha =>
    split
    · exact .refl s
    next new hnew =>
      split
      · exact .refl s
      split
      · exact .refl s
      · refine keepsEntries_takeCorrection p k hb fun hs => ?_
        have hballs : SoundBalls (frameAt b.sheet k).balls := SoundSheet.frameAt (hs q b (mem_of_bowlerAt hb)) k
        have hentry := hballs entry (List.mem_of_getElem? he)
        exact soundBalls_correctedBalls hballs (leaveWithin_correctedLeave hentry.1 ha) hnew

theorem keepsBody_correct (p : Port) (squad : Coded SquadId) (c : CorrectFields) : KeepsBody (correctBody p squad c) := by
  intro s
  unfold correctBody
  split
  · exact .refl s
  split
  · unfold correctChecked
    dsimp only
    split
    · exact .refl s
    split
    · exact .refl s
    next b hb =>
      split
      · exact .refl s
      next entry he =>
        split
        · exact .refl s
        split
        · exact .refl s
        · exact keepsEntries_applyCorrection p _ _ hb he
  · exact .refl s

theorem keepsBody_enterBall (leave : BitVec 16) (foul : Bool) (l : Lane) : KeepsBody (enterBallBody leave foul l) := by
  intro s
  have hafter : ∀ r u, KeepsEntries u (afterEntered l r u) := by
    intro r u
    unfold afterEntered
    split
    · exact (quiet_modSup rfl .inl).keepsEntries
    · exact (calm_issueDelivery l _ _ _).keepsEntries
  unfold enterBallBody
  split
  · exact .refl s
  next x _ =>
    split
    · exact (keepsEntries_recordBall l x foul .entered s).trans ((quiet_removeHold l .entry _).keepsEntries.trans
        (hafter _ _))
    · exact .refl s

/-! ### Pair mode, rates and RESET_PAIR -/

theorem keepsBody_split : KeepsBody splitBody := by
  intro s
  unfold splitBody
  split
  · exact .refl s
  split
  · exact .of_squads fun _ => rfl
  · exact .refl s

theorem keepsBody_pairMode (mode : Coded PairMode) : KeepsBody (pairModeBody mode) := by
  intro s
  unfold pairModeBody
  split
  · exact .refl s
  · exact keepsBody_split s
  unfold crossBody
  split
  · exact .refl s
  split
  · exact .refl s
  split
  · exact .refl s
  split
  · exact .refl s
  · exact .of_squads fun _ => rfl

theorem keepsBody_splitForce : KeepsBody splitForceBody := by
  intro s
  unfold splitForceBody
  split
  · exact .refl s
  · exact (keepsEntries_splitRecords s).trans ((quiet_decide52 .a _).trans (quiet_decide52 .b _)).keepsEntries

theorem keepsBody_rateStore (entry : Byte) (value : RateFields) (key : Bool) : KeepsBody (rateStoreBody entry value key) := by
  intro s
  have hk : KeepsEntries s { s with key := key } := (quiet_key key s).keepsEntries
  unfold rateStoreBody
  dsimp only
  split
  · exact hk
  split
  · exact hk
  split
  · exact hk
  split
  · exact hk
  · exact hk.trans (.of_squads fun _ => rfl)

/-- The records of the pair at their cold-start values: no bowler is left (R23, R170). -/
theorem keepsEntries_coldPair (s : State) : KeepsEntries s (coldPair s) :=
  .of_sheets fun q b hb => by cases q <;> cases hb

theorem keepsEntries_coldRecords (s : State) : KeepsEntries s (coldRecords s) :=
  (keepsEntries_coldPair s).trans (.of_squads fun _ => rfl)

theorem keepsBody_resetPair : KeepsBody resetPairBody := by
  intro s
  unfold resetPairBody
  split
  · exact .refl s
  · exact ((quiet_powerDown .a s).trans (quiet_powerDown .b _)).keepsEntries.trans ((keepsEntries_coldPair _).trans
      (quiet_loadRates _).keepsEntries)

/-! ### The events that are not calm keep the entries -/

theorem keepsEntries_takeDeck (l : Lane) (leave : Leave) (s : State) : KeepsEntries s (takeDeck l leave s) := by
  unfold takeDeck
  split
  · exact KeepsEntries.trans (.modLane l _ s) ((keepsEntries_recordBall l _ _ _ _).trans
      (calm_issueDelivery l _ _ _).keepsEntries)
  · exact .refl s

theorem keepsEntries_takeCycleDone (l : Lane) (s : State) : KeepsEntries s (takeCycleDone l s) := by
  unfold takeCycleDone
  split
  next c hc =>
    have hq := (quiet_endCycle l c s).keepsEntries
    dsimp only
    split
    next h => exact hq.trans (calm_afterClosing h).keepsEntries
    next h =>
      by_cases hp : c.purpose = .close
      · rw [hp]
        exact hq.trans (keepsEntries_park l false _)
      · exact hq.trans (quiet_afterPurpose hp).keepsEntries
  next => exact .refl s

theorem keepsEntries_modStored (n : Nat) (f : StoredEntry → StoredEntry) (s : State) : KeepsEntries s (modStored n f s) :=
  .of_squads fun _ => rfl

theorem keepsEntries_takeCompletion (s : State) : KeepsEntries s (takeCompletion s) := by
  unfold takeCompletion
  split
  · exact (keepsEntries_modStored _ _ s).trans
      ((quiet_writeWorking _ _ _).trans (quiet_endProgramming _ _ _)).keepsEntries
  · exact .refl s

theorem keepsEntries_supply (v : Supply) (s : State) : KeepsEntries s { s with supply := v } := .of_squads fun _ => rfl

theorem keepsEntries_takeMainFailure (s : State) : KeepsEntries s (takeMainFailure s) := by
  rw [takeMainFailure_eq]
  split
  · exact (quiet_stopCore s).keepsEntries.trans (keepsEntries_supply _ _)
  · exact keepsEntries_supply _ s

/-- A start keeps the sheets, or clears a squad whose lane parks (R169). -/
theorem keepsEntries_startOn (k : StartKind) (s : State) : KeepsEntries s (startOn k s) := fun hs q => by
  rw [startOn_squad]
  split
  · exact fun _ hb => by cases hb
  · exact hs q

theorem keepsEntries_startOf (k : StartKind) (s : State) : KeepsEntries s (startOf k s) := by
  unfold startOf
  split
  · exact (keepsEntries_startOn k s).trans ((quiet_bumpSerial s .a _).trans (quiet_bumpSerial s .b _)).keepsEntries
  · exact (keepsEntries_coldRecords s).trans (keepsEntries_startOn .cold _)

theorem keepsEntries_takeMainReturn (s : State) : KeepsEntries s (takeMainReturn s) := by
  rw [takeMainReturn_eq]
  split
  · exact .refl s
  split
  · exact keepsEntries_supply _ s
  · exact keepsEntries_startOf _ s

theorem keepsEntries_takeRetentionLoss (s : State) : KeepsEntries s (takeRetentionLoss s) := by
  unfold takeRetentionLoss
  split
  · exact (keepsEntries_coldRecords s).trans (keepsEntries_supply _ _)
  · exact .refl s

theorem keepsEntries_takeResetRelease (s : State) : KeepsEntries s (takeResetRelease s) := by
  rw [takeResetRelease_eq]
  split
  · exact .refl s
  split
  · exact keepsEntries_startOf _ s
  split
  · exact keepsEntries_startOf _ s
  · exact keepsEntries_supply _ s

end Sys2Proof.Machine

namespace Sys2Proof.Machine

/-! ### Every step keeps the entries -/

/-- A request frame keeps the entries as its own part does. -/
theorem keepsEntries_heardRequest {e : Envelope} {code : Byte} {allowed broadcastOk fits : Bool} {body : State → Answer}
    (h : KeepsBody body) (s : State) : KeepsEntries s (heardRequest e code allowed broadcastOk fits body s) := by
  have ha : KeepsBody (answerOf allowed fits body) := by
    intro u
    unfold answerOf
    split
    · exact .refl u
    split
    · exact .refl u
    · exact h u
  have hd : ∀ p a, KeepsEntries (Answer.state a) (deliver p a) := by
    intro p a
    cases a with
    | now st bytes t => exact (quiet_answerRequest p st bytes t).keepsEntries
    | later t => exact .refl t
  unfold heardRequest
  split
  · split
    · exact h s
    · exact .refl s
  split
  · exact .refl s
  split
  · exact (quiet_beginRequest _ _ _ s).keepsEntries.trans ((ha _).trans (hd _ _))
  · exact (quiet_portBusy e code s).keepsEntries

theorem keepsEntries_coreEvent {f : State → State} (h : ∀ s, KeepsEntries s (f s)) {s t : State}
    (ht : coreEvent f s = .next t) : KeepsEntries s t := by
  unfold coreEvent at ht
  cases ht
  split
  · exact (h s).trans (quiet_settle _ _).keepsEntries
  · exact .refl s

theorem keepsEntries_request {e : Envelope} {code : Byte} {allowed broadcastOk : Bool} {len : Nat} {body : State → Answer}
    (h : KeepsBody body) {s t : State} (ht : request e code allowed broadcastOk len body s = .next t) : KeepsEntries s t :=
  keepsEntries_coreEvent (keepsEntries_heardRequest h) ht

theorem keepsEntries_resetPair {e : Envelope} {s t : State} (ht : execResetPair e s = .next t) : KeepsEntries s t := by
  unfold execResetPair at ht
  cases hr : request e 42 (serviceOnly e) false 0 resetPairBody s with
  | next u =>
    rw [hr] at ht
    cases ht
    have hk := keepsEntries_request keepsBody_resetPair hr
    split
    · exact hk.trans (quiet_zeroSerials u).keepsEntries
    · exact hk
  | fault r => rw [hr] at ht; cases ht
  | refused r => rw [hr] at ht; cases ht

/-- A command keeps the entries: the calm ones leave the sheets alone, and each of the others as shown above. -/
theorem keepsEntries_exec {c : Instr} {s t : State} (ht : exec c s = .next t) : KeepsEntries s t := by
  have calmReq : ∀ {e code allowed broadcastOk len body}, CalmBody body →
      request e code allowed broadcastOk len body s = .next t → KeepsEntries s t := fun h =>
    keepsEntries_request h.keepsBody
  have quietEvent : ∀ {f : State → State}, (∀ s, Quiet s (f s)) → coreEvent f s = .next t → KeepsEntries s t := fun h =>
    keepsEntries_coreEvent fun u => (h u).keepsEntries
  have calmEvent : ∀ {f : State → State}, (∀ s, Calm s (f s)) → coreEvent f s = .next t → KeepsEntries s t := fun h =>
    keepsEntries_coreEvent fun u => (h u).keepsEntries
  have always : ∀ {f : State → State}, (∀ s, KeepsEntries s (f s)) →
      Host.Outcome.next (f s) = (.next t : Host.Outcome State Fault Refusal) → KeepsEntries s t := fun {f} h hx => by
    cases hx; exact h s
  cases c with
  | openLane e lane mode credit warn =>
    exact keepsEntries_request (keepsBody_withLane (keepsBody_open mode credit warn) lane) ht
  | closeLane e lane => exact keepsEntries_request (keepsBody_withLane keepsBody_close lane) ht
  | pauseLane e lane => exact calmReq (calmBody_withLane calmBody_pause lane) ht
  | resumeLane e lane => exact calmReq (calmBody_withLane (calmBody_resume _) lane) ht
  | addCredit e lane amount => exact calmReq (calmBody_withLane (calmBody_addCredit amount) lane) ht
  | addTime e lane amount => exact calmReq (calmBody_withLane (calmBody_addTime amount) lane) ht
  | readAccount e lane => exact calmReq (calmBody_withLane (fun _ => calmBody_read _ _) lane) ht
  | readSession e lane => exact calmReq (calmBody_withLane calmBody_readSession lane) ht
  | startGame e lane games => exact keepsEntries_request (keepsBody_withLane (keepsBody_start games) lane) ht
  | bowlerReady e lane => exact calmReq (calmBody_withLane calmBody_bowlerReady lane) ht
  | foulDetect e lane enable => exact calmReq (calmBody_withLane (calmBody_foulDetect enable) lane) ht
  | resetDeck e lane => exact calmReq (calmBody_withLane calmBody_resetDeck lane) ht
  | addBowler e squad name handicap blind =>
    exact keepsEntries_request (keepsBody_withRoster (keepsBody_addBowler name handicap blind) squad _) ht
  | removeBowler e squad slot => exact keepsEntries_request (keepsBody_withRoster (keepsBody_removeBowler _) squad _) ht
  | moveBowler e squad slot newSlot =>
    exact keepsEntries_request (keepsBody_withRoster (keepsBody_moveBowler _ _) squad _) ht
  | markAbsent e squad slot blind =>
    exact keepsEntries_request (keepsBody_withRoster (keepsBody_markAbsent _ blind) squad _) ht
  | markPresent e squad slot => exact keepsEntries_request (keepsBody_withRoster (keepsBody_markPresent _) squad _) ht
  | setHandicap e squad slot handicap =>
    exact keepsEntries_request (keepsBody_withRoster (keepsBody_setHandicap _ handicap) squad _) ht
  | readSheet e lane part => exact calmReq (calmBody_withLane (calmBody_readSheet _) lane) ht
  | correctBall e squad c => exact keepsEntries_request (keepsBody_correct e.port squad c) ht
  | enterBall e lane leave foul =>
    exact keepsEntries_request (keepsBody_withLane (keepsBody_enterBall leave foul) lane) ht
  | setPairMode e mode => exact keepsEntries_request (keepsBody_pairMode mode) ht
  | splitPair e => exact keepsEntries_request keepsBody_split ht
  | splitPairForce e => exact keepsEntries_request keepsBody_splitForce ht
  | rateSet e entry value => exact calmReq (calmBody_rateSet entry value) ht
  | rateClear e entry => exact calmReq (calmBody_rateClear entry) ht
  | rateStore e entry value key => exact keepsEntries_request (keepsBody_rateStore entry value key) ht
  | rateReadWorking e => exact calmReq (calmBody_withSelector (calmBody_read _ _) e.stray) ht
  | rateReadStored e => exact calmReq calmBody_readStored ht
  | clockSet e weekday hour minute second => exact calmReq (calmBody_clockSet weekday hour minute second) ht
  | clockRead e => exact calmReq (calmBody_read _ _) ht
  | clearFault e lane => exact calmReq (calmBody_withLane calmBody_clearFault lane) ht
  | readMachine e lane => exact calmReq (calmBody_withLane (fun _ => calmBody_read _ _) lane) ht
  | setTiming e lanes settings => exact calmReq (calmBody_setTiming lanes settings) ht
  | setMachineOff e lane => exact calmReq (calmBody_withLane calmBody_setOff lane) ht
  | setMachineOn e lane =>
    exact calmReq (calmBody_withSelector (calmBody_withLane calmBody_setOn lane.field) lane.stray) ht
  | testCycle e lane => exact calmReq (calmBody_withLane calmBody_testCycle lane) ht
  | clearCounters e lane => exact calmReq (calmBody_withLane calmBody_clearCounters lane) ht
  | setMaintInterval e lane interval => exact calmReq (calmBody_withLane (calmBody_setInterval interval) lane) ht
  | maintDone e lane => exact calmReq (calmBody_withLane calmBody_maintDone lane) ht
  | clearReturn e => exact calmReq calmBody_clearReturn ht
  | setReturn e power limit => exact calmReq (calmBody_setReturn power limit) ht
  | readReturn e clearStray clearJam => exact calmReq (calmBody_readReturn clearStray clearJam) ht
  | readSupply e clear => exact calmReq (calmBody_readSupply clear) ht
  | resetPair e => exact keepsEntries_resetPair ht
  | readNotices e => exact calmReq (calmBody_read _ _) ht
  | ackNotices e notices => exact calmReq (calmBody_ackNotices e.port notices) ht
  | setNoticeMask e mask mode => exact calmReq (calmBody_setMask e.port mask mode) ht
  | frameDiscard port bytes => exact always .refl ht
  | interByteTimeout port bytes => exact always .refl ht
  | consoleBytesUnderHold => exact quietEvent quiet_bytesUnderHold ht
  | selectRise => exact quietEvent quiet_takeSelectRise ht
  | replyTurnaround port => exact quietEvent (quiet_takeTurnaround port) ht
  | replySent port => exact quietEvent (quiet_takeReplySent port) ht
  | warm lane => exact calmEvent (calm_takeWarm lane) ht
  | deck lane leave => exact keepsEntries_coreEvent (keepsEntries_takeDeck lane leave) ht
  | respotPoint lane => exact quietEvent (quiet_takeRespot lane) ht
  | cycleDone lane => exact keepsEntries_coreEvent (keepsEntries_takeCycleDone lane) ht
  | machineFault lane code => exact calmEvent (calm_takeMachineFault lane code) ht
  | ballDetection lane => exact quietEvent (quiet_takeDetection lane) ht
  | foulEvent lane => exact quietEvent (quiet_takeFoul lane) ht
  | pitExit lane => exact quietEvent (quiet_takePitExit lane) ht
  | arrival => exact quietEvent quiet_takeArrival ht
  | keyRelease => exact quietEvent quiet_takeKeyRelease ht
  | programmingComplete => exact keepsEntries_coreEvent keepsEntries_takeCompletion ht
  | settleExpiry lane => exact quietEvent (quiet_takeSettle lane) ht
  | deckLimitExpiry lane => exact quietEvent (quiet_takeDeckLimit lane) ht
  | cycleWatchdogExpiry lane => exact calmEvent (calm_takeWatchdog lane) ht
  | warmUpExpiry lane => exact calmEvent (calm_takeWarmUp lane) ht
  | idleStandbyExpiry lane => exact quietEvent (quiet_takeIdle lane) ht
  | runOnExpiry => exact quietEvent quiet_takeRunOn ht
  | transitExpiry => exact quietEvent quiet_takeTransit ht
  | reversePhaseEnd => exact quietEvent quiet_takeReverseEnd ht
  | forwardPhaseEnd => exact quietEvent quiet_takeForwardEnd ht
  | runningSecond lane => exact quietEvent (quiet_runSecond lane) ht
  | pulseEnd port => exact quietEvent (quiet_modPort port _) ht
  | clockSecond => exact always (fun s => (quiet_takeClockSecond s).keepsEntries) ht
  | crystalStop => exact always (fun s => (quiet_takeCrystalStop s).keepsEntries) ht
  | crystalRestart => exact always (fun s => (quiet_clock _ s).keepsEntries) ht
  | mainFailure => exact always keepsEntries_takeMainFailure ht
  | mainReturn => exact always keepsEntries_takeMainReturn ht
  | retentionLoss => exact always keepsEntries_takeRetentionLoss ht
  | batteryLowSet => exact always (fun s => (quiet_takeBatteryLow s).keepsEntries) ht
  | batteryLowClear => exact always (fun s => (quiet_batteryLow false s).keepsEntries) ht
  | externalResetAssert => exact always (fun s => (quiet_takeResetAssert s).keepsEntries) ht
  | externalResetRelease => exact always keepsEntries_takeResetRelease ht
  | unknownRequestCode e code => exact calmReq (calmBody_read _ _) ht

/-- A step keeps the entries: the command at the front, or on an empty queue a tick. -/
theorem keepsEntries_step {s t : State} (ht : step s = .next t) : KeepsEntries s t := by
  unfold step at ht
  split at ht
  next c rest _ =>
    have hq : KeepsEntries s { s with pending := rest } := .of_squads fun _ => rfl
    exact hq.trans (keepsEntries_exec ht)
  next =>
    cases ht
    exact (quiet_idleTick s).keepsEntries

/-- Settles O16: every entry is recorded, corrected or replayed with a leave within the one it faced, and with the count
derived from the two. -/
theorem stepKeepsEntriesSound : Obligations.StepKeepsEntriesSound := by
  unfold Obligations.StepKeepsEntriesSound
  exact fun s t hs ht => keepsEntries_step ht hs

end Sys2Proof.Machine

namespace Sys2Proof.Machine

/-! ### A ball recorded, written out (R28 to R30, R40, R86) -/

section
variable {l : Lane} {s t : State} {n : Nat} {b : Bowler} {leave : Leave} {foul : Bool} {source : Source}

/-- The fields of a recorded entry: the clamp, the derived count and marks, and whether the clamp dropped a pin (R29). -/
theorem recordedEntry_eq (v : Squad) (faced leave : Leave) (foul : Bool) (source : Source) :
    recordedEntry v faced leave foul source =
      { count := if foul then 0 else leaveSize faced - leaveSize (leave &&& faced), faced := faced, after := leave &&& faced,
        foul := foul, split := splitMark v.round v.ball faced (leave &&& faced) foul, source := source,
        mismatch := decide (leave &&& faced ≠ leave) } := by
  simp [recordedEntry, makeEntry, ballCount, leaveWithin, Bool.beq_eq_decide_eq]

/-- A clamped sensed ball raises the mismatch counter, as one write of the lane (R29, R161). -/
theorem countMismatch_eq (l : Lane) (e : BallEntry) (s : State) :
    countMismatch l e s = if e.source = .sensed ∧ e.mismatch = true then
        s.setLane l { s.lane l with sup := { s.sup l with counters := { (s.sup l).counters with
          mismatch := (s.sup l).counters.mismatch.raise } } }
      else s := by
  unfold countMismatch
  split
  · simp [modCounters, modSup_eq]
  · rfl

theorem Counter.raise_eq (c : Counter) :
    c.raise = { value := min 255 (c.value + 1), full := c.full || decide (254 ≤ c.value) } := by
  simp [Counter.raise]

/-- The mismatch counter leaves squads, and which squad is current, alone. -/
theorem countMismatch_lane_squad (l : Lane) (e : BallEntry) (s : State) :
    ((countMismatch l e s).lane l).squad = (s.lane l).squad := by
  rw [countMismatch_eq]
  split <;> simp

theorem countMismatch_squad (l : Lane) (e : BallEntry) (s : State) (q : SquadId) :
    (countMismatch l e s).squad q = s.squad q := by
  rw [countMismatch_eq]
  split <;> simp

/-- A round stays open exactly when some ACTIVE bowler lacks its frame (R20). -/
theorem isSome_firstLacking_iff {k : Nat} {order : List Bowler} :
    (firstLacking k order).isSome = true ↔ ∃ x ∈ order, x.status = .active ∧ frameComplete x.sheet k = false := by
  constructor
  · intro h
    obtain ⟨i, hi⟩ := Option.isSome_iff_exists.mp h
    obtain ⟨x, hx, ha, hc⟩ := firstLacking_eq_some hi
    exact ⟨x, mem_of_bowlerAt hx, ha, hc⟩
  · rintro ⟨x, hx, ha, hc⟩
    by_contra h
    rw [firstLacking_eq_none (by simpa using h) hx ha] at hc
    cases hc

/-- The state of a record before rotation: the ball on the bowler's sheet, and the mismatch counted (R28, R29). -/
def ballOnSheet (l : Lane) (n : Nat) (b : Bowler) (leave : Leave) (foul : Bool) (source : Source) (s : State) : State :=
  let e := recordedEntry (s.squadOn l) (s.sup l).nextDeck leave foul source
  countMismatch l e (withBowler (s.lane l).squad n (bowlerWithBall (s.squadOn l).round e b) s)

/-- The balls of the frame in play after a record. -/
def ballsAfter (l : Lane) (b : Bowler) (leave : Leave) (foul : Bool) (source : Source) (s : State) : List BallEntry :=
  let v := s.squadOn l
  (frameAt (bowlerWithBall v.round (recordedEntry v (s.sup l).nextDeck leave foul source) b).sheet v.round).balls

theorem currentBowler_of_slot {v : Squad} (hn : v.slot = some n) (hb : bowlerAt v.order n = some b) :
    v.currentBowler = some b := Squad.currentBowler_eq_some.mpr ⟨n, hn, hb⟩

/-- A record that leaves the frame in play open (R28). -/
theorem recordBall_of_open (hn : (s.squadOn l).slot = some n) (hb : bowlerAt (s.squadOn l).order n = some b)
    (hc : ballsComplete (s.squadOn l).round (ballsAfter l b leave foul source s) = false)
    (ht : t = ballOnSheet l n b leave foul source s) :
    recordBall l leave foul source s =
      (raiseLane .ball l (modSquad (s.lane l).squad (fun v => { v with ball := v.ball + 1 })
        (modLane l (LaneRec.facedWith (nextLeave (s.squadOn l).round (ballsAfter l b leave foul source s))) t)),
        { after := leave &&& (s.sup l).nextDeck, sameFrame := true }) := by
  subst ht
  have hcur := currentBowler_of_slot hn hb
  unfold State.squadOn at hn hb hc hcur ⊢
  unfold recordBall
  dsimp only
  rw [hn, hcur]
  dsimp only
  refine (if_neg (by rw [← Bool.not_eq_true] at hc; exact hc)).trans ?_
  rw [writeNextDeck_modSquad_setReopen]
  rfl

/-- A record that completes the frame in play (R28, R86). -/
theorem recordBall_of_complete (hn : (s.squadOn l).slot = some n) (hb : bowlerAt (s.squadOn l).order n = some b)
    (hc : ballsComplete (s.squadOn l).round (ballsAfter l b leave foul source s) = true)
    (ht : t = ballOnSheet l n b leave foul source s) :
    recordBall l leave foul source s =
      (raiseLane .ball l (chooseNext (s.lane l).squad l (setReopen l
        (markAfterStrike (s.lane l).squad n (s.squadOn l).round (firstIsStrike (ballsAfter l b leave foul source s))
          (firstLacking (s.squadOn l).round (t.squad (s.lane l).squad).order).isSome) t)),
        { after := leave &&& (s.sup l).nextDeck, sameFrame := false }) := by
  subst ht
  have hcur := currentBowler_of_slot hn hb
  unfold State.squadOn at hn hb hc hcur ⊢
  unfold recordBall
  dsimp only
  rw [hn, hcur]
  exact if_pos hc

end

/-- Settles O22, by whether the ball completes the frame. -/
theorem ballRecorded : Obligations.BallRecorded := by
  unfold Obligations.BallRecorded
  intro l leave foul src s q n hn b hb faced after e scored balls t0 c t
  have he : recordedEntry (s.squadOn l) (s.sup l).nextDeck leave foul src = e := recordedEntry_eq q faced leave foul src
  have hballs : ballsAfter l b leave foul src s = balls := by
    dsimp only [ballsAfter, bowlerWithBall]
    rw [he]
  have ht : t = ballOnSheet l n b leave foul src s := by
    dsimp only [ballOnSheet]
    rw [he, countMismatch_eq]
    exact if_congr (by simp [e]) (by rw [Counter.raise_eq]; rfl) rfl
  clear_value t
  have hon : t.squadOn l = t.squad (s.lane l).squad := by
    rw [State.squadOn, ht, ballOnSheet, countMismatch_lane_squad]; rfl
  have hball : (t.squad (s.lane l).squad).ball = q.ball := by
    rw [ht, ballOnSheet, countMismatch_squad, withBowler_squad]; rfl
  rw [hon]
  refine ⟨fun hc => ?_, fun hc => ?_⟩
  · rw [recordBall_of_open hn hb (hballs ▸ hc) ht, hballs, ← hball]
    rfl
  · rw [recordBall_of_complete hn hb (hballs ▸ hc) ht, hballs]
    refine congrArg (fun x => (raiseNotice _ _ (chooseNext _ _ (t.setLane l { t.lane l with reopen := x })), _)) ?_
    exact if_congr (and_congr_right fun _ => and_congr_right fun _ => isSome_firstLacking_iff) rfl rfl

end Sys2Proof.Machine

namespace Sys2Proof.Machine

/-! ### The score marks (R41) -/

theorem frameMarks_length (tenth first : Bool) (balls : List BallEntry) :
    (frameMarks tenth first balls).length = balls.length := by
  induction balls generalizing first with
  | nil => rfl
  | cons e rest ih => simp [frameMarks, ih]

/-- Whether ball `i` of a frame's marks is first at its rack: the frame's own first ball by `first`, and in frame 10 a ball
behind X or /. -/
def firstAtRack (tenth first : Bool) (marks : List Byte) (i : Nat) : Bool :=
  if i = 0 then first else tenth && (marks[i - 1]? == some markX || marks[i - 1]? == some markSpare)

/-- Each mark is that of its ball, by whether the ball is first at its rack. -/
theorem frameMarks_getElem? {tenth : Bool} {balls : List BallEntry} {i : Nat} {e : BallEntry} (first : Bool)
    (he : balls[i]? = some e) :
    (frameMarks tenth first balls)[i]? =
      some (ballMark (firstAtRack tenth first (frameMarks tenth first balls) i) e) := by
  induction balls generalizing first i with
  | nil => simp at he
  | cons b rest ih =>
    cases i with
    | zero => cases he; rfl
    | succ i =>
      have hrest := ih (tenth && (ballMark first b == markX || ballMark first b == markSpare)) he
      refine hrest.trans (congrArg (fun f => some (ballMark f e)) ?_)
      cases i with
      | zero => simp [firstAtRack, frameMarks]
      | succ i => simp [firstAtRack, frameMarks]

section
variable {first : Bool} {e : BallEntry}

theorem ballMark_of_foul (h : e.foul = true) : ballMark first e = markFoul := by simp [ballMark, h]

theorem ballMark_of_strike (hf : e.foul = false) (hc : e.count = 10) (h : first = true) : ballMark first e = markX := by
  simp [ballMark, hf, hc, h]

theorem ballMark_of_cleared (hf : e.foul = false) (h : ¬first = true) (hc : e.after = clearDeck) :
    ballMark first e = markSpare := by
  simp [ballMark, hf, h, hc]

/-- Every other ball that is not a foul is marked by its count. -/
theorem ballMark_of_count (hf : e.foul = false) (hx : ¬(e.count = 10 ∧ first = true))
    (hs : ¬(¬first = true ∧ e.after = clearDeck)) :
    ballMark first e = if e.count = 0 then markMiss else BitVec.ofNat 8 (0x30 + e.count) := by
  have hx' : ¬(e.count == 10 && first) = true := by simpa using hx
  have hs' : ¬(e.after == clearDeck && !first) = true := by
    simpa [and_comm] using hs
  rw [ballMark, if_neg (by simp [hf]), if_neg hx', if_neg hs']
  simp only [beq_iff_eq]

end

/-- Settles O27: each mark is that of its ball at its rack, and the rule's lines are the cases of `ballMark`. -/
theorem scoreMarks : Obligations.ScoreMarks := by
  unfold Obligations.ScoreMarks
  intro k balls _
  refine ⟨frameMarks_length _ _ _, ?_⟩
  intro i e m he hm first
  have hfirst : firstAtRack (k == 10) true (marksOf k balls) i = true ↔ first := by
    by_cases hi : i = 0
    · simp [firstAtRack, first, hi]
    · simp [firstAtRack, first, hi, markX, markSpare]
  obtain rfl : ballMark (firstAtRack (k == 10) true (marksOf k balls) i) e = m :=
    Option.some.inj ((frameMarks_getElem? true he).symm.trans hm)
  simp only [← hfirst]
  refine ⟨ballMark_of_foul, ballMark_of_strike, ballMark_of_cleared, fun hf hx hs h0 => ?_, fun hf hx hs h0 => ?_⟩
  · rw [ballMark_of_count hf hx hs, if_pos h0]; rfl
  · rw [ballMark_of_count hf hx hs, if_neg h0]

end Sys2Proof.Machine

namespace Sys2Proof.Machine

/-! ### Adjacent pins (R39) -/

section
variable {i j : Nat}

theorem Adjacent.lt (h : Safety.Adjacent i j) : i < 10 ∧ j < 10 := by
  unfold Safety.Adjacent at h
  refine (?_ : ∀ p ∈ _, p.1 < 10 ∧ p.2 < 10) (i, j) h
  decide

/-- R39's table, as the model holds it. -/
theorem getLsbD_adjacentPins (i j : Nat) : (adjacentPins i).getLsbD j = true ↔ Safety.Adjacent i j := by
  have table : ∀ i < 10, ∀ j < 10, (adjacentPins i).getLsbD j = true ↔ Safety.Adjacent i j := by
    unfold Safety.Adjacent; decide
  refine ⟨fun h => (table i ?_ j (BitVec.lt_of_getLsbD h)).mp h, fun h => (table i (Adjacent.lt h).1 j (Adjacent.lt h).2).mpr h⟩
  by_contra hi
  obtain ⟨n, rfl⟩ := Nat.exists_eq_add_of_le (not_lt.mp hi)
  simp [adjacentPins, Nat.add_comm 10 n] at h

theorem Adjacent.symm (h : Safety.Adjacent i j) : Safety.Adjacent j i := by
  have table : ∀ i < 10, ∀ j < 10, (adjacentPins i).getLsbD j = (adjacentPins j).getLsbD i := by decide
  obtain ⟨hi, hj⟩ := Adjacent.lt h
  rw [← getLsbD_adjacentPins] at h ⊢
  rwa [table j hj i hi]

end

/-! ### The pins of a leave -/

/-- The pin indices of a leave. -/
def leavePins (l : Leave) : Finset Nat := (Finset.range 10).filter fun i => l.getLsbD i = true

@[simp] theorem mem_leavePins {l : Leave} {i : Nat} : i ∈ leavePins l ↔ l.getLsbD i = true := by
  simp only [leavePins, Finset.mem_filter, Finset.mem_range, and_iff_right_iff_imp]
  exact BitVec.lt_of_getLsbD

theorem leaveSize_eq_card (l : Leave) : leaveSize l = (leavePins l).card := by
  unfold leaveSize pinIndices leavePins
  rw [show (fun i => l.getLsbD i) = fun i => decide (l.getLsbD i = true) by simp, ← Multiset.coe_countP,
    Multiset.countP_eq_card_filter]
  rfl

/-- A leave of two pins or more. -/
theorem two_le_leaveSize_iff (l : Leave) :
    2 ≤ leaveSize l ↔ ∃ i j, i ≠ j ∧ l.getLsbD i = true ∧ l.getLsbD j = true := by
  rw [leaveSize_eq_card]
  refine Finset.one_lt_card_iff.trans ?_
  simp only [mem_leavePins]
  exact exists₂_congr fun i j => by tauto

theorem leavePins_subset_iff {x y : Leave} : leavePins x ⊆ leavePins y ↔ leaveWithin x y = true := by
  simp only [leaveWithin_iff, Finset.subset_iff, mem_leavePins]

theorem leave_eq_of_within {x y : Leave} (h : leaveWithin x y = true) (k : leaveWithin y x = true) : x = y :=
  BitVec.eq_of_getLsbD_eq fun i _ => Bool.eq_iff_iff.mpr ⟨leaveWithin_iff.mp h i, leaveWithin_iff.mp k i⟩

/-- The lowest-numbered pin stands, and no pin below it does. -/
theorem getLsbD_lowestPin (l : Leave) (i : Nat) :
    (lowestPin l).getLsbD i = true ↔ l.getLsbD i = true ∧ ∀ j < i, l.getLsbD j = false := by
  unfold lowestPin
  rw [BitVec.getLsbD_and, BitVec.getLsbD_neg, Bool.and_eq_true]
  refine and_congr_right fun hi => ?_
  simp only [hi, decide_eq_true (BitVec.lt_of_getLsbD hi), Bool.true_and, Bool.true_xor, Bool.not_eq_true',
    decide_eq_false_iff_not, not_exists, not_and, Bool.not_eq_true]

/-! ### The reach inside a leave (R39) -/

section
variable {l r : Leave}

theorem getLsbD_foldl_adjacent (is : List Nat) (r acc : Leave) (j : Nat) :
    (is.foldl (fun acc i => if r.getLsbD i then acc ||| adjacentPins i else acc) acc).getLsbD j = true ↔
      acc.getLsbD j = true ∨ ∃ i ∈ is, r.getLsbD i = true ∧ Safety.Adjacent i j := by
  induction is generalizing acc with
  | nil => simp
  | cons i rest ih =>
    rw [List.foldl_cons, ih]
    cases hi : r.getLsbD i <;> simp [hi, getLsbD_adjacentPins, or_assoc]

/-- One step of the reach: the pins of the leave that are reached, or adjacent to one that is. -/
theorem getLsbD_reachStep (l r : Leave) (j : Nat) :
    (reachStep l r).getLsbD j = true ↔
      (r.getLsbD j = true ∨ ∃ i, r.getLsbD i = true ∧ Safety.Adjacent i j) ∧ l.getLsbD j = true := by
  unfold reachStep pinIndices
  rw [BitVec.getLsbD_and, Bool.and_eq_true, getLsbD_foldl_adjacent]
  refine and_congr_left fun _ => or_congr_right (exists_congr fun i => ?_)
  simp only [List.mem_range, and_iff_right_iff_imp]
  exact fun h => BitVec.lt_of_getLsbD h.1

theorem leaveWithin_reachStep (h : leaveWithin r l = true) : leaveWithin r (reachStep l r) = true :=
  leaveWithin_iff.mpr fun i hi => (getLsbD_reachStep l r i).mpr ⟨.inl hi, leaveWithin_iff.mp h i hi⟩

theorem reachStep_within (l r : Leave) : leaveWithin (reachStep l r) l = true := leaveWithin_and_right _ _

/-- The reach stays inside the leave and keeps what it has reached. -/
theorem reachIn_within (n : Nat) (h : leaveWithin r l = true) :
    leaveWithin (reachIn l n r) l = true ∧ leaveWithin r (reachIn l n r) = true := by
  induction n generalizing r with
  | zero => exact ⟨h, leaveWithin_iff.mpr fun _ => id⟩
  | succ n ih =>
    obtain ⟨hl, hr⟩ := ih (reachStep_within l r)
    exact ⟨hl, leaveWithin_trans (leaveWithin_reachStep h) hr⟩

/-- What holds of the pins at the start, and passes along a step inside the leave, holds of every pin reached. -/
theorem reachIn_induction {P : Nat → Prop} (hP : ∀ i j, P i → Safety.Adjacent i j → l.getLsbD j = true → P j) (n : Nat)
    (hr : ∀ i, r.getLsbD i = true → P i) : ∀ j, (reachIn l n r).getLsbD j = true → P j := by
  induction n generalizing r with
  | zero => exact hr
  | succ n ih =>
    refine ih fun j hj => ?_
    obtain ⟨hj | ⟨i, hi, ha⟩, hl⟩ := (getLsbD_reachStep l r j).mp hj
    · exact hr j hj
    · exact hP i j (hr i hi) ha hl

theorem reachIn_of_closed (h : reachStep l r = r) (n : Nat) : reachIn l n r = r := by
  induction n with
  | zero => rfl
  | succ n ih => rw [reachIn, h, ih]

/-- The reach gains a pin at each step until it is closed. -/
theorem reachIn_closed_or_grown (n : Nat) (h : leaveWithin r l = true) :
    reachStep l (reachIn l n r) = reachIn l n r ∨ (leavePins r).card + n ≤ (leavePins (reachIn l n r)).card := by
  induction n generalizing r with
  | zero => exact .inr le_rfl
  | succ n ih =>
    by_cases hc : reachStep l r = r
    · left; rw [reachIn_of_closed hc, hc]
    · refine (ih (reachStep_within l r)).imp id fun hg => ?_
      have hlt : (leavePins r).card < (leavePins (reachStep l r)).card :=
        Finset.card_lt_card ⟨leavePins_subset_iff.mpr (leaveWithin_reachStep h), fun hs =>
          hc (leave_eq_of_within (leavePins_subset_iff.mp hs) (leaveWithin_reachStep h))⟩
      rw [reachIn]
      omega

/-- Nine steps from any pin close the reach. -/
theorem reachIn_nine_closed (h : leaveWithin r l = true) {i : Nat} (hi : r.getLsbD i = true) :
    reachStep l (reachIn l 9 r) = reachIn l 9 r := by
  refine (reachIn_closed_or_grown 9 h).elim id fun hg => ?_
  have hone : 1 ≤ (leavePins r).card := Finset.card_pos.mpr ⟨i, mem_leavePins.mpr hi⟩
  have hall : leavePins (reachIn l 9 r) = Finset.range 10 :=
    Finset.eq_of_subset_of_card_le (Finset.filter_subset _ _) (by rw [Finset.card_range]; omega)
  refine leave_eq_of_within (leavePins_subset_iff.mp ?_) (leaveWithin_reachStep (reachIn_within 9 h).1)
  rw [hall]
  exact Finset.filter_subset _ _

/-- A closed reach holds every pin that steps inside the leave lead to. -/
theorem mem_of_closed (hc : reachStep l r = r) {i j : Nat} (hi : r.getLsbD i = true)
    (h : Relation.ReflTransGen (fun x y => Safety.Adjacent x y ∧ l.getLsbD y = true) i j) : r.getLsbD j = true := by
  induction h with
  | refl => exact hi
  | tail _ hstep ih =>
    rw [← hc]
    exact (getLsbD_reachStep l r _).mpr ⟨.inr ⟨_, ih, hstep.1⟩, hstep.2⟩

/-- Steps inside a leave lead back. -/
theorem reflTransGen_symm {i j : Nat} (hi : l.getLsbD i = true)
    (h : Relation.ReflTransGen (fun x y => Safety.Adjacent x y ∧ l.getLsbD y = true) i j) :
    l.getLsbD j = true ∧ Relation.ReflTransGen (fun x y => Safety.Adjacent x y ∧ l.getLsbD y = true) j i := by
  induction h with
  | refl => exact ⟨hi, .refl⟩
  | tail _ hstep ih => exact ⟨hstep.2, .head ⟨Adjacent.symm hstep.1, ih.1⟩ ih.2⟩

/-- Every leave with a pin has a lowest one. -/
theorem exists_lowestPin {j : Nat} (hj : l.getLsbD j = true) :
    ∃ i, l.getLsbD i = true ∧ ∀ k, (lowestPin l).getLsbD k = true ↔ k = i := by
  have hex : ∃ i, l.getLsbD i = true := ⟨j, hj⟩
  have hmin : ∀ k < Nat.find hex, l.getLsbD k = false := fun k hk => by simpa using Nat.find_min hex hk
  refine ⟨Nat.find hex, Nat.find_spec hex, fun k => ?_⟩
  rw [getLsbD_lowestPin]
  refine ⟨fun ⟨hk, hlow⟩ => ?_, fun hk => hk ▸ ⟨Nat.find_spec hex, hmin⟩⟩
  refine le_antisymm (not_lt.mp fun hlt => ?_) (Nat.find_min' hex hk)
  have hspec := Nat.find_spec hex
  rw [hlow _ hlt] at hspec
  cases hspec

/-- The model's test of connection is R39's condition 5. -/
theorem leaveConnected_iff (l : Leave) : leaveConnected l = true ↔ Safety.Connected l := by
  have hlow : leaveWithin (lowestPin l) l = true := leaveWithin_and_left _ _
  unfold leaveConnected
  rw [beq_iff_eq]
  constructor
  · intro hl i j hi hj
    obtain ⟨m, hm, honly⟩ := exists_lowestPin hi
    have hreach : ∀ x, l.getLsbD x = true →
        Relation.ReflTransGen (fun x y => Safety.Adjacent x y ∧ l.getLsbD y = true) m x := fun x hx =>
      reachIn_induction (fun _ _ hp ha hy => hp.tail ⟨ha, hy⟩) 9 (fun k hk => (honly k).mp hk ▸ .refl) x (hl.symm ▸ hx)
    exact (reflTransGen_symm hm (hreach i hi)).2.trans (hreach j hj)
  · intro hc
    refine leave_eq_of_within (reachIn_within 9 hlow).1 (leaveWithin_iff.mpr fun j hj => ?_)
    obtain ⟨m, hm, honly⟩ := exists_lowestPin hj
    have hml := (honly m).mpr rfl
    exact mem_of_closed (reachIn_nine_closed hlow hml) (leaveWithin_iff.mp (reachIn_within 9 hlow).2 m hml) (hc m j hm hj)

end

/-! ### The split mark and the scores -/

theorem splitMark_iff (k n : Nat) (faced after : Leave) (foul : Bool) :
    splitMark k n faced after foul = true ↔
      ((k ≤ 9 ∧ n = 1) ∨ (k = 10 ∧ faced = fullRack)) ∧ foul = false ∧ after.getLsbD 0 = false ∧
        (∃ i j, i ≠ j ∧ after.getLsbD i = true ∧ after.getLsbD j = true) ∧ ¬Safety.Connected after := by
  rw [← two_le_leaveSize_iff, ← leaveConnected_iff]
  simp only [splitMark, Bool.and_eq_true, Bool.or_eq_true, decide_eq_true_eq, beq_iff_eq, Bool.not_eq_true', and_assoc,
    Bool.not_eq_true]

/-- A frame but for the split marks of its balls. -/
def FrameRec.bare (f : FrameRec) : FrameRec := { f with balls := f.balls.map BallEntry.bare }

theorem map_bare_setFrame (sheet : List FrameRec) (k : Nat) (f : FrameRec) :
    (setFrame sheet k f).map FrameRec.bare = setFrame (sheet.map FrameRec.bare) k f.bare := List.map_set

/-- Which frames become final, and with what totals, does not look at the split marks (R37). -/
theorem map_bare_finalise (k p : Nat) (sheet : List FrameRec) :
    (finalise k p sheet).map FrameRec.bare = finalise k p (sheet.map FrameRec.bare) := by
  induction sheet generalizing k p with
  | nil => rfl
  | cons f rest ih =>
    rw [List.map_cons, finalise, finalise]
    cases hf : f.total with
    | some t => simp [FrameRec.bare, hf, ih]
    | none =>
      cases hd : ballsComplete k f.balls && f.owed == 0 <;> simp [FrameRec.bare, hf, hd, ih]

theorem bare_appendBall (k : Nat) (e : BallEntry) (mark : Bool) (f : FrameRec) :
    (appendBall k { e with split := mark } f).bare = (appendBall k e f).bare := by
  have hb : AlikeBalls (f.balls ++ [{ e with split := mark }]) (f.balls ++ [e]) := by simp [AlikeBalls, BallEntry.bare]
  have hsum : countSum (f.balls ++ [{ e with split := mark }]) = countSum (f.balls ++ [e]) := by simp [countSum]
  have howed : owedWhenComplete k (f.balls ++ [{ e with split := mark }]) = owedWhenComplete k (f.balls ++ [e]) := by
    rw [owedWhenComplete, owedWhenComplete, hb.firstIsStrike, hsum]
  unfold AlikeBalls at hb
  simp only [FrameRec.bare, appendBall, hb, hsum, howed, AlikeBalls.ballsComplete hb]

theorem frameAt_map_bare (sheet : List FrameRec) (k : Nat) :
    frameAt (sheet.map FrameRec.bare) k = (frameAt sheet k).bare := by
  unfold frameAt List.getD
  rw [List.getElem?_map]
  cases sheet[k - 1]? <;> rfl

section
variable (k : Nat) (e : BallEntry) (sheet : List FrameRec) (pending : List Nat) (mark : Bool)

theorem map_bare_takenSheet :
    (takenSheet k { e with split := mark } sheet pending).map FrameRec.bare =
      (takenSheet k e sheet pending).map FrameRec.bare := by
  simp only [takenSheet, map_bare_setFrame, bare_appendBall]

/-- What a record leaves, but for the split marks of the balls, does not depend on the mark of its ball (R39). -/
theorem map_bare_scoreBall :
    (scoreBall k { e with split := mark } sheet pending).1.map FrameRec.bare =
      (scoreBall k e sheet pending).1.map FrameRec.bare := by
  rw [scoreBall_sheet, scoreBall_sheet, map_bare_finalise, map_bare_finalise, map_bare_takenSheet]

theorem scoreBall_pending_split :
    (scoreBall k { e with split := mark } sheet pending).2 = (scoreBall k e sheet pending).2 := by
  have hf := congrArg (frameAt · k) (map_bare_takenSheet k e sheet pending mark)
  simp only [frameAt_map_bare] at hf
  have hb : AlikeBalls _ _ := congrArg FrameRec.balls hf
  have ho : (frameAt (takenSheet k { e with split := mark } sheet pending) k).owed =
      (frameAt (takenSheet k e sheet pending) k).owed := by
    simpa only [FrameRec.bare] using congrArg FrameRec.owed hf
  rw [scoreBall_pending, scoreBall_pending, ho, hb.ballsComplete]

end

/-- Settles O26: the five conditions are those of `splitMark`, with its reach read as connection; and a record looks at its
ball's count, foul flag and leaves alone. -/
theorem splitMarkConditions : Obligations.SplitMark := by
  unfold Obligations.SplitMark
  refine ⟨fun k n faced after foul src mismatch => splitMark_iff k n faced after foul, fun k e sheet pending mark => ?_⟩
  refine ⟨?_, scoreBall_pending_split k e sheet pending mark⟩
  have h := congrArg (List.map fun f : FrameRec => (f.base, f.bonus, f.owed, f.total))
    (map_bare_scoreBall k e sheet pending mark)
  rw [List.map_map, List.map_map] at h
  exact h

end Sys2Proof.Machine

namespace Sys2Proof.Machine

/-! ### The totals of the frames that become final (R37) -/

/-- Every frame of a sheet through place `i`, its first frame numbered `k`, has a total, or is complete and owed nothing. -/
def ReadyThrough (k : Nat) (sheet : List FrameRec) (i : Nat) : Prop :=
  ∀ m ≤ i, (sheet.getD m unbowledFrame).total = none →
    ballsComplete (k + m) (sheet.getD m unbowledFrame).balls = true ∧ (sheet.getD m unbowledFrame).owed = 0

theorem readyThrough_cons_zero (k : Nat) (f : FrameRec) (rest : List FrameRec) :
    ReadyThrough k (f :: rest) 0 ↔ (f.total = none → ballsComplete k f.balls = true ∧ f.owed = 0) := by
  simp [ReadyThrough]

theorem readyThrough_cons_succ (k i : Nat) (f : FrameRec) (rest : List FrameRec) :
    ReadyThrough k (f :: rest) (i + 1) ↔
      (f.total = none → ballsComplete k f.balls = true ∧ f.owed = 0) ∧ ReadyThrough (k + 1) rest i := by
  constructor
  · refine fun h => ⟨h 0 (Nat.zero_le _), fun m hm => ?_⟩
    simpa [Nat.add_assoc, Nat.add_comm 1 m] using h (m + 1) (by omega)
  · rintro ⟨h0, h⟩ (_ | m) hm
    · exact h0
    · simpa [Nat.add_assoc, Nat.add_comm 1 m] using h m (by omega)

section
variable (k p : Nat) (f : FrameRec) (rest : List FrameRec)

theorem finalise_of_total {t : Nat} (h : f.total = some t) : finalise k p (f :: rest) = f :: finalise (k + 1) t rest := by
  rw [finalise, h]

theorem finalise_of_done (h : f.total = none) (hd : ballsComplete k f.balls = true ∧ f.owed = 0) :
    finalise k p (f :: rest) =
      { f with total := some (p + f.base + f.bonus) } :: finalise (k + 1) (p + f.base + f.bonus) rest := by
  rw [finalise, h]
  exact if_pos (by simp [hd])

theorem finalise_of_open (h : f.total = none) (hd : ¬(ballsComplete k f.balls = true ∧ f.owed = 0)) :
    finalise k p (f :: rest) = f :: rest := by
  rw [finalise, h]
  exact if_neg (by simpa using hd)

end

/-- What finalising makes of the total at place `i`: a total stays; without one the frame gets its own base and bonus on top
of the total before it, if every frame through it is ready. -/
def TotalFinalised (k p : Nat) (sheet : List FrameRec) (i : Nat) : Prop :=
  let f := sheet.getD i unbowledFrame
  let final := finalise k p sheet
  let previous := if i = 0 then p else ((final.getD (i - 1) unbowledFrame).total).getD 0
  (∀ n, f.total = some n → (final.getD i unbowledFrame).total = some n) ∧
  (f.total = none → ReadyThrough k sheet i →
    (final.getD i unbowledFrame).total = some (previous + f.base + f.bonus)) ∧
  (f.total = none → ¬ReadyThrough k sheet i → (final.getD i unbowledFrame).total = none)

/-- A frame behind one whose total `t` has been passed on. -/
theorem TotalFinalised.cons {k p i t : Nat} {f g : FrameRec} {rest : List FrameRec} (h : TotalFinalised (k + 1) t rest i)
    (hg : g.total = some t) (hf : f.total = none → ballsComplete k f.balls = true ∧ f.owed = 0)
    (hfin : finalise k p (f :: rest) = g :: finalise (k + 1) t rest) : TotalFinalised k p (f :: rest) (i + 1) := by
  obtain ⟨hkeep, hready, hopen⟩ := h
  unfold TotalFinalised
  rw [hfin, readyThrough_cons_succ]
  refine ⟨hkeep, fun hn hr => (hready hn hr.2).trans ?_, fun hn hr => hopen hn fun hr' => hr ⟨hf, hr'⟩⟩
  cases i <;> simp [hg]

theorem totalFinalised (k p : Nat) (sheet : List FrameRec) (i : Nat) : TotalFinalised k p sheet i := by
  induction sheet generalizing k p i with
  | nil =>
    refine ⟨fun n hn => by simp [unbowledFrame] at hn, fun _ hr => ?_, fun _ _ => rfl⟩
    simpa [unbowledFrame] using (hr i le_rfl rfl).1
  | cons f rest ih =>
    cases hf : f.total with
    | some t =>
      cases i with
      | zero => simp [TotalFinalised, finalise_of_total k p f rest hf, hf]
      | succ i => exact (ih (k + 1) t i).cons hf (by simp [hf]) (finalise_of_total k p f rest hf)
    | none =>
      by_cases hd : ballsComplete k f.balls = true ∧ f.owed = 0
      · cases i with
        | zero => simp [TotalFinalised, finalise_of_done k p f rest hf hd, readyThrough_cons_zero, hf, hd]
        | succ i => exact (ih (k + 1) _ i).cons rfl (fun _ => hd) (finalise_of_done k p f rest hf hd)
      · have hnot : ¬ReadyThrough k (f :: rest) i := fun hr => hd (hr 0 (Nat.zero_le i) hf)
        unfold TotalFinalised
        rw [finalise_of_open k p f rest hf hd]
        exact ⟨fun _ => id, fun _ hr => absurd hr hnot, fun hn _ => hn⟩

end Sys2Proof.Machine

namespace Sys2Proof.Machine

/-! ### A record, frame by frame (R28, R36, R37, R38) -/

theorem readyThrough_iff (sheet : List FrameRec) {j : Nat} (hj : 1 ≤ j) :
    ReadyThrough 1 sheet (j - 1) ↔ ∀ i, 1 ≤ i → i ≤ j → (frameAt sheet i).total = none →
      frameComplete sheet i = true ∧ (frameAt sheet i).owed = 0 := by
  constructor
  · intro h i hi hij
    have := h (i - 1) (by omega)
    rwa [show 1 + (i - 1) = i by omega] at this
  · intro h m hm
    rw [Nat.add_comm 1 m]
    exact h (m + 1) (by omega) (by omega)

/-- A frame of a sheet that becomes final, but for its total. -/
theorem frameAt_finalise_eq {sheet : List FrameRec} {j : Nat} (hj : 1 ≤ j) :
    frameAt (finalise 1 0 sheet) j = { frameAt sheet j with total := (frameAt (finalise 1 0 sheet) j).total } := by
  obtain ⟨t, ht, -⟩ := frameAt_finalise (sheet := sheet) hj
  rw [ht]

/-- The total of frame `j` of a sheet that becomes final, from the total of the frame before it (R37). -/
theorem total_finalise (sheet : List FrameRec) {j : Nat} (hj : 1 ≤ j) :
    let final := finalise 1 0 sheet
    (frameAt final j).total =
      match (frameAt sheet j).total with
      | some n => some n
      | none =>
          if (∀ i, 1 ≤ i → i ≤ j → (frameAt sheet i).total = none →
              frameComplete sheet i = true ∧ (frameAt sheet i).owed = 0) then
            some ((if j = 1 then 0 else ((frameAt final (j - 1)).total).getD 0) + (frameAt sheet j).base +
              (frameAt sheet j).bonus)
          else none := by
  obtain ⟨hkeep, hready, hopen⟩ := totalFinalised 1 0 sheet (j - 1)
  rw [readyThrough_iff sheet hj] at hready hopen
  have hprev : (if j = 1 then 0 else ((frameAt (finalise 1 0 sheet) (j - 1)).total).getD 0) =
      if j - 1 = 0 then 0 else (((finalise 1 0 sheet).getD (j - 1 - 1) unbowledFrame).total).getD 0 :=
    if_congr (by omega) rfl rfl
  dsimp only
  split
  next n hn => exact hkeep n hn
  next hn =>
    split
    next hr => exact (hready hn hr).trans (by rw [hprev]; rfl)
    next hr => exact hopen hn hr

section
variable {sheet : List FrameRec} {pending : List Nat} {k : Nat} (e : BallEntry)

/-- A frame of the sheet after a ball of frame `k`, before frames become final. -/
theorem frameAt_takenSheet_of_nodup (hl : sheet.length = 10) (h1 : 1 ≤ k) (h10 : k ≤ 10) (hd : pending.Nodup)
    (hp : ∀ j ∈ pending, 1 ≤ j ∧ j ≤ 10 ∧ j ≠ k) {j : Nat} (hj : 1 ≤ j) :
    frameAt (takenSheet k e sheet pending) j =
      if j = k then appendBall k e (frameAt sheet k)
      else if j ∈ pending then payFrame e.count (frameAt sheet j) else frameAt sheet j := by
  have hr : ∀ x ∈ pending, 1 ≤ x ∧ x ≤ sheet.length := fun x hx => by
    obtain ⟨hx1, hx10, -⟩ := hp x hx
    exact ⟨hx1, by omega⟩
  have hk : k ∉ pending := fun hx => (hp k hx).2.2 rfl
  unfold takenSheet
  rw [frameAt_setFrame _ h1 (by simp [hl, h10]) hj, frameAt_payPending hd hr h1, if_neg hk, frameAt_payPending hd hr hj]

/-- The frames that stay on the list: those owed two balls or more (R36). -/
theorem stillOwing_of_nodup (hl : sheet.length = 10) (hd : pending.Nodup)
    (hp : ∀ j ∈ pending, 1 ≤ j ∧ j ≤ 10 ∧ j ≠ k) :
    stillOwing (payPending e.count pending sheet) pending =
      pending.filter (fun j => decide (1 < (frameAt sheet j).owed)) := by
  refine List.filter_congr fun j hj => ?_
  rw [frameAt_payPending hd (fun x hx => ?_) (hp j hj).1, if_pos hj, Bool.eq_iff_iff, bne_iff_ne, decide_eq_true_iff]
  · simp only [payFrame]; omega
  · obtain ⟨hx1, hx10, -⟩ := hp x hx
    exact ⟨hx1, by omega⟩

end

/-! ### The frame rules (R27, R31 to R35) -/

theorem isStrike_iff (e : BallEntry) : isStrike e = true ↔ e.count = 10 ∧ e.foul = false := by simp [isStrike]

theorem firstIsStrike_iff (balls : List BallEntry) :
    firstIsStrike balls = true ↔ ∃ e ∈ balls.head?, e.count = 10 ∧ e.foul = false := by
  cases balls <;> simp [firstIsStrike, isStrike_iff]

theorem thirdAllowed_iff (balls : List BallEntry) :
    thirdAllowed balls = true ↔ firstIsStrike balls = true ∨ ((balls.take 2).map (·.count)).sum = 10 := by
  simp [thirdAllowed, countSum]

theorem ballsComplete_open {k : Nat} (hk : k ≤ 9) (balls : List BallEntry) :
    ballsComplete k balls = true ↔ firstIsStrike balls = true ∨ 2 ≤ balls.length := by
  simp [ballsComplete, hk]

theorem ballsComplete_tenth {k : Nat} (hk : 10 ≤ k) (balls : List BallEntry) :
    ballsComplete k balls = true ↔ 3 ≤ balls.length ∨ (balls.length = 2 ∧ ¬thirdAllowed balls = true) := by
  simp [ballsComplete, show ¬k ≤ 9 by omega]

theorem owedWhenComplete_open {k : Nat} (hk : k ≤ 9) (balls : List BallEntry) :
    owedWhenComplete k balls =
      if firstIsStrike balls = true then 2 else if (balls.map (·.count)).sum = 10 then 1 else 0 := by
  simp [owedWhenComplete, hk, countSum]

theorem nextLeave_one (k : Nat) (e : BallEntry) :
    nextLeave k [e] =
      if 10 ≤ k ∧ isStrike e = true then fullRack else if e.foul = true then e.faced else e.after := by
  unfold nextLeave
  by_cases hk : k ≤ 9
  · rw [if_pos hk, if_neg (by omega)]
  · rw [if_neg hk]
    exact if_congr (by simp [show 10 ≤ k by omega]) rfl rfl

theorem nextLeave_two {k : Nat} (hk : 10 ≤ k) (e f : BallEntry) :
    nextLeave k [e, f] =
      if isStrike e = true ∧ ¬isStrike f = true then (if f.foul = true then f.faced else f.after) else fullRack := by
  unfold nextLeave
  rw [if_neg (by omega)]
  cases he : isStrike e <;> cases hf : isStrike f <;> simp [he, hf]

/-- Settles O23: the sheet before frames become final, the totals given to it, and the frame rules. -/
theorem bonusStep : Obligations.BonusStep := by
  unfold Obligations.BonusStep
  refine ⟨?_, ?_⟩
  · intro k e sheet pending hl h1 h10 hd hp r balls owes
    have htaken := fun {j} hj => frameAt_takenSheet_of_nodup e hl h1 h10 hd hp (j := j) hj
    have hr : r.1 = finalise 1 0 (takenSheet k e sheet pending) := scoreBall_sheet e k sheet pending
    have hfinal : ∀ j, 1 ≤ j → frameAt r.1 j = { frameAt (takenSheet k e sheet pending) j with
        total := (frameAt r.1 j).total } := fun j hj => by rw [hr]; exact frameAt_finalise_eq hj
    have hk : frameAt (takenSheet k e sheet pending) k = appendBall k e (frameAt sheet k) := by
      rw [htaken h1, if_pos rfl]
    refine ⟨by rw [hr]; simp [takenSheet, hl], fun j hj hj10 hjk => ?_, ?_, ?_, fun j hj hj10 => ?_⟩
    · rw [hfinal j hj, htaken hj, if_neg hjk]
      split <;> simp [payFrame]
    · rw [hfinal k h1, hk]
      exact ⟨rfl, rfl, rfl, rfl⟩
    · have hpend : r.2 = _ := scoreBall_pending e k sheet pending
      rw [hpend, hk, stillOwing_of_nodup e hl hd hp]
      have hjoins : ((appendBall k e (frameAt sheet k)).owed != 0 &&
          ballsComplete k (appendBall k e (frameAt sheet k)).balls) = true ↔
            ballsComplete k balls = true ∧ owes ≠ 0 := by
        rw [Bool.and_eq_true, bne_iff_ne]
        exact and_comm
      rw [if_congr hjoins rfl rfl]
      split
      · rfl
      · exact (List.append_nil _).symm
    · have htot : ∀ i, 1 ≤ i → (frameAt (takenSheet k e sheet pending) i).total = (frameAt sheet i).total := fun i hi => by
        rw [htaken hi]
        split
        next hik => subst hik; rfl
        next => split <;> rfl
      have h := total_finalise (takenSheet k e sheet pending) hj
      rw [← hr, htot j hj] at h
      refine h.trans ?_
      cases (frameAt sheet j).total with
      | some n => rfl
      | none =>
        refine if_congr (forall_congr' fun i => forall_congr' fun hi => forall_congr' fun _ => ?_) ?_ rfl
        · rw [htot i hi, frameComplete, frameComplete, hfinal i hi]
        · rw [hfinal j hj]
  · intro k balls strike opens third faces
    have hopens : firstIsStrike balls = true ↔ opens := firstIsStrike_iff balls
    have hthird : thirdAllowed balls = true ↔ third := (thirdAllowed_iff balls).trans (or_congr_left hopens)
    refine ⟨hthird, fun hk => ⟨(ballsComplete_open hk balls).trans (or_congr_left hopens), ?_⟩,
      fun hk => ⟨(ballsComplete_tenth hk balls).trans (or_congr_right (and_congr_right fun _ => not_congr hthird)),
        owedWhenComplete_tenth hk balls⟩, nextLeave_nil k, fun e => ?_, fun hk e f => ?_⟩
    · rw [owedWhenComplete_open hk]
      exact if_congr hopens rfl rfl
    · rw [nextLeave_one]
      exact if_congr (and_congr_right fun _ => isStrike_iff e) rfl rfl
    · rw [nextLeave_two hk]
      exact if_congr (and_congr (isStrike_iff e) (not_congr (isStrike_iff f))) rfl rfl

end Sys2Proof.Machine

namespace Sys2Proof.Machine

/-! ### One more ball on a sheet, and its rebuild (R45) -/

/-- The sheet with one more ball on frame `k`. -/
def withBall (k : Nat) (e : BallEntry) (sheet : List FrameRec) : List FrameRec :=
  setFrame sheet k { frameAt sheet k with balls := (frameAt sheet k).balls ++ [e] }

/-- A sheet cut at frame `k`, with nothing bowled behind it. -/
structure CutAt (k : Nat) (sheet before after : List FrameRec) : Prop where
  eq : sheet = before ++ frameAt sheet k :: after
  length : before.length = k - 1
  unbowled : ∀ f ∈ after, f.balls = []

section
variable {sheet before after : List FrameRec} {k : Nat}

theorem exists_cutAt (hl : sheet.length = 10) (h1 : 1 ≤ k) (h10 : k ≤ 10)
    (ha : ∀ j, k < j → j ≤ 10 → (frameAt sheet j).balls = []) : ∃ before after, CutAt k sheet before after := by
  have hlt : k - 1 < sheet.length := by omega
  have hat : frameAt sheet k = sheet[k - 1] := by simp [frameAt, List.getD, hlt]
  refine ⟨sheet.take (k - 1), sheet.drop (k - 1 + 1), ?_, by simp; omega, fun f hf => ?_⟩
  · rw [hat, List.getElem_cons_drop, List.take_append_drop]
  · obtain ⟨i, hi⟩ := List.mem_iff_getElem?.mp hf
    rw [List.getElem?_drop] at hi
    have hilt := (List.getElem?_eq_some_iff.mp hi).1
    have hempty := ha (k - 1 + 1 + i + 1) (by omega) (by omega)
    rwa [frameAt, Nat.add_sub_cancel, List.getD, hi] at hempty

theorem CutAt.withBall (h : CutAt k sheet before after) (e : BallEntry) :
    withBall k e sheet =
      before ++ { frameAt sheet k with balls := (frameAt sheet k).balls ++ [e] } :: after := by
  unfold Machine.withBall setFrame
  conv_lhs => rw [h.eq]
  rw [← h.length, List.set_append_right _ _ le_rfl]
  simp [h.length, ← h.eq]

theorem replayFrames_append (k : Nat) (xs ys : List FrameRec) (acc : List FrameRec × List Nat) :
    replayFrames k (xs ++ ys) acc = replayFrames (k + xs.length) ys (replayFrames k xs acc) := by
  induction xs generalizing k acc with
  | nil => rfl
  | cons f rest ih =>
    rw [List.cons_append, replayFrames, ih, replayFrames, List.length_cons]
    congr 1
    omega

theorem replayFrames_of_unbowled (k : Nat) {fs : List FrameRec} (h : ∀ f ∈ fs, f.balls = [])
    (acc : List FrameRec × List Nat) : replayFrames k fs acc = acc := by
  induction fs generalizing k with
  | nil => rfl
  | cons f rest ih =>
    rw [replayFrames, h f List.mem_cons_self]
    exact ih (k + 1) fun g hg => h g (List.mem_cons_of_mem f hg)

/-- The last ball of a replay is recorded on what the others left. -/
theorem replayBalls_concat (k n : Nat) (bs : List BallEntry) (e : BallEntry) (acc : List FrameRec × List Nat) :
    replayBalls k n (bs ++ [e]) acc =
      scoreBall k (makeEntry k (bs.length + n) e.faced e.after e.foul e.source e.mismatch)
        (replayBalls k n bs acc).1 (replayBalls k n bs acc).2 := by
  induction bs generalizing n acc with
  | nil => simp [replayBalls]
  | cons b rest ih =>
    rw [List.cons_append, replayBalls, ih, replayBalls, List.length_cons, show rest.length + (n + 1) = rest.length + 1 + n by omega]

/-- The rebuild of a sheet cut at a frame: that frame's balls come last. -/
theorem rebuild_append_cons {x : FrameRec} (hl : before.length = k - 1) (h1 : 1 ≤ k) (ha : ∀ f ∈ after, f.balls = []) :
    rebuild (before ++ x :: after) = replayBalls k 1 x.balls (replayFrames 1 before (emptySheet, [])) := by
  rw [Machine.rebuild, replayFrames_append, replayFrames, replayFrames_of_unbowled _ ha, hl,
    show 1 + (k - 1) = k by omega]

/-- Rebuilding a sheet with one more ball on its last frame is recording the ball, derived again, on the rebuilt sheet. -/
theorem rebuild_withBall (hl : sheet.length = 10) (h1 : 1 ≤ k) (h10 : k ≤ 10)
    (ha : ∀ j, k < j → j ≤ 10 → (frameAt sheet j).balls = []) (e : BallEntry) :
    rebuild (withBall k e sheet) =
      scoreBall k
        (makeEntry k ((frameAt sheet k).balls.length + 1) e.faced e.after e.foul e.source e.mismatch)
        (rebuild sheet).1 (rebuild sheet).2 := by
  obtain ⟨before, after, h⟩ := exists_cutAt hl h1 h10 ha
  have hold : rebuild sheet = replayBalls k 1 (frameAt sheet k).balls (replayFrames 1 before (emptySheet, [])) := by
    conv_lhs => rw [h.eq]
    exact rebuild_append_cons h.length h1 h.unbowled
  rw [h.withBall, rebuild_append_cons h.length h1 h.unbowled, replayBalls_concat, hold]

end

/-- Settles O24: the ball recorded is the ball itself where its count and split mark are the derived ones. -/
theorem rebuildIsRecording : Obligations.RebuildIsRecording := by
  unfold Obligations.RebuildIsRecording
  intro sheet k e hl h1 h10 ha he
  refine (rebuild_withBall hl h1 h10 ha e).trans ?_
  rw [← he]

end Sys2Proof.Machine

namespace Sys2Proof.Machine

/-! ### Sheets bowled in turn, ball by ball -/

/-- A sheet whose frames are bowled in turn, frame `n` the last that may hold a ball. -/
structure InTurn (n : Nat) (sheet : List FrameRec) : Prop where
  length : sheet.length = 10
  counted : ∀ f ∈ sheet, ∀ e ∈ f.balls, Counted e
  turns : ∀ k, 1 ≤ k → k ≤ 10 → BowledInTurn k (frameAt sheet k).balls
  before : ∀ k, 1 ≤ k → k < n → frameComplete sheet k = true
  after : ∀ k, n < k → k ≤ 10 → (frameAt sheet k).balls = []

theorem BowledInTurn.of_append {k : Nat} {xs ys : List BallEntry} (h : BowledInTurn k (xs ++ ys)) : BowledInTurn k xs :=
  fun n hn => by
    have := h n (by rw [List.length_append]; omega)
    rwa [List.take_append_of_le_length hn.le] at this

theorem BowledInTurn.open_before {k : Nat} {xs : List BallEntry} {e : BallEntry} (h : BowledInTurn k (xs ++ [e])) :
    ballsComplete k xs = false := by
  simpa using h xs.length (by simp)

section
variable {n k : Nat} {sheet : List FrameRec}

theorem frameAt_withBall (hl : sheet.length = 10) (h1 : 1 ≤ k) (h10 : k ≤ 10) (e : BallEntry) {j : Nat} (hj : 1 ≤ j) :
    frameAt (withBall k e sheet) j =
      if j = k then { frameAt sheet k with balls := (frameAt sheet k).balls ++ [e] } else frameAt sheet j :=
  frameAt_setFrame _ h1 (by omega) hj

theorem getElem_eq_frameAt (hl : sheet.length = 10) (h1 : 1 ≤ k) (h10 : k ≤ 10) :
    sheet[k - 1]'(by omega) = frameAt sheet k := by
  have hlt : k - 1 < sheet.length := by omega
  simp [frameAt, List.getD, hlt]

theorem frameAt_mem (hl : sheet.length = 10) (h1 : 1 ≤ k) (h10 : k ≤ 10) : frameAt sheet k ∈ sheet := by
  rw [← getElem_eq_frameAt hl h1 h10]
  exact List.getElem_mem _

/-- The last ball of a frame taken off the sheet. -/
def withoutLast (k : Nat) (xs : List BallEntry) (sheet : List FrameRec) : List FrameRec :=
  setFrame sheet k { frameAt sheet k with balls := xs }

theorem frameAt_withoutLast (hl : sheet.length = 10) (h1 : 1 ≤ k) (h10 : k ≤ 10) (xs : List BallEntry) {j : Nat}
    (hj : 1 ≤ j) :
    frameAt (withoutLast k xs sheet) j = if j = k then { frameAt sheet k with balls := xs } else frameAt sheet j :=
  frameAt_setFrame _ h1 (by omega) hj

theorem withBall_withoutLast (hl : sheet.length = 10) (h1 : 1 ≤ k) (h10 : k ≤ 10) {xs : List BallEntry} {e : BallEntry}
    (hb : (frameAt sheet k).balls = xs ++ [e]) : withBall k e (withoutLast k xs sheet) = sheet := by
  have hframe : frameAt sheet k = { frameAt sheet k with balls := xs ++ [e] } := by rw [← hb]
  rw [withBall, frameAt_withoutLast hl h1 h10 xs h1, if_pos rfl]
  dsimp only
  rw [← hframe, withoutLast, ← getElem_eq_frameAt hl h1 h10]
  exact (List.set_set ..).trans (List.set_getElem_self _)

theorem inTurn_withoutLast (h : InTurn k sheet) (h1 : 1 ≤ k) (h10 : k ≤ 10) {xs : List BallEntry} {e : BallEntry}
    (hb : (frameAt sheet k).balls = xs ++ [e]) : InTurn k (withoutLast k xs sheet) := by
  have hat := fun {j : Nat} => frameAt_withoutLast h.length h1 h10 xs (j := j)
  refine ⟨(setFrame_length _ _ _).trans h.length, fun f hf => ?_, fun j hj hj10 => ?_, fun j hj hjk => ?_,
    fun j hj hj10 => ?_⟩
  · rcases List.mem_or_eq_of_mem_set hf with hf | rfl
    · exact h.counted f hf
    · exact fun x hx => h.counted _ (frameAt_mem h.length h1 h10) x (hb ▸ List.mem_append_left _ hx)
  · rw [hat hj]
    split
    next hjk => subst hjk; exact BowledInTurn.of_append (hb ▸ h.turns j hj hj10)
    next => exact h.turns j hj hj10
  · rw [frameComplete, hat hj, if_neg hjk.ne]
    exact h.before j hj hjk
  · rw [hat (by omega), if_neg hj.ne']
    exact h.after j hj hj10

/-- A sheet in turn is an unbowled sheet, or one in turn with a ball more on its last frame, which was not complete. -/
theorem InTurn.induction {P : List FrameRec → Prop}
    (start : ∀ sheet, sheet.length = 10 → (∀ k, 1 ≤ k → k ≤ 10 → (frameAt sheet k).balls = []) → P sheet)
    (ball : ∀ k sheet e, 1 ≤ k → k ≤ 10 → InTurn k sheet → frameComplete sheet k = false → Counted e → P sheet →
      P (withBall k e sheet))
    (h1 : 1 ≤ n) (h10 : n ≤ 10) (h : InTurn n sheet) : P sheet := by
  induction n generalizing sheet with
  | zero => omega
  | succ n ih =>
    generalize hb : (frameAt sheet (n + 1)).balls = balls
    induction balls using List.reverseRecOn generalizing sheet with
    | nil =>
      have hafter : ∀ k, n < k → k ≤ 10 → (frameAt sheet k).balls = [] := fun k hk hk10 => by
        rcases Nat.lt_or_eq_of_le hk with hk | rfl
        · exact h.after k hk hk10
        · exact hb
      rcases Nat.eq_zero_or_pos n with rfl | hn
      · exact start sheet h.length hafter
      · exact ih hn (by omega) { h with before := fun k hk hkn => h.before k hk (by omega), after := hafter }
    | append_singleton xs e ihx =>
      have hxs : (frameAt (withoutLast (n + 1) xs sheet) (n + 1)).balls = xs := by
        rw [frameAt_withoutLast h.length h1 h10 xs h1, if_pos rfl]
      have hopen : frameComplete (withoutLast (n + 1) xs sheet) (n + 1) = false := by
        rw [frameComplete, hxs]
        exact BowledInTurn.open_before (hb ▸ h.turns (n + 1) h1 h10)
      have he : Counted e := h.counted _ (frameAt_mem h.length h1 h10) e (by rw [hb]; simp)
      have hw := inTurn_withoutLast h h1 h10 hb
      exact withBall_withoutLast h.length h1 h10 hb ▸ ball (n + 1) _ e h1 h10 hw hopen he (ihx hw hxs)

end

/-! ### The rules of bowling, ball by ball (R31 to R36) -/

section
variable {k j : Nat} {sheet : List FrameRec}

theorem countsAfter_of_unbowled (hl : sheet.length = 10) (h : ∀ i, j < i → i ≤ 10 → (frameAt sheet i).balls = []) :
    Safety.countsAfter sheet j = [] := by
  unfold Safety.countsAfter
  rw [List.flatMap_eq_nil_iff]
  intro f hf
  obtain ⟨i, hi⟩ := List.mem_iff_getElem?.mp hf
  rw [List.getElem?_drop] at hi
  have hlt := (List.getElem?_eq_some_iff.mp hi).1
  have hempty := h (j + i + 1) (by omega) (by omega)
  rw [frameAt, Nat.add_sub_cancel, List.getD, hi] at hempty
  rw [show f.balls = [] from hempty]
  rfl

/-- The counts of a sheet whose last bowled frame stands behind `before`. -/
theorem countsAfter_append_cons {before after : List FrameRec} (hj : j ≤ before.length) (ha : ∀ f ∈ after, f.balls = [])
    (x : FrameRec) :
    Safety.countsAfter (before ++ x :: after) j =
      ((before.drop j).flatMap fun f => f.balls.map (·.count)) ++ x.balls.map (·.count) := by
  have hnil : (after.flatMap fun f => f.balls.map (·.count)) = [] :=
    List.flatMap_eq_nil_iff.mpr fun f hf => by rw [ha f hf]; rfl
  rw [Safety.countsAfter, List.drop_append_of_le_length hj, List.flatMap_append, List.flatMap_cons, hnil, List.append_nil]

/-- A ball of frame `k` is the last of the balls behind each earlier frame. -/
theorem countsAfter_withBall (h : InTurn k sheet) (h1 : 1 ≤ k) (h10 : k ≤ 10) (e : BallEntry) (hj : j < k) :
    Safety.countsAfter (withBall k e sheet) j = Safety.countsAfter sheet j ++ [e.count] := by
  obtain ⟨before, after, hc⟩ := exists_cutAt h.length h1 h10 h.after
  have hlen : j ≤ before.length := by rw [hc.length]; omega
  rw [hc.withBall, countsAfter_append_cons hlen hc.unbowled]
  conv_rhs => rw [hc.eq, countsAfter_append_cons hlen hc.unbowled]
  simp

end

end Sys2Proof.Machine

namespace Sys2Proof.Machine

section
variable {k j : Nat} {sheet : List FrameRec} {e : BallEntry}

/-- From the frame in play on, no frame is complete. -/
theorem InTurn.incomplete (h : InTurn k sheet) (ho : frameComplete sheet k = false) (hkj : k ≤ j) (hj10 : j ≤ 10) :
    frameComplete sheet j = false := by
  rcases Nat.eq_or_lt_of_le hkj with rfl | hlt
  · exact ho
  · rw [frameComplete, h.after j hlt hj10, ballsComplete_nil]

theorem bowlingBonus_of_incomplete (h : frameComplete sheet j = false) : Safety.bowlingBonus sheet j = 0 := if_neg (by simp [h])

theorem stillOwed_of_incomplete (h : frameComplete sheet j = false) : Safety.stillOwed sheet j = 0 := if_neg (by simp [h])

theorem sum_take_concat (w c : Nat) (xs : List Nat) :
    ((xs ++ [c]).take w).sum = (xs.take w).sum + if w - xs.length ≠ 0 then c else 0 := by
  rw [List.take_append, List.sum_append]
  congr 1
  cases h : w - xs.length <;> simp

/-- A ball pays each earlier frame that still waits for one (R36). -/
theorem bonus_withBall_earlier (h : InTurn k sheet) (h1 : 1 ≤ k) (h10 : k ≤ 10) (hj : 1 ≤ j) (hjk : j < k) :
    Safety.bowlingBonus (withBall k e sheet) j =
        Safety.bowlingBonus sheet j + (if Safety.stillOwed sheet j ≠ 0 then e.count else 0) ∧
      Safety.stillOwed (withBall k e sheet) j = Safety.stillOwed sheet j - 1 := by
  have hc := h.before j hj hjk
  have hat : frameAt (withBall k e sheet) j = frameAt sheet j := by
    rw [frameAt_withBall h.length h1 h10 e hj, if_neg hjk.ne]
  have hc' : frameComplete (withBall k e sheet) j = true := by rwa [frameComplete, hat]
  simp only [Safety.bowlingBonus, Safety.stillOwed, if_pos hc, if_pos hc', hat, countsAfter_withBall h h1 h10 e hjk]
  refine ⟨sum_take_concat _ _ _, ?_⟩
  rw [List.length_append, List.length_singleton, Nat.sub_add_eq]

/-- The frame in play, with a ball more, has got no bonus yet, and waits for all it is owed (R31, R32). -/
theorem bonus_withBall_here (h : InTurn k sheet) (h1 : 1 ≤ k) (h10 : k ≤ 10) :
    Safety.bowlingBonus (withBall k e sheet) k = 0 ∧
      Safety.stillOwed (withBall k e sheet) k =
        if ballsComplete k ((frameAt sheet k).balls ++ [e]) = true then
          owedWhenComplete k ((frameAt sheet k).balls ++ [e]) else 0 := by
  have hat : (frameAt (withBall k e sheet) k).balls = (frameAt sheet k).balls ++ [e] := by
    rw [frameAt_withBall h.length h1 h10 e h1, if_pos rfl]
  have hnil : Safety.countsAfter (withBall k e sheet) k = [] :=
    countsAfter_of_unbowled ((setFrame_length _ _ _).trans h.length) fun i hi hi10 => by
      rw [frameAt_withBall h.length h1 h10 e (by omega), if_neg hi.ne']
      exact h.after i hi hi10
  simp only [Safety.bowlingBonus, Safety.stillOwed, hnil, frameComplete, hat]
  exact ⟨by simp, rfl⟩

theorem frameComplete_withBall (h : InTurn k sheet) (h1 : 1 ≤ k) (h10 : k ≤ 10) (hj : 1 ≤ j) (hjk : j ≠ k) :
    frameComplete (withBall k e sheet) j = frameComplete sheet j := by
  rw [frameComplete, frameAt_withBall h.length h1 h10 e hj, if_neg hjk, frameComplete]

/-! ### The frames that a rebuild scores -/

/-- Each frame's base is its own pins, its bonus what bowling gives it, and its owed value what it still waits for. -/
def FramesScored (sheet scored : List FrameRec) : Prop :=
  ∀ j, 1 ≤ j → j ≤ 10 →
    (frameAt scored j).base = countSum (frameAt sheet j).balls ∧
    (frameAt scored j).bonus = Safety.bowlingBonus sheet j ∧ (frameAt scored j).owed = Safety.stillOwed sheet j

theorem AlikeBalls.countSum {xs ys : List BallEntry} (h : AlikeBalls xs ys) : countSum xs = countSum ys := by
  rw [← countSum_bare, h, countSum_bare]

theorem AlikeBalls.owedWhenComplete {xs ys : List BallEntry} (h : AlikeBalls xs ys) (k : Nat) :
    owedWhenComplete k xs = owedWhenComplete k ys := by
  rw [Machine.owedWhenComplete, Machine.owedWhenComplete, h.firstIsStrike, h.countSum]

/-- A scored sheet of a sheet in turn: sound, with the same balls but for split marks. -/
structure ScoredAlike (k : Nat) (sheet : List FrameRec) (acc : List FrameRec × List Nat) : Prop where
  inTurn : InTurn k sheet
  ok : SheetOk acc.1 acc.2
  alike : ∀ j, 1 ≤ j → j ≤ 10 → AlikeBalls (frameAt acc.1 j).balls (frameAt sheet j).balls

namespace ScoredAlike
variable {acc : List FrameRec × List Nat}

theorem complete (h : ScoredAlike k sheet acc) (hj : 1 ≤ j) (hj10 : j ≤ 10) :
    frameComplete acc.1 j = frameComplete sheet j := (h.alike j hj hj10).ballsComplete j

/-- Every frame that waits stands before the frame in play. -/
theorem pending_lt (h : ScoredAlike k sheet acc) (h1 : 1 ≤ k) (h10 : k ≤ 10) (ho : frameComplete sheet k = false) :
    ∀ j ∈ acc.2, j < k :=
  h.ok.pending_lt ((h.complete h1 h10).trans ho) fun j hj hj10 =>
    (h.alike j (by omega) hj10).nil_iff.mpr (h.inTurn.after j hj hj10)

/-- A record scores one more ball by the rules of bowling (R28, R36). -/
theorem framesScored (h : ScoredAlike k sheet acc) (hs : FramesScored sheet acc.1) (h1 : 1 ≤ k) (h10 : k ≤ 10)
    (ho : frameComplete sheet k = false) {x : BallEntry} (hx : x.bare = e.bare) :
    FramesScored (withBall k e sheet) (scoreBall k x acc.1 acc.2).1 := by
  intro j hj hj10
  have hlt := h.pending_lt h1 h10 ho
  have hcount : x.count = e.count := by simpa only [BallEntry.bare] using congrArg BallEntry.count hx
  obtain ⟨hbase, hbonus, howed⟩ := hs j hj hj10
  obtain ⟨t, ht, -⟩ := frameAt_scoreBall (k := k) (sheet := acc.1) (pending := acc.2) x hj
  rw [ht, frameAt_takenSheet x h.ok h1 h10 hlt hj, frameAt_withBall h.inTurn.length h1 h10 e hj]
  rcases lt_trichotomy j k with hjk | rfl | hkj
  · obtain ⟨hb, hw⟩ := bonus_withBall_earlier (e := e) h.inTurn h1 h10 hj hjk
    have hmem : j ∈ acc.2 ↔ Safety.stillOwed sheet j ≠ 0 := by
      rw [h.ok.owes, howed]
      exact ⟨fun hm => hm.2.2, fun hm => ⟨hj, by omega, hm⟩⟩
    rw [if_neg hjk.ne, if_neg hjk.ne, hb, hw]
    by_cases hm : j ∈ acc.2
    · rw [if_pos hm, if_pos (hmem.mp hm)]
      exact ⟨hbase, by simp [payFrame, hbonus, hcount], by simp [payFrame, howed]⟩
    · have hzero : Safety.stillOwed sheet j = 0 := by simpa [hmem] using hm
      rw [if_neg hm, if_neg (by simp [hzero])]
      exact ⟨hbase, hbonus, by rw [howed, hzero]⟩
  · obtain ⟨hb, hw⟩ := bonus_withBall_here (e := e) h.inTurn h1 h10
    have hballs : AlikeBalls ((frameAt acc.1 j).balls ++ [x]) ((frameAt sheet j).balls ++ [e]) := by
      have := h.alike j h1 h10
      unfold AlikeBalls at this ⊢
      simp [this, hx]
    rw [if_pos rfl, if_pos rfl, hb, hw]
    refine ⟨hballs.countSum, hbonus.trans (bowlingBonus_of_incomplete ho), ?_⟩
    simp only [appendBall, hballs.ballsComplete, hballs.owedWhenComplete, howed, stillOwed_of_incomplete ho]
  · have hinc := h.inTurn.incomplete ho hkj.le hj10
    have hinc' : frameComplete (withBall k e sheet) j = false := by
      rwa [frameComplete_withBall h.inTurn h1 h10 hj hkj.ne']
    have hm : j ∉ acc.2 := fun hx => absurd (hlt j hx) (by omega)
    rw [if_neg hkj.ne', if_neg hkj.ne', if_neg hm, bowlingBonus_of_incomplete hinc', stillOwed_of_incomplete hinc']
    exact ⟨hbase, hbonus.trans (bowlingBonus_of_incomplete hinc), howed.trans (stillOwed_of_incomplete hinc)⟩

end ScoredAlike

end

/-! ### The running score (R37) -/

/-- Every frame of a sheet through frame `j` is complete and owed nothing. -/
def DoneThrough (sheet : List FrameRec) (j : Nat) : Prop :=
  ∀ i, 1 ≤ i → i ≤ j → frameComplete sheet i = true ∧ (frameAt sheet i).owed = 0

/-- The pins and bonuses of a sheet through frame `j`. -/
def scoreThrough (sheet : List FrameRec) (j : Nat) : Nat :=
  ((List.range j).map fun i => (frameAt sheet (i + 1)).base + (frameAt sheet (i + 1)).bonus).sum

theorem scoreThrough_succ (sheet : List FrameRec) (j : Nat) :
    scoreThrough sheet (j + 1) = scoreThrough sheet j + (frameAt sheet (j + 1)).base + (frameAt sheet (j + 1)).bonus := by
  simp [scoreThrough, List.range_succ, Nat.add_assoc]

theorem scoreThrough_congr {xs ys : List FrameRec} {j : Nat}
    (h : ∀ i, 1 ≤ i → i ≤ j → (frameAt xs i).base = (frameAt ys i).base ∧ (frameAt xs i).bonus = (frameAt ys i).bonus) :
    scoreThrough xs j = scoreThrough ys j := by
  refine congrArg List.sum (List.map_congr_left fun i hi => ?_)
  obtain ⟨hb, hn⟩ := h (i + 1) (by omega) (by have := List.mem_range.mp hi; omega)
  rw [hb, hn]

/-- Every total of a sheet stands on a frame through which all is done, and is the score through it. -/
def TotalsRight (sheet : List FrameRec) : Prop :=
  ∀ j, 1 ≤ j → j ≤ 10 → ∀ n, (frameAt sheet j).total = some n → DoneThrough sheet j ∧ n = scoreThrough sheet j

/-- ... and no frame through which all is done lacks its total. -/
def TotalsFull (sheet : List FrameRec) : Prop :=
  ∀ j, 1 ≤ j → j ≤ 10 → DoneThrough sheet j → (frameAt sheet j).total = some (scoreThrough sheet j)

theorem doneThrough_finalise (sheet : List FrameRec) (j : Nat) : DoneThrough (finalise 1 0 sheet) j ↔ DoneThrough sheet j := by
  refine forall_congr' fun i => forall_congr' fun hi => forall_congr' fun _ => ?_
  rw [frameComplete, frameComplete, frameAt_finalise_eq hi]

theorem scoreThrough_finalise (sheet : List FrameRec) (j : Nat) :
    scoreThrough (finalise 1 0 sheet) j = scoreThrough sheet j :=
  scoreThrough_congr fun i hi _ => by rw [frameAt_finalise_eq hi]; exact ⟨rfl, rfl⟩

/-- Finalising gives each frame through which all is done its running score, and no other frame a total (R37). -/
theorem TotalsRight.finalise {sheet : List FrameRec} (h : TotalsRight sheet) :
    TotalsRight (finalise 1 0 sheet) ∧ TotalsFull (finalise 1 0 sheet) := by
  have hready : ∀ {j}, j ≤ 10 → ((∀ i, 1 ≤ i → i ≤ j → (frameAt sheet i).total = none →
      frameComplete sheet i = true ∧ (frameAt sheet i).owed = 0) ↔ DoneThrough sheet j) := by
    refine fun {j} hj10 => ⟨fun hr i hi hij => ?_, fun hd i hi hij _ => hd i hi hij⟩
    cases ht : (frameAt sheet i).total with
    | none => exact hr i hi hij ht
    | some n => exact (h i hi (by omega) n ht).1 i hi le_rfl
  have hfull : ∀ j, 1 ≤ j → j ≤ 10 → DoneThrough sheet j →
      (frameAt (Machine.finalise 1 0 sheet) j).total = some (scoreThrough sheet j) := by
    intro j hj hj10 hd
    induction j, hj using Nat.le_induction with
    | base =>
      rw [total_finalise sheet le_rfl]
      cases ht : (frameAt sheet 1).total with
      | some n => exact congrArg some (h 1 le_rfl hj10 n ht).2
      | none =>
        dsimp only
        rw [if_pos ((hready hj10).mpr hd)]
        simp [scoreThrough]
    | succ j hj ih =>
      rw [total_finalise sheet (by omega)]
      cases ht : (frameAt sheet (j + 1)).total with
      | some n => exact congrArg some (h _ (by omega) hj10 n ht).2
      | none =>
        have hprev := ih (by omega) fun i hi hij => hd i hi (by omega)
        dsimp only
        rw [if_pos ((hready hj10).mpr hd), if_neg (by omega), Nat.add_sub_cancel, hprev, scoreThrough_succ]
        rfl
  refine ⟨fun j hj hj10 n hn => ?_, fun j hj hj10 hd => ?_⟩
  · rw [doneThrough_finalise, scoreThrough_finalise]
    have hd : DoneThrough sheet j := by
      rw [total_finalise sheet hj] at hn
      cases ht : (frameAt sheet j).total with
      | some m => exact (h j hj hj10 m ht).1
      | none =>
        rw [ht] at hn
        dsimp only at hn
        by_contra hd
        rw [if_neg (mt (hready hj10).mp hd)] at hn
        cases hn
    exact ⟨hd, Option.some.inj (hn.symm.trans (hfull j hj hj10 hd))⟩
  · rw [scoreThrough_finalise]
    exact hfull j hj hj10 ((doneThrough_finalise sheet j).mp hd)

/-- A record keeps the totals right: no frame through which all is done takes a ball or a bonus (R36, R37). -/
theorem totals_scoreBall {sheet : List FrameRec} {pending : List Nat} {k : Nat} (e : BallEntry) (h : TotalsRight sheet)
    (hok : SheetOk sheet pending) (h1 : 1 ≤ k) (h10 : k ≤ 10) (ho : frameComplete sheet k = false)
    (hlt : ∀ j ∈ pending, j < k) :
    TotalsRight (scoreBall k e sheet pending).1 ∧ TotalsFull (scoreBall k e sheet pending).1 := by
  rw [scoreBall_sheet]
  refine TotalsRight.finalise fun j hj hj10 n hn => ?_
  have hat := fun {i} hi => frameAt_takenSheet e hok h1 h10 hlt (j := i) hi
  have htotal : (frameAt sheet j).total = some n := by
    rw [hat hj] at hn
    split at hn
    next hjk => subst hjk; exact hn
    next =>
      split at hn
      · exact hn
      · exact hn
  obtain ⟨hd, hscore⟩ := h j hj hj10 n htotal
  have hsame : ∀ i, 1 ≤ i → i ≤ j → frameAt (takenSheet k e sheet pending) i = frameAt sheet i := by
    intro i hi hij
    obtain ⟨hc, hw⟩ := hd i hi hij
    have hik : i ≠ k := by rintro rfl; rw [hc] at ho; cases ho
    have hip : i ∉ pending := fun hm => ((hok.owes i).mp hm).2.2 hw
    rw [hat hi, if_neg hik, if_neg hip]
  refine ⟨fun i hi hij => ?_, hscore.trans (scoreThrough_congr fun i hi hij => ?_)⟩
  · rw [frameComplete, hsame i hi hij]
    exact hd i hi hij
  · rw [hsame i hi hij]
    exact ⟨rfl, rfl⟩

end Sys2Proof.Machine

namespace Sys2Proof.Machine

/-! ### The rebuild of a sheet in turn -/

/-- A scored sheet whose frames and totals are those of bowling. -/
structure Scored (sheet : List FrameRec) (scored : List FrameRec) : Prop where
  frames : FramesScored sheet scored
  right : TotalsRight scored
  full : TotalsFull scored

section
variable {k n : Nat} {sheet : List FrameRec}

theorem exists_frameAt_of_mem (hl : sheet.length = 10) {f : FrameRec} (hf : f ∈ sheet) :
    ∃ k, 1 ≤ k ∧ k ≤ 10 ∧ frameAt sheet k = f := by
  obtain ⟨i, hi, rfl⟩ := List.mem_iff_getElem.mp hf
  exact ⟨i + 1, by omega, by omega, (getElem_eq_frameAt hl (by omega) (by omega)).symm⟩

/-- The rebuild of a sheet in turn is a sound sheet with its balls (R45). -/
theorem InTurn.scoredAlike (h : InTurn n sheet) : ScoredAlike n sheet (rebuild sheet) :=
  have hr := rebuild_ok h.length h.counted h.turns
  ⟨h, hr.1, hr.2⟩

/-- An unbowled sheet scores nothing. -/
theorem scored_of_unbowled (hl : sheet.length = 10) (h : ∀ k, 1 ≤ k → k ≤ 10 → (frameAt sheet k).balls = []) :
    Scored sheet (rebuild sheet).1 := by
  have hempty : ∀ f ∈ sheet, f.balls = [] := fun f hf => by
    obtain ⟨k, h1, h10, rfl⟩ := exists_frameAt_of_mem hl hf
    exact h k h1 h10
  have hat : ∀ j, frameAt (rebuild sheet).1 j = unbowledFrame := fun j => by
    rw [rebuild, replayFrames_of_unbowled 1 hempty, frameAt_emptySheet]
  have hopen : ∀ j, frameComplete (rebuild sheet).1 j = false := fun j => by
    rw [frameComplete, hat]
    exact ballsComplete_nil j
  refine ⟨fun j hj hj10 => ?_, fun j _ _ n hn => ?_, fun j hj _ hd => ?_⟩
  · have hinc : frameComplete sheet j = false := by rw [frameComplete, h j hj hj10, ballsComplete_nil]
    rw [hat, h j hj hj10, bowlingBonus_of_incomplete hinc, stillOwed_of_incomplete hinc]
    exact ⟨rfl, rfl, rfl⟩
  · rw [hat] at hn
    cases hn
  · exact absurd (hd j hj le_rfl).1 (by simp [hopen])

/-- One more ball on the frame in play keeps the rebuild scored. -/
theorem Scored.withBall {e : BallEntry} (hs : Scored sheet (rebuild sheet).1) (h : InTurn k sheet) (h1 : 1 ≤ k)
    (h10 : k ≤ 10) (ho : frameComplete sheet k = false) (he : Counted e) :
    Scored (withBall k e sheet) (rebuild (withBall k e sheet)).1 := by
  have ha := h.scoredAlike
  rw [rebuild_withBall h.length h1 h10 h.after e]
  obtain ⟨hright, hfull⟩ := totals_scoreBall
    (makeEntry k ((frameAt sheet k).balls.length + 1) e.faced e.after e.foul e.source e.mismatch) hs.right ha.ok h1 h10
    ((ha.complete h1 h10).trans ho) (ha.pending_lt h1 h10 ho)
  exact ⟨ha.framesScored hs.frames h1 h10 ho (he.bare_replayed _ _), hright, hfull⟩

/-- The rebuild of a sheet in turn scores bowling, by induction on its balls (R36, R37, R45). -/
theorem InTurn.scored (h : InTurn n sheet) (h1 : 1 ≤ n) (h10 : n ≤ 10) : Scored sheet (rebuild sheet).1 :=
  InTurn.induction (P := fun sheet => Scored sheet (rebuild sheet).1) (fun _ => scored_of_unbowled)
    (fun _ _ _ h1 h10 h ho he hs => hs.withBall h h1 h10 ho he) h1 h10 h

/-! ### Legal sheets -/

theorem FrameLegal.bowledInTurn {balls : List BallEntry} (h : Safety.FrameLegal k balls) : BowledInTurn k balls := by
  obtain ⟨-, h⟩ := h
  split at h
  next h9 =>
    obtain ⟨hlen, -, hstrike⟩ := h
    refine (bowledInTurn_open h9 balls).mpr ⟨hlen, fun h2 => ?_⟩
    by_contra hs
    have := hstrike (by simpa using hs)
    omega
  next h9 => exact (bowledInTurn_tenth (by omega) balls).mpr h

theorem SheetLegal.inTurn (h : Safety.SheetLegal sheet) : ∃ n, 1 ≤ n ∧ n ≤ 10 ∧ InTurn n sheet := by
  obtain ⟨hl, hlegal, n, h1, h10, hbefore, hafter⟩ := h
  refine ⟨n, h1, h10, hl, fun f hf e he => ?_, fun k hk hk10 => FrameLegal.bowledInTurn (hlegal k hk hk10), hbefore, hafter⟩
  obtain ⟨k, hk, hk10, rfl⟩ := exists_frameAt_of_mem hl hf
  exact Counted.of_sound ((hlegal k hk hk10).1 e he)

/-! ### The rebuild against the rules of bowling -/

namespace ScoredAlike
variable {acc : List FrameRec × List Nat}

/-- All is done through a frame of the scored sheet exactly when that frame is final in bowling (R37). -/
theorem finalFrame_iff (h : ScoredAlike n sheet acc) (hs : FramesScored sheet acc.1) (h10 : k ≤ 10) :
    Safety.finalFrame sheet k = true ↔ DoneThrough acc.1 k := by
  simp only [Safety.finalFrame, List.all_eq_true, List.mem_range, Bool.and_eq_true, beq_iff_eq]
  constructor
  · intro hf i hi hik
    obtain ⟨hc, ho⟩ := hf (i - 1) (by omega)
    rw [Nat.sub_add_cancel hi] at hc ho
    exact ⟨(h.complete hi (by omega)).trans hc, (hs i hi (by omega)).2.2.trans ho⟩
  · intro hd i hik
    obtain ⟨hc, ho⟩ := hd (i + 1) (by omega) (by omega)
    exact ⟨(h.complete (by omega) (by omega)).symm.trans hc, (hs (i + 1) (by omega) (by omega)).2.2.symm.trans ho⟩

theorem alike_fields (h : ScoredAlike n sheet acc) (h1 : 1 ≤ k) (h10 : k ≤ 10) :
    ((frameAt acc.1 k).balls.map fun e => (e.count, e.faced, e.after, e.foul)) =
      (frameAt sheet k).balls.map fun e => (e.count, e.faced, e.after, e.foul) := by
  have := congrArg (List.map fun e : BallEntry => (e.count, e.faced, e.after, e.foul)) (h.alike k h1 h10)
  rwa [List.map_map, List.map_map] at this

/-- The pending list is the frames that still wait, in order (R36). -/
theorem pending_eq (h : ScoredAlike n sheet acc) (hs : FramesScored sheet acc.1) :
    acc.2 = ((List.range 10).map (· + 1)).filter fun k => decide (Safety.stillOwed sheet k ≠ 0) := by
  have hsorted : acc.2.SortedLT := (h.ok.order.imp And.left).sortedLT
  have htenth : Safety.stillOwed sheet 10 = 0 := by
    simp [Safety.stillOwed, owedWhenComplete_tenth]
  refine hsorted.eq_of_mem_iff ?_ fun k => ?_
  · exact (List.Pairwise.filter _ (by decide)).sortedLT
  · rw [h.ok.owes, List.mem_filter]
    have hrange : k ∈ (List.range 10).map (· + 1) ↔ 1 ≤ k ∧ k ≤ 10 := by
      simp only [List.mem_map, List.mem_range]
      exact ⟨by rintro ⟨i, hi, rfl⟩; omega, fun hk => ⟨k - 1, by omega, by omega⟩⟩
    rw [hrange, decide_eq_true_iff]
    constructor
    · rintro ⟨h1, h9, ho⟩
      exact ⟨⟨h1, by omega⟩, (hs k h1 (by omega)).2.2 ▸ ho⟩
    · rintro ⟨⟨h1, h10⟩, ho⟩
      have hk : k ≠ 10 := by rintro rfl; exact ho htenth
      exact ⟨h1, by omega, (hs k h1 h10).2.2.symm ▸ ho⟩

end ScoredAlike

/-- The scored sheet's score is the running score of bowling. -/
theorem FramesScored.scoreThrough {scored : List FrameRec} (h : FramesScored sheet scored) (h10 : k ≤ 10) :
    scoreThrough scored k = Safety.runningScore sheet k := by
  refine congrArg List.sum (List.map_congr_left fun i hi => ?_)
  have hik := List.mem_range.mp hi
  obtain ⟨hbase, hbonus, -⟩ := h (i + 1) (by omega) (by omega)
  rw [hbase, hbonus]

end

/-- Settles O25: play reaches a legal sheet ball by ball, and each ball keeps the rebuild scored. -/
theorem rebuiltSheetScoresBowling : Obligations.RebuiltSheetScoresBowling := by
  unfold Obligations.RebuiltSheetScoresBowling
  intro sheet hlegal
  obtain ⟨n, hn, hn10, h⟩ := SheetLegal.inTurn hlegal
  have ha := h.scoredAlike
  have hs := h.scored hn hn10
  refine ⟨ha.ok.length, fun k h1 h10 => ?_, ha.pending_eq hs.frames, ha.ok.few⟩
  obtain ⟨hbase, hbonus, howed⟩ := hs.frames k h1 h10
  refine ⟨ha.alike_fields h1 h10, hbase, hbonus, howed, ?_⟩
  have hfinal := ha.finalFrame_iff hs.frames h10
  split
  next hf => rw [hs.full k h1 h10 (hfinal.mp hf), hs.frames.scoreThrough h10]
  next hf => exact Option.eq_none_iff_forall_ne_some.mpr fun m hm => hf (hfinal.mpr (hs.right k h1 h10 m hm).1)

end Sys2Proof.Machine

namespace Sys2Proof.Machine

/-! ### The lowest-numbered pins of a leave (R80) -/

section
variable {x y : Leave}

theorem getLsbD_and_not (x y : Leave) (i : Nat) :
    (x &&& ~~~y).getLsbD i = true ↔ x.getLsbD i = true ∧ y.getLsbD i = false := by
  rw [BitVec.getLsbD_and, BitVec.getLsbD_not, Bool.and_eq_true]
  refine and_congr_right fun hi => ?_
  simp [BitVec.lt_of_getLsbD hi]

theorem leaveSize_le_of_within (h : leaveWithin x y = true) : leaveSize x ≤ leaveSize y := by
  rw [leaveSize_eq_card, leaveSize_eq_card]
  exact Finset.card_le_card (leavePins_subset_iff.mpr h)

/-- Two leaves without a common pin add up. -/
theorem leaveSize_or (h : ∀ i, x.getLsbD i = true → y.getLsbD i = false) :
    leaveSize (x ||| y) = leaveSize x + leaveSize y := by
  have hor : leavePins (x ||| y) = leavePins x ∪ leavePins y := by ext i; simp
  have hdisj : Disjoint (leavePins x) (leavePins y) := Finset.disjoint_left.mpr fun i hx hy => by
    rw [mem_leavePins] at hx hy
    simp [h i hx] at hy
  rw [leaveSize_eq_card, hor, Finset.card_union_of_disjoint hdisj, ← leaveSize_eq_card, ← leaveSize_eq_card]

/-- The pins that are left when pins of a leave are taken out. -/
theorem leaveSize_and_not (h : leaveWithin y x = true) : leaveSize (x &&& ~~~y) = leaveSize x - leaveSize y := by
  have hdiff : leavePins (x &&& ~~~y) = leavePins x \ leavePins y := by
    ext i
    rw [mem_leavePins, getLsbD_and_not]
    simp
  rw [leaveSize_eq_card, hdiff, Finset.card_sdiff_of_subset (leavePins_subset_iff.mpr h), ← leaveSize_eq_card,
    ← leaveSize_eq_card]

theorem leaveSize_lowestPin (h : 0 < leaveSize x) : leaveSize (lowestPin x) = 1 := by
  rw [leaveSize_eq_card] at h
  obtain ⟨j, hj⟩ := Finset.card_pos.mp h
  obtain ⟨m, -, honly⟩ := exists_lowestPin (mem_leavePins.mp hj)
  have hone : leavePins (lowestPin x) = {m} := by
    ext i
    simpa using honly i
  rw [leaveSize_eq_card, hone, Finset.card_singleton]

/-- As many pins as asked for, where the leave has them. -/
theorem leaveSize_lowestPins {n : Nat} (h : n ≤ leaveSize x) : leaveSize (lowestPins n x) = n := by
  induction n generalizing x with
  | zero => exact (by decide : leaveSize clearDeck = 0)
  | succ n ih =>
    have hlow : leaveSize (lowestPin x) = 1 := leaveSize_lowestPin (by omega)
    have hrest : leaveSize (x &&& ~~~(lowestPin x)) = leaveSize x - 1 :=
      hlow ▸ leaveSize_and_not (leaveWithin_and_left _ _)
    have hdisj : ∀ i, (lowestPin x).getLsbD i = true →
        (lowestPins n (x &&& ~~~(lowestPin x))).getLsbD i = false := fun i hi =>
      Bool.eq_false_iff.mpr fun hr => by
        simp [((getLsbD_and_not _ _ i).mp (leaveWithin_iff.mp (leaveWithin_lowestPins n _) i hr)).2] at hi
    rw [lowestPins, leaveSize_or hdisj, hlow, ih (by omega), Nat.add_comm]

/-- Below a pin that is taken, every pin of the leave is taken. -/
theorem lowestPins_lower {n i j : Nat} (hij : i < j) (hj : (lowestPins n x).getLsbD j = true)
    (hi : x.getLsbD i = true) : (lowestPins n x).getLsbD i = true := by
  induction n generalizing x with
  | zero => simp [lowestPins] at hj
  | succ n ih =>
    rw [lowestPins, BitVec.getLsbD_or, Bool.or_eq_true] at hj ⊢
    rcases hj with hj | hj
    · simp [((getLsbD_lowestPin x j).mp hj).2 i hij] at hi
    · cases hl : (lowestPin x).getLsbD i with
      | true => exact .inl rfl
      | false => exact .inr (ih hj ((getLsbD_and_not _ _ i).mpr ⟨hi, hl⟩))

end

/-! ### The new leave of a correction (R80) -/

section
variable {faced after : Leave} {c : Nat}

/-- Pins put back, where the count is not above what the ball as it stands knocked. -/
theorem leaveOfCount_putBack (h : c ≤ leaveSize faced - leaveSize after) :
    leaveOfCount faced after c =
      after ||| lowestPins (leaveSize faced - leaveSize after - c) (faced &&& ~~~after) := if_pos h

/-- Pins taken down, where the count is not below what the ball as it stands knocked. -/
theorem leaveOfCount_takeDown (h : leaveSize faced - leaveSize after ≤ c) :
    leaveOfCount faced after c = after &&& ~~~(lowestPins (c - (leaveSize faced - leaveSize after)) after) := by
  rcases Nat.lt_or_eq_of_le h with hlt | rfl
  · exact if_neg (by omega)
  · rw [leaveOfCount_putBack le_rfl, Nat.sub_self, lowestPins, lowestPins, clearDeck, BitVec.or_zero, BitVec.not_zero,
      BitVec.and_allOnes]

/-- A count that puts pins back: the pins and their order. -/
theorem leaveOfCount_putBack_spec (hw : leaveWithin after faced = true) (h : c ≤ leaveSize faced - leaveSize after) :
    leaveSize (leaveOfCount faced after c) = leaveSize faced - c ∧
    leaveWithin after (leaveOfCount faced after c) = true ∧
    ∀ i j, i < j → (leaveOfCount faced after c).getLsbD j = true → after.getLsbD j = false → faced.getLsbD i = true →
      (leaveOfCount faced after c).getLsbD i = true := by
  have hle := leaveSize_le_of_within hw
  have hdown := leaveSize_and_not hw
  rw [leaveOfCount_putBack h]
  refine ⟨?_, leaveWithin_iff.mpr fun i hi => by simp [hi], fun i j hij hj ha hf => ?_⟩
  · rw [leaveSize_or, leaveSize_lowestPins (by omega)]
    · omega
    · refine fun i hi => Bool.eq_false_iff.mpr fun hl => ?_
      simp [((getLsbD_and_not _ _ i).mp (leaveWithin_iff.mp (leaveWithin_lowestPins _ _) i hl)).2] at hi
  · rw [BitVec.getLsbD_or, Bool.or_eq_true] at hj ⊢
    cases hi : after.getLsbD i with
    | true => exact .inl rfl
    | false =>
      exact .inr (lowestPins_lower hij (hj.resolve_left (by simp [ha])) ((getLsbD_and_not _ _ i).mpr ⟨hf, hi⟩))

/-- A count that takes pins down: the pins and their order. -/
theorem leaveOfCount_takeDown_spec (hw : leaveWithin after faced = true) (hc : c ≤ leaveSize faced)
    (h : leaveSize faced - leaveSize after ≤ c) :
    leaveSize (leaveOfCount faced after c) = leaveSize faced - c ∧
    leaveWithin (leaveOfCount faced after c) after = true ∧
    ∀ i j, i < j → after.getLsbD j = true → (leaveOfCount faced after c).getLsbD j = false →
      (leaveOfCount faced after c).getLsbD i = false := by
  have hle := leaveSize_le_of_within hw
  rw [leaveOfCount_takeDown h]
  refine ⟨?_, leaveWithin_and_left _ _, fun i j hij hj hn => Bool.eq_false_iff.mpr fun hi => ?_⟩
  · rw [leaveSize_and_not (leaveWithin_lowestPins _ _), leaveSize_lowestPins (by omega)]
    omega
  · obtain ⟨hai, hli⟩ := (getLsbD_and_not _ _ i).mp hi
    have hlj : (lowestPins (c - (leaveSize faced - leaveSize after)) after).getLsbD j = true := by
      by_contra hl
      simp [(getLsbD_and_not after _ j).mpr ⟨hj, Bool.eq_false_iff.mpr hl⟩] at hn
    simp [lowestPins_lower hij hlj hai] at hli

/-- The leave built from a count leaves exactly the pins that the count leaves (R80). -/
theorem leaveSize_leaveOfCount (hw : leaveWithin after faced = true) (hc : c ≤ leaveSize faced) :
    leaveSize (leaveOfCount faced after c) = leaveSize faced - c :=
  (Nat.le_total c (leaveSize faced - leaveSize after)).elim (fun h => (leaveOfCount_putBack_spec hw h).1)
    fun h => (leaveOfCount_takeDown_spec hw hc h).1

end

/-! ### The later balls of a corrected frame (R81) -/

/-- A list with one more entry begins another list exactly when it does without that entry, which stands next. -/
theorem prefix_concat_iff_getElem? {α : Type} {xs ys : List α} {a : α} :
    xs ++ [a] <+: ys ↔ xs <+: ys ∧ ys[xs.length]? = some a := by
  constructor
  · rintro ⟨zs, rfl⟩
    exact ⟨⟨[a] ++ zs, by simp⟩, by simp⟩
  · rintro ⟨⟨zs, rfl⟩, h⟩
    cases zs with
    | nil => simp at h
    | cons z rest =>
      obtain rfl : z = a := by simpa using h
      exact ⟨rest, by simp⟩

/-- A ball of frame `k`, the `i`-th counted from 0, as it stands among the frame's balls `new`: it keeps its leave and foul
flag, and faces what the balls before it leave (R81). -/
def FacesAnew (k : Nat) (new : List BallEntry) (i : Nat) (y : BallEntry) : Prop :=
  leaveWithin y.after (nextLeave k (new.take i)) = true ∧
  new[i]? = some (makeEntry k (i + 1) (nextLeave k (new.take i)) y.after y.foul y.source y.mismatch)

/-- The entries derived again in order are the earlier ones, and each later one as it faces those before it (R81). -/
theorem rederive_eq_some {k : Nat} {earlier later new : List BallEntry} :
    rederive k earlier later = some new ↔
      new.length = earlier.length + later.length ∧ earlier <+: new ∧
      ∀ i y, later[i]? = some y → FacesAnew k new (earlier.length + i) y := by
  induction later generalizing earlier with
  | nil =>
    simp only [rederive, Option.some.injEq, List.length_nil, Nat.add_zero, List.getElem?_nil, reduceCtorEq,
      false_implies, implies_true, and_true]
    exact ⟨fun h => h ▸ ⟨rfl, List.prefix_refl _⟩, fun ⟨hl, hp⟩ => hp.eq_of_length hl.symm⟩
  | cons e rest ih =>
    have hfaced : ∀ hp : earlier <+: new, new.take earlier.length = earlier := fun hp =>
      (List.prefix_iff_eq_take.mp hp).symm
    have hstep : rederive k earlier (e :: rest) = some new ↔
        leaveWithin e.after (nextLeave k earlier) = true ∧ rederive k (earlier ++
          [makeEntry k (earlier.length + 1) (nextLeave k earlier) e.after e.foul e.source e.mismatch]) rest = some new := by
      simp only [rederive, Option.ite_none_right_eq_some]
    rw [hstep, ih, prefix_concat_iff_getElem?]
    simp only [List.length_append, List.length_cons, List.length_nil, Nat.zero_add]
    constructor
    · rintro ⟨hw, hl, ⟨hp, hn⟩, hlater⟩
      refine ⟨by omega, hp, fun i y hy => ?_⟩
      cases i with
      | zero =>
        cases hy
        exact ⟨by rwa [Nat.add_zero, hfaced hp], by rwa [Nat.add_zero, hfaced hp]⟩
      | succ i => exact (by omega : earlier.length + (i + 1) = earlier.length + 1 + i) ▸ hlater i y hy
    · rintro ⟨hl, hp, hlater⟩
      obtain ⟨hw, hn⟩ := hlater 0 e rfl
      rw [Nat.add_zero, hfaced hp] at hw hn
      exact ⟨hw, by omega, ⟨hp, hn⟩, fun i y hy =>
        (by omega : earlier.length + (i + 1) = earlier.length + 1 + i) ▸ hlater (i + 1) y hy⟩

/-- The first entries of a list begin another list exactly when that list has them at the same places. -/
theorem take_prefix_iff {α : Type} {xs ys : List α} {n : Nat} (h : n ≤ xs.length) :
    xs.take n <+: ys ↔ ∀ i < n, ys[i]? = xs[i]? := by
  simp only [List.prefix_iff_getElem?, List.length_take, min_eq_left h, List.getElem_take]
  refine forall₂_congr fun i hi => ?_
  rw [List.getElem?_eq_getElem (l := xs) (by omega)]

/-- The balls of a frame with its `j`-th corrected (R80, R81). -/
theorem correctedBalls_eq_some {k j : Nat} {balls new : List BallEntry} {x : BallEntry} {after : Leave} {foul : Bool}
    (h1 : 1 ≤ j) (hj : j ≤ balls.length) :
    correctedBalls k j balls x after foul = some new ↔
      new.length = balls.length ∧ (∀ i, i < j - 1 → new[i]? = balls[i]?) ∧
      new[j - 1]? = some (makeEntry k j x.faced after foul .corrected false) ∧
      ∀ i y, j ≤ i → balls[i]? = some y → FacesAnew k new i y := by
  have hlen : (balls.take (j - 1)).length = j - 1 := by rw [List.length_take]; omega
  unfold correctedBalls
  rw [rederive_eq_some, prefix_concat_iff_getElem?, take_prefix_iff (by omega)]
  simp only [List.length_append, hlen, List.length_singleton, List.length_drop, List.getElem?_drop,
    show j - 1 + 1 = j by omega, show j + (balls.length - j) = balls.length by omega, and_assoc]
  refine and_congr_right fun _ => and_congr_right fun _ => and_congr_right fun _ => ?_
  exact ⟨fun h i y hi hy => (by omega : j + (i - j) = i) ▸ h (i - j) y (by rwa [show j + (i - j) = i by omega]),
    fun h i y hy => h (j + i) y (by omega) hy⟩

/-! ### The shape (R82, R83) -/

/-- The shape of frames 1 to 9 (R82). -/
theorem shapeKept_open {marked : Bool} {k : Nat} {before after : List BallEntry} (hk : k ≤ 9) :
    shapeKept marked k before after = true ↔
      (firstIsStrike before = true ↔ firstIsStrike after = true) ∨
      (firstIsStrike after = true ∧ before.length = 1) ∨ (firstIsStrike before = true ∧ marked = true) := by
  simp only [shapeKept, if_pos hk, shapeOpen]
  cases hb : firstIsStrike before with
  | true => cases ha : firstIsStrike after <;> simp
  | false => cases ha : firstIsStrike after <;> simp

/-- The shape of frame 10 (R83). -/
theorem shapeKept_tenth {marked : Bool} {k : Nat} {before after : List BallEntry} (hk : 10 ≤ k) :
    shapeKept marked k before after = true ↔
      (before.length = 3 ∨ ballsComplete 10 before = true → thirdAllowed before = thirdAllowed after) := by
  simp only [shapeKept, if_neg (show ¬k ≤ 9 by omega), shapeTenth]
  by_cases hc : before.length = 3 ∨ ballsComplete 10 before = true
  · simp [hc]
  · simp [hc]

/-! ### Deck-stale and the reply (R77, R90) -/

/-- Deck-stale set, as one write of the lane and its notice (R65). -/
theorem setStale_eq (l : Lane) (s : State) :
    setStale l s = if (s.sup l).stale = true then s
      else raiseNotice .staleDeck (scopeOfLane l) (s.setLane l { s.lane l with sup := { s.sup l with stale := true } }) :=
  rfl

/-- Deck-stale after a correction is left alone where the Next Deck did not change, nothing is latched, a cycle has yet to
latch, or the latched leave is the Next Deck; else it is set (R90). -/
theorem staleAfterCorrection_eq (l : Lane) (before : Leave) (s : State) :
    staleAfterCorrection l before s =
      if (s.sup l).nextDeck = before ∨ (∃ c ∈ (s.sup l).cycleRec, c.latched = false) ∨ (s.sup l).latched = none ∨
        (s.sup l).latched = some (s.sup l).nextDeck then s else setStale l s := by
  unfold staleAfterCorrection
  dsimp only
  by_cases hd : (s.sup l).nextDeck = before
  · rw [if_pos hd, if_pos (.inl hd)]
  · rw [if_neg hd]
    cases hl : (s.sup l).latched with
    | none => cases hc : (s.sup l).cycleRec <;> simp
    | some x =>
      cases hc : (s.sup l).cycleRec with
      | none => exact if_congr (by simp [hd, eq_comm (a := x)]) rfl rfl
      | some c => exact if_congr (by simp [hd, eq_comm (a := x)]) rfl rfl

/-- A ball entry's bytes (R186). -/
theorem ballBytes_eq (e : BallEntry) (m : Byte) :
    ballBytes e m = [BitVec.ofNat 8 e.count] ++ be2 e.faced.toNat ++ be2 e.after.toNat ++
      [BitVec.ofNat 8 (e.foul.toNat + 2 * e.split.toNat + 4 * e.mismatch.toNat + 8 * sourceCode e.source), m] := by
  have hflags : flagBits [e.foul, e.split, e.mismatch] = e.foul.toNat + 2 * e.split.toNat + 4 * e.mismatch.toNat := by
    cases e.foul <;> cases e.split <;> cases e.mismatch <;> rfl
  simp only [ballBytes, hflags, be1, leaveBytes, List.append_assoc, List.singleton_append]

/-- CORRECT_BALL's reply for a ball that stands (R77). -/
theorem correctionReply_eq {q : Squad} {order : List Bowler} {n k j : Nat} {b : Bowler} {e : BallEntry} {m : Byte}
    (hb : bowlerAt order n = some b) (he : (frameAt b.sheet k).balls[j - 1]? = some e)
    (hm : (marksOf k (frameAt b.sheet k).balls)[j - 1]? = some m) :
    correctionReply q order n k j = ballBytes e m ++ be1 (q.slot.getD 0) ++ be1 q.round ++ be1 q.ball := by
  simp only [correctionReply, hb, he, hm]

/-- Settles O41: the new leave by whether pins are put back or taken down, the balls behind the corrected one in order, the
shape by the frame, then deck-stale and the reply from their equations. -/
theorem correctionRules : Obligations.CorrectionRules := by
  unfold Obligations.CorrectionRules
  refine ⟨fun faced after c hw hc => ?count, fun e l n foul => ⟨?_, rfl, ?_⟩,
    fun k j balls new x after foul h1 hj => ?later, fun marked k before after => ?shape, fun l old s => ?stale,
    fun q order n k j b e m hb he hm => ?reply⟩
  case count =>
    intro new
    have hsize : leaveSize new = leaveSize faced - c := leaveSize_leaveOfCount hw hc
    exact ⟨leaveWithin_leaveOfCount hw c, by omega, fun h => (leaveOfCount_putBack_spec hw h).2,
      fun h => (leaveOfCount_takeDown_spec hw hc h).2⟩
  case later =>
    refine (correctedBalls_eq_some h1 hj).trans ?_
    simp only [FacesAnew, leaveWithin, beq_iff_eq]
    rfl
  case shape =>
    dsimp only
    simp only [← firstIsStrike_iff]
    exact ⟨fun hk => shapeKept_open hk, fun hk => shapeKept_tenth hk⟩
  case stale =>
    rw [staleAfterCorrection_eq, setStale_eq, ← ite_or]
  case reply =>
    refine (correctionReply_eq hb he hm).trans ?_
    rw [ballBytes_eq]
    simp only [be1, List.append_assoc]
    rfl
  · simp [correctedLeave, leaveWithin]
  · simp only [correctedLeave, Bool.false_eq_true, if_false, ← not_le, ite_not]

end Sys2Proof.Machine

namespace Sys2Proof.Machine

/-! ### The checks of CORRECT_BALL (R77, R78) -/

/-- A leave of a request is in range when none of its bits 10 to 15 is set (R185). -/
theorem leaveOf_isSome_iff (raw : BitVec 16) : (leaveOf raw).isSome = true ↔ raw.toNat < 1024 := by
  have hbits : raw.extractLsb' 10 6 = 0#6 ↔ raw.toNat < 1024 := by
    rw [← BitVec.toNat_inj, BitVec.extractLsb'_toNat, Nat.shiftRight_eq_div_pow]
    have hraw := raw.isLt
    simp only [BitVec.toNat_ofNat]
    omega
  unfold leaveOf
  split
  next h => simpa using hbits.mp h
  next h => simpa using mt hbits.mpr h

/-- The ranges of a correction's fields, with the field of its form given (R77). -/
def CorrectFieldsInRange (f : CorrectFields) : Prop :=
  1 ≤ f.slot.toNat ∧ f.slot.toNat ≤ 8 ∧ 1 ≤ f.frame.toNat ∧ f.frame.toNat ≤ 10 ∧ 1 ≤ f.ball.toNat ∧
  f.ball.toNat ≤ (if f.frame.toNat ≤ 9 then 2 else 3) ∧ f.expectedCount.toNat ≤ 10 ∧
  (∀ x ∈ f.newLeave, x.toNat < 1024) ∧ (∀ x ∈ f.newCount, x.toNat ≤ 10) ∧
  ((f.form = .val .leave ∧ f.newLeave ≠ none) ∨ (f.form = .val .count ∧ f.newCount ≠ none))

section
variable {f : CorrectFields}

theorem unusedFieldsOk_iff :
    unusedFieldsOk f = true ↔ (∀ x ∈ f.newLeave, x.toNat < 1024) ∧ (∀ x ∈ f.newCount, x.toNat ≤ 10) := by
  unfold unusedFieldsOk
  cases f.newLeave <;> cases f.newCount <;> simp [leaveOf_isSome_iff]

/-- With its leave and count in range, a correction has a result when the field of its form is given. -/
theorem correctionOf_isSome_iff (hl : ∀ x ∈ f.newLeave, x.toNat < 1024) (hc : ∀ x ∈ f.newCount, x.toNat ≤ 10) :
    (correctionOf f).isSome = true ↔
      (f.form = .val .leave ∧ f.newLeave ≠ none) ∨ (f.form = .val .count ∧ f.newCount ≠ none) := by
  unfold correctionOf
  match hform : f.form with
  | .bad _ => simp
  | .val .leave =>
    cases hn : f.newLeave with
    | none => simp
    | some x => simpa using (leaveOf_isSome_iff x).mpr (hl x hn)
  | .val .count =>
    cases hn : f.newCount with
    | none => simp
    | some x => simp [hc x hn]

theorem correctFieldsInRange_iff :
    CorrectFieldsInRange f ↔ correctFieldsOk f = true ∧ (correctionOf f).isSome = true := by
  simp only [CorrectFieldsInRange, correctFieldsOk, Bool.and_eq_true, decide_eq_true_eq, unusedFieldsOk_iff, and_assoc]
  refine and_congr_right fun _ => and_congr_right fun _ => and_congr_right fun _ => and_congr_right fun _ =>
    and_congr_right fun _ => and_congr_right fun _ => and_congr_right fun _ => and_congr_right fun hl =>
    and_congr_right fun hc => (correctionOf_isSome_iff hl hc).symm

end

section
variable {p : Port} {q : SquadId} {f : CorrectFields} {x : Correction} {s : State} {b : Bowler} {e : BallEntry}

theorem correctBody_of_outOfRange (h : ¬CorrectFieldsInRange f) : correctBody p (.val q) f s = refuse .range s := by
  rw [correctFieldsInRange_iff] at h
  simp only [correctBody]
  split
  next hf hx => exact absurd ⟨hf, by rw [hx]; rfl⟩ h
  next => rfl

theorem correctBody_of_inRange (h : CorrectFieldsInRange f) (hx : correctionOf f = some x) :
    correctBody p (.val q) f s = correctChecked p q f x s := by
  simp only [correctBody, (correctFieldsInRange_iff.mp h).1, hx]

theorem exists_correctionOf (h : CorrectFieldsInRange f) : ∃ x, correctionOf f = some x :=
  Option.isSome_iff_exists.mp (correctFieldsInRange_iff.mp h).2

/-- Check 3 of R78. -/
theorem correctChecked_closed (ho : (s.lane (s.squad q).current).state.inSession = false) :
    correctChecked p q f x s = refuse .state s := if_pos (by rw [ho]; rfl)

/-- Check 4 of R78, the bowler. -/
theorem correctChecked_noBowler (ho : (s.lane (s.squad q).current).state.inSession = true)
    (hb : bowlerAt (s.squad q).order f.slot.toNat = none) : correctChecked p q f x s = refuse .absent s := by
  simp [correctChecked, ho, hb]

/-- Check 4 of R78, the ball. -/
theorem correctChecked_noBall (ho : (s.lane (s.squad q).current).state.inSession = true)
    (hb : bowlerAt (s.squad q).order f.slot.toNat = some b)
    (he : (frameAt b.sheet f.frame.toNat).balls[f.ball.toNat - 1]? = none) :
    correctChecked p q f x s = refuse .absent s := by
  simp only [correctChecked, ho, hb, he]
  rfl

/-- Checks 5 and 6 of R78, and then the content. -/
theorem correctChecked_ball (ho : (s.lane (s.squad q).current).state.inSession = true)
    (hb : bowlerAt (s.squad q).order f.slot.toNat = some b)
    (he : (frameAt b.sheet f.frame.toNat).balls[f.ball.toNat - 1]? = some e) :
    correctChecked p q f x s =
      if underDelivery s q f.slot.toNat f.frame.toNat = true then refuse .state s
      else if e.count = f.expectedCount.toNat ∧ e.foul = f.expectedFoul then
        applyCorrection p q f.slot.toNat f.frame.toNat f.ball.toNat b e x f.newFoul s
      else refuse .stale s := by
  have hstale : (e.count ≠ f.expectedCount.toNat ∨ e.foul ≠ f.expectedFoul) ↔
      ¬(e.count = f.expectedCount.toNat ∧ e.foul = f.expectedFoul) := not_and_or.symm
  simp only [correctChecked, ho, hb, he, hstale, ite_not]
  rfl

end

theorem underDelivery_iff (s : State) (q : SquadId) (n k : Nat) :
    underDelivery s q n k = true ↔
      ((s.sup (s.squad q).current).cycle = .ballIn ∨ (s.sup (s.squad q).current).cycle = .reading ∨
        (s.sup (s.squad q).current).cycle = .entry) ∧ (s.squad q).slot = some n ∧ (s.squad q).round = k := by
  simp [underDelivery, delivering_iff, and_assoc]

@[simp] theorem underDelivery_heard (e : Envelope) (code : Byte) (s : State) (q : SquadId) (n k : Nat) :
    underDelivery (Safety.heard e code s) q n k = underDelivery s q n k := by
  simp [underDelivery]

@[simp] theorem reopenNames_heard (e : Envelope) (code : Byte) (s : State) (q : SquadId) (n k : Nat) :
    reopenNames (Safety.heard e code s) q n k = reopenNames s q n k := by
  simp [reopenNames]

/-! ### The content of a correction and its effect (R80 to R92) -/

section
variable {p : Port} {q : SquadId} {l : Lane} {n k j : Nat} {b : Bowler} {e : BallEntry} {x : Correction} {foul : Bool}
  {after : Leave} {balls new : List BallEntry} {s : State}

theorem applyCorrection_noLeave (ha : correctedLeave e x foul = none) :
    applyCorrection p q n k j b e x foul s = refuse .range s := by simp only [applyCorrection, ha]

theorem applyCorrection_noBalls (ha : correctedLeave e x foul = some after)
    (hn : correctedBalls k j (frameAt b.sheet k).balls e after foul = none) :
    applyCorrection p q n k j b e x foul s = refuse .range s := by simp only [applyCorrection, ha, hn]

/-- The shape check, a correction that changes nothing, and one that is taken (R82 to R85). -/
theorem applyCorrection_balls (ha : correctedLeave e x foul = some after)
    (hn : correctedBalls k j (frameAt b.sheet k).balls e after foul = some new) :
    applyCorrection p q n k j b e x foul s =
      if shapeKept (reopenNames s q n k) k (frameAt b.sheet k).balls new = true then
        if e.after = after ∧ e.foul = foul ∧ (frameAt b.sheet k).balls.drop j = new.drop j then
          .now .ok (correctionReply (s.squad q) (s.squad q).order n k j) s
        else
          .now .ok (correctionReply ((takeCorrection p q n k b new s).squad q)
            ((s.squad q).order.set (n - 1) (rebuiltBowler k new b)) n k j) (takeCorrection p q n k b new s)
      else refuse .shape s := by
  simp only [applyCorrection, ha, hn]
  cases shapeKept (reopenNames s q n k) k (frameAt b.sheet k).balls new <;> rfl

/-- A marked strike that is taken back (R89). -/
abbrev Reopens (k : Nat) (balls new : List BallEntry) : Prop :=
  k ≤ 9 ∧ firstIsStrike balls = true ∧ firstIsStrike new = false

/-- The frame in play, not yet complete (R87, R88). -/
abbrev InFrame (v : Squad) (n k : Nat) (balls : List BallEntry) : Prop :=
  v.slot = some n ∧ v.round = k ∧ ballsComplete k balls = false

theorem rotationCase_eq (v : Squad) (n k : Nat) (balls new : List BallEntry) :
    rotationCase v n k balls new =
      if Reopens k balls new then .reopened
      else if InFrame v n k balls ∧ ballsComplete k new = false then .inPlay
      else if InFrame v n k balls then .completed
      else .untouched := by
  have hre : (k ≤ 9 ∧ firstIsStrike balls = true ∧ (!firstIsStrike new) = true) ↔ Reopens k balls new := by simp
  have hin : (v.slot = some n ∧ v.round = k ∧ (!ballsComplete k balls) = true) ↔ InFrame v n k balls := by simp
  unfold rotationCase
  refine if_congr hre rfl ?_
  rw [if_congr hin rfl rfl]
  by_cases hf : InFrame v n k balls
  · cases ballsComplete k new with
    | false => rw [if_pos hf, if_neg Bool.false_ne_true, if_pos ⟨hf, rfl⟩]
    | true => rw [if_pos hf, if_pos rfl, if_neg (fun h => Bool.false_ne_true h.2.symm), if_pos hf]
  · rw [if_neg hf, if_neg (fun h => hf h.1), if_neg hf]

/-- The supervisor takes a completed frame and a reopened one as a change of bowler (R88, R89; log entry 49). -/
theorem changesBowler_iff (v : Squad) (n k : Nat) (balls new : List BallEntry) :
    (rotationCase v n k balls new).changesBowler = true ↔
      Reopens k balls new ∨ (InFrame v n k balls ∧ ballsComplete k new = true) := by
  rw [rotationCase_eq]
  split_ifs with hre hplay hcomp
  · exact iff_of_true rfl (.inl hre)
  · exact iff_of_false Bool.false_ne_true (not_or.mpr ⟨hre, fun h => Bool.false_ne_true (hplay.2.symm.trans h.2)⟩)
  · exact iff_of_true rfl (.inr ⟨hcomp, (Bool.eq_false_or_eq_true _).resolve_right fun hb => hplay ⟨hcomp, hb⟩⟩)
  · exact iff_of_false Bool.false_ne_true (not_or.mpr ⟨hre, fun h => hcomp h.1⟩)

/-- A correction that completes the frame in play: a strike that leaves the round open is marked (R86, R88). -/
theorem chooseNext_afterStrike (q : SquadId) (l : Lane) (n k : Nat) (strike : Bool) (s : State) :
    (match markAfterStrike q n k strike (firstLacking k (s.squad q).order).isSome with
      | some m => chooseNext q l (setReopen l (some m) s)
      | none => chooseNext q l s) =
    chooseNext q l (if k ≤ 9 ∧ strike = true ∧
        ∃ y ∈ (s.squad q).order, y.status = .active ∧ frameComplete y.sheet k = false then
      setReopen l (some { squad := q, slot := n, frame := k }) s else s) := by
  unfold markAfterStrike
  simp only [← isSome_firstLacking_iff]
  split_ifs <;> rfl

/-- Rotation and the Next Deck after a correction (R87 to R89), for a squad that stands as `v` in frame and round. -/
theorem rotateCorrected_eq {v : Squad} (hslot : (s.squad q).slot = v.slot) (hround : (s.squad q).round = v.round) :
    rotateCorrected q l n k balls new s =
      if Reopens k balls new then
        setReopen l none (writeNextDeck l (nextLeave k new)
          (modSquad q (fun v => { v with slot := some n, round := k, ball := 2 }) s))
      else if InFrame v n k balls ∧ ballsComplete k new = false then writeNextDeck l (nextLeave k new) s
      else if InFrame v n k balls then
        chooseNext q l (if k ≤ 9 ∧ firstIsStrike new = true ∧
            ∃ y ∈ (s.squad q).order, y.status = .active ∧ frameComplete y.sheet k = false then
          setReopen l (some { squad := q, slot := n, frame := k }) s else s)
      else s := by
  have hin : InFrame (s.squad q) n k balls ↔ InFrame v n k balls := by rw [InFrame, InFrame, hslot, hround]
  unfold rotateCorrected
  rw [rotationCase_eq]
  simp only [hin]
  by_cases hre : Reopens k balls new
  · rw [if_pos hre, if_pos hre]
  rw [if_neg hre, if_neg hre]
  by_cases hplay : InFrame v n k balls ∧ ballsComplete k new = false
  · rw [if_pos hplay, if_pos hplay]
  rw [if_neg hplay, if_neg hplay]
  by_cases hcomp : InFrame v n k balls
  · rw [if_pos hcomp, if_pos hcomp, hround, hcomp.2.1]
    exact chooseNext_afterStrike q l n k _ s
  · rw [if_neg hcomp, if_neg hcomp]

/-- The totals of a completed game are written anew while the squad stands without a game in progress (R91; log entry 17). -/
theorem replaceTotals_eq (v : Squad) (b : Bowler) :
    replaceTotals (v.state == .forming || v.state == .gameDone) b =
      if (v.state = .forming ∨ v.state = .gameDone) ∧ frameComplete b.sheet 10 = true ∧ b.status ≠ .absent then
        { b with last := b.last.map fun g =>
            { plain := ((frameAt b.sheet 10).total).getD 0
              handicapped := ((frameAt b.sheet 10).total).getD 0 + (g.handicapped - g.plain) } }
      else b := if_congr (by simp) rfl rfl

/-- A correction taken on lane `l`: the records, deck-stale, the supervisor's decision, and the notice (R85). -/
theorem takeCorrection_eq {v : Squad} (hv : s.squad q = v) (hl : v.current = l) :
    takeCorrection p q n k b new s =
      let t := staleAfterCorrection l (s.sup l).nextDeck (corrected q n k b new s)
      enterNotice (if p = .desk then .console else .desk) { kind := .corrected, scope := scopeOfLane l }
        (if Reopens k (frameAt b.sheet k).balls new ∨
            (InFrame v n k (frameAt b.sheet k).balls ∧ ballsComplete k new = true) then bowlerChanged l t
          else t) := by
  subst hv hl
  have hother : otherMaster p = if p = .desk then .console else .desk := by cases p <;> rfl
  simp only [← changesBowler_iff, ← hother]
  rfl

end

/-- Settles O40: the checks in their order, then the records field by field, deck-stale, the decision and the notice. -/
theorem ballCorrection : Obligations.BallCorrection := by
  unfold Obligations.BallCorrection
  intro e q bad f s h0 hport h c n k j v l open' inRange delivering
  have ha := deskOrConsole_of_taken h0 hport
  have hses : ((Safety.heard e 20#8 s).lane ((Safety.heard e 20#8 s).squad q).current).state.inSession = true ↔ open' := by
    rw [heard_squad, heard_lane]
    exact inSession_iff _
  have hord : ((Safety.heard e 20#8 s).squad q).order = v.order := by rw [heard_squad]
  have hunder : underDelivery (Safety.heard e 20#8 s) q n k = true ↔ delivering := by
    rw [underDelivery_heard]
    exact underDelivery_iff s q n k
  have hchecked : ∀ (hr : inRange) {x}, correctionOf f = some x →
      correctBody e.port (.val q) f h = correctChecked e.port q f x h := fun hr _ => correctBody_of_inRange hr
  refine ⟨refuses_of rfl h0 ha rfl, fun hr => refuses_of rfl h0 ha (correctBody_of_outOfRange hr), fun hr ho => ?_,
    fun hr ho hb => ?_, fun b hb hr ho => ?_⟩
  · obtain ⟨x, hx⟩ := exists_correctionOf hr
    exact refuses_of rfl h0 ha ((hchecked hr hx).trans
      (correctChecked_closed (Bool.eq_false_iff.mpr (mt hses.mp ho))))
  · obtain ⟨x, hx⟩ := exists_correctionOf hr
    exact refuses_of rfl h0 ha ((hchecked hr hx).trans (correctChecked_noBowler (hses.mpr ho) (hord ▸ hb)))
  intro balls
  refine ⟨fun hj => ?_, fun x hx form hform => ?_⟩
  · obtain ⟨y, hy⟩ := exists_correctionOf hr
    exact refuses_of rfl h0 ha ((hchecked hr hy).trans (correctChecked_noBall (hses.mpr ho) (hord ▸ hb)
      (List.getElem?_eq_none (Nat.le_sub_one_of_lt hj))))
  intro fresh
  have hball := (hchecked hr hform).trans (correctChecked_ball (hses.mpr ho) (hord ▸ hb) hx)
  have hfresh : ¬delivering → fresh →
      correctBody e.port (.val q) f h = applyCorrection e.port q n k j b x form f.newFoul h := fun hd hf =>
    hball.trans ((if_neg (mt hunder.mp hd)).trans (if_pos hf))
  refine ⟨fun hd => refuses_of rfl h0 ha (hball.trans (if_pos (hunder.mpr hd))),
    fun hd hf => refuses_of rfl h0 ha (hball.trans ((if_neg (mt hunder.mp hd)).trans (if_neg hf))),
    fun hd hf hl => refuses_of rfl h0 ha ((hfresh hd hf).trans (applyCorrection_noLeave hl)), fun after hl hd hf =>
    ⟨fun hn => refuses_of rfl h0 ha ((hfresh hd hf).trans (applyCorrection_noBalls hl hn)), fun new hn => ?_⟩⟩
  intro marked kept same sheet b0 t10 b1 inFrame reopens t0 deck unmark lacking t1 t2 t3 t
  have ht0 : withBowler q n (replaceTotals (v.state == .forming || v.state == .gameDone) (rebuiltBowler k new b)) h = t0 := by
    rw [withBowler, modSquad_eq, replaceTotals_eq, heard_squad]
    rfl
  have ht1 : corrected q n k b new h = t1 := by
    have hv : t0.squad q = { v with order := v.order.set (n - 1) b1 } := by simp [t0]
    have hc : corrected q n k b new h = rotateCorrected q l n k balls new t0 := by
      rw [corrected, heard_squad, ← ht0]
      rfl
    rw [hc, rotateCorrected_eq (v := v) (by rw [hv]) (by rw [hv])]
    rfl
  have ht : takeCorrection e.port q n k b new h = t := by
    rw [takeCorrection_eq (heard_squad e 20#8 s q) (rfl : v.current = l), ht1, heard_sup]
  have hkept : shapeKept (reopenNames h q n k) k balls new = true ↔ kept := by
    have hmark : reopenNames h q n k = decide marked := by rw [reopenNames_heard]; exact Bool.beq_eq_decide_eq _ _
    rw [hmark]
  have hbody := (hfresh hd hf).trans (applyCorrection_balls hl hn)
  rw [heard_squad, ht] at hbody
  refine ⟨fun hk => refuses_of rfl h0 ha (hbody.trans (if_neg (mt hkept.mp hk))), fun hk hsame => ?_, fun hk hsame => ?_⟩
  · exact completes_of rfl h0 ha (hbody.trans ((if_pos (hkept.mpr hk)).trans (if_pos hsame))) (heard_port_request e 20#8 s)
  · refine completes_of rfl h0 ha (hbody.trans ((if_pos (hkept.mpr hk)).trans (if_neg hsame))) ?_
    rw [← ht]
    simp [h]

end Sys2Proof.Machine

namespace Sys2Proof.Machine

/-! ### SET_PAIR_MODE and SPLIT_PAIR (R94, R101) -/

section
variable {s : State}

/-- A squad stands between games when it is FORMING or GAME_DONE (R101). -/
theorem splittable_iff (q : SquadState) : q.splittable = true ↔ q = .forming ∨ q = .gameDone := by
  cases q <;> simp [SquadState.splittable]

/-- An account that is not in TIME mode is in GAME mode. -/
theorem mode_ne_time_iff (m : AccountMode) : m ≠ .time ↔ m = .game := by
  cases m <;> simp

/-- CROSS for a pair in SINGLE, as its three checks in their order (R94). -/
theorem crossBody_single (hm : s.pairMode = .single) :
    crossBody s =
      if (s.lane .a).state = .opened ∧ (s.lane .b).state = .opened then
        if (s.acct .a).mode = .game ∧ (s.acct .b).mode = .game then
          if (∃ b ∈ (s.squad .a).order, b.status = .active) ∧ ∃ b ∈ (s.squad .b).order, b.status = .active then
            done { s with pairMode := .cross }
          else refuse .state s
        else refuse .mode s
      else refuse .state s := by
  have hact : ∀ q, hasActive (s.squad q) = true ↔ ∃ b ∈ (s.squad q).order, b.status = .active :=
    fun q => firstActive_isSome _
  have hboth : ∀ x y : Bool, (!x || !y) = true ↔ ¬(x = true ∧ y = true) := by decide
  simp only [crossBody, hm, hboth, hact, ← mode_ne_time_iff, Ne, ← not_or, ← not_and_or, ite_not]

/-- CROSS for a pair in CROSS already (R94). -/
theorem crossBody_cross (hm : s.pairMode = .cross) : crossBody s = done s := by simp only [crossBody, hm]

/-- A split of a pair in SINGLE already (R101). -/
theorem splitBody_single (hm : s.pairMode = .single) : splitBody s = done s := by simp only [splitBody, hm]

/-- A split of a pair in CROSS (R101). -/
theorem splitBody_cross (hm : s.pairMode = .cross) :
    splitBody s = if ∀ q ∈ [(s.squad .a).state, (s.squad .b).state], q = .forming ∨ q = .gameDone then
      done { s with pairMode := .single } else refuse .state s := by
  simp [splitBody, hm, splittable_iff]

/-- A forced split of a pair in SINGLE already (R101). -/
theorem splitForceBody_single (hm : s.pairMode = .single) : splitForceBody s = done s := by simp only [splitForceBody, hm]

/-- A forced split of a pair in CROSS (R102). -/
theorem splitForceBody_cross (hm : s.pairMode = .cross) :
    splitForceBody s = done (decide52 .b (decide52 .a (splitRecords s))) := by simp only [splitForceBody, hm]

end

section
variable {c : Instr} {e : Envelope} {code : Byte} {s : State} (h0 : Safety.Taken e e.port 1 s) (hport : e.port ≠ .service)
  (hx : exec c s = request e code (deskOrConsole e) false 1 splitBody s)
include h0 hport hx

/-- A split asked of a pair in SINGLE already, by either of its two commands. -/
theorem split_completes_single (hm : s.pairMode = .single) :
    Safety.Completes c e code s .ok [] (Safety.heard e code s) :=
  completes_of hx h0 (deskOrConsole_of_taken h0 hport) (splitBody_single (by simp [hm])) (heard_port_request e code s)

/-- A split of a pair in CROSS with a squad in a game, by either of its two commands. -/
theorem split_refuses (hm : s.pairMode = .cross)
    (hs : ¬∀ q ∈ [(s.squad .a).state, (s.squad .b).state], q = .forming ∨ q = .gameDone) :
    Safety.Refuses c e code s .state :=
  refuses_of hx h0 (deskOrConsole_of_taken h0 hport)
    ((splitBody_cross (by simp [hm])).trans (if_neg (by simpa only [heard_squad] using hs)))

/-- A split of a pair in CROSS with both squads between games, by either of its two commands. -/
theorem split_completes_cross (hm : s.pairMode = .cross)
    (hs : ∀ q ∈ [(s.squad .a).state, (s.squad .b).state], q = .forming ∨ q = .gameDone) :
    Safety.Completes c e code s .ok [] { Safety.heard e code s with pairMode := .single } :=
  completes_of hx h0 (deskOrConsole_of_taken h0 hport)
    ((splitBody_cross (by simp [hm])).trans (if_pos (by simpa only [heard_squad] using hs))) (heard_port_request e code s)

end

/-! ### The records of a forced split (R102) -/

/-- The squads of a pair that stand on their home lanes keep their names, and both lanes lose SWAP. -/
theorem readyToSplit_home {s : State} (hc : (s.squad .a).current = .a) :
    readyToSplit s = { s with
      pairMode := .single
      lanes := { a := { s.lanes.a with holds := s.lanes.a.holds.put .swap false }
                 b := { s.lanes.b with holds := s.lanes.b.holds.put .swap false } } } :=
  congrArg dropSwapHolds (if_pos hc)

/-- The squads of a pair that stand on each other's lanes exchange their names there, and both lanes lose SWAP. -/
theorem readyToSplit_swapped {s : State} (hc : (s.squad .a).current = .b) :
    readyToSplit s = { s with
      pairMode := .single
      squads := { a := { s.squads.b with home := .a, current := .a }, b := { s.squads.a with home := .b, current := .b } }
      lanes :=
        { a := { s.lanes.a with
            holds := s.lanes.a.holds.put .swap false, squad := .a
            reopen := s.lanes.a.reopen.map fun m => { m with squad := m.squad.other } }
          b := { s.lanes.b with
            holds := s.lanes.b.holds.put .swap false, squad := .b
            reopen := s.lanes.b.reopen.map fun m => { m with squad := m.squad.other } } } } :=
  congrArg dropSwapHolds (if_neg (ne_of_eq_of_ne hc (by decide)))

/-- A squad taken by a forced split (R102): waiting for a swap it enters its next round, its game done it goes on as after
a game in SINGLE, and otherwise it stays. -/
theorem splitSquad_eq (q : SquadId) (s : State) :
    splitSquad q s =
      if (s.squad q).state = .swapWait then
        (s.setSquad q { s.squad q with
          state := .bowling, round := (s.squad q).round + 1, ball := 1, slot := firstActive (s.squad q).order }).setLane
          (s.squad q).current
          { s.lane (s.squad q).current with sup := { s.sup (s.squad q).current with nextDeck := fullRack } }
      else if (s.squad q).state = .gameDone then
        afterGame q (s.squad q).current
          (s.setSquad q { s.squad q with order := (s.squad q).order.map convertWaiting })
      else s := by
  rw [splitSquad]
  cases (s.squad q).state <;> rfl

/-- Settles O44: the answers by the pair's mode and the checks, then the forced split's records squad by squad. -/
theorem pairModeRequests : Obligations.PairModeRequests := by
  unfold Obligations.PairModeRequests
  refine ⟨fun e bad s h0 hport => ?requests, fun s => ?records⟩
  case requests =>
    intro cross single h h' bothOpen bothGame bothActive splits
    have ha := deskOrConsole_of_taken h0 hport
    have hmode : ∀ code, (Safety.heard e code s).pairMode = s.pairMode := fun code => by simp
    have hcross : s.pairMode = .single → crossBody h =
        if bothOpen then if bothGame then if bothActive then done { h with pairMode := .cross } else refuse .state h
          else refuse .mode h else refuse .state h := fun hm => by
      simpa only [h, heard_lane, heard_acct, heard_squad] using crossBody_single ((hmode 22#8).trans hm)
    have hreq := heard_port_request e
    refine ⟨refuses_of rfl h0 ha rfl, fun hm => ?already, fun hm ho => ?notOpen, fun hm ho hg => ?notGame,
      fun hm ho hg hb => ?noneActive, fun hm ho hg hb => ?joined,
      fun hm => ⟨split_completes_single h0 hport rfl hm, split_completes_single h0 hport rfl hm⟩,
      fun hm hs => ⟨split_refuses h0 hport rfl hm hs, split_refuses h0 hport rfl hm hs⟩,
      fun hm hs => ⟨split_completes_cross h0 hport rfl hm hs, split_completes_cross h0 hport rfl hm hs⟩,
      fun hp hm => ?forceSingle, fun hp hm => ?forced⟩
    case already => exact completes_of rfl h0 ha (crossBody_cross ((hmode _).trans hm)) (hreq _ s)
    case notOpen => exact refuses_of rfl h0 ha ((hcross hm).trans (if_neg ho))
    case notGame => exact refuses_of rfl h0 ha ((hcross hm).trans ((if_pos ho).trans (if_neg hg)))
    case noneActive => exact refuses_of rfl h0 ha ((hcross hm).trans ((if_pos ho).trans ((if_pos hg).trans (if_neg hb))))
    case joined =>
      exact completes_of rfl h0 ha ((hcross hm).trans ((if_pos ho).trans ((if_pos hg).trans (if_pos hb)))) (hreq _ s)
    case forceSingle =>
      exact completes_of rfl h0 (beq_iff_eq.mpr hp) (splitForceBody_single ((hmode _).trans hm)) (hreq _ s)
    case forced =>
      exact completes_of rfl h0 (beq_iff_eq.mpr hp) (splitForceBody_cross ((hmode _).trans hm)) (by simp [h'])
  case records =>
    intro swapped name placed t goesOn
    have ht : readyToSplit s = t := by
      rcases hc : (s.squad .a).current with _ | _
      · have hswap : ¬swapped := by simp [swapped, hc]
        simp only [readyToSplit_home hc, t, name, placed, if_neg hswap]
      · have hswap : swapped := hc
        simp only [readyToSplit_swapped hc, t, name, placed, if_pos hswap]
    have hgo : ∀ q u, splitSquad q u = goesOn q u := splitSquad_eq
    rw [splitRecords_eq, ht, hgo, hgo]

end Sys2Proof.Machine

namespace Sys2Proof.Machine

/-! ### The ball return's moves, by its state (R108 to R115) -/

/-- Balls wait in the return queue: a pit exit joins them, and an arrival takes the head (R108, R109). -/
abbrev ReturnMonitor.waits (m : ReturnMonitor) : Prop := m.state = .carrying ∨ m.state = .clearing ∨ m.state = .jammed

section
variable {l : Lane} {s : State}

theorem takePitExit_idle (h : s.ret.state = .idle) :
    takePitExit l s = modReturn (fun m =>
      { m with queue := m.queue ++ [exitEntry l s], lift := .forward, state := .carrying }) s := by
  simp only [takePitExit, h]

theorem takePitExit_waits (h : s.ret.waits) : takePitExit l s = joinQueue l s := by
  rcases h with h | h | h <;> simp only [takePitExit, h]

theorem takePitExit_still (h : s.ret.state = .fault ∨ s.ret.state = .off) : takePitExit l s = s := by
  rcases h with h | h <;> simp only [takePitExit, h]

theorem takeArrival_stray (h : s.ret.state = .idle ∨ s.ret.state = .carrying ∧ s.ret.queue = []) :
    takeArrival s = strayArrival s := by
  rcases h with h | ⟨h, hq⟩
  · simp only [takeArrival, h]
  · simp [takeArrival, h, hq]

theorem takeArrival_head (h : s.ret.state = .carrying ∧ s.ret.queue ≠ [] ∨ s.ret.state = .clearing) :
    takeArrival s = headArrives s := by
  rcases h with ⟨h, hq⟩ | h
  · simp [takeArrival, h, hq]
  · simp only [takeArrival, h]

theorem takeArrival_jammed (h : s.ret.state = .jammed) : takeArrival s = jamFreed s := by
  simp only [takeArrival, h]

theorem takeArrival_still (h : s.ret.state = .fault ∨ s.ret.state = .off) : takeArrival s = s := by
  rcases h with h | h <;> simp only [takeArrival, h]

/-- The head entry is overdue when its transit age exceeds the limit held (R111). -/
theorem headOverdue_iff : headOverdue s = true ↔ ∃ x ∈ s.ret.queue.head?, 100 * s.ret.limit < transitAge s x := by
  unfold headOverdue
  cases s.ret.queue <;> simp

/-- The head's arrival leaves the run-on running when its ball was the last (R109, R110). -/
theorem headArrives_eq :
    headArrives s = { s with ret := { s.ret with
      state := .carrying, queue := s.ret.queue.tail, ageBase := some s.tick, runOn := decide (s.ret.queue.length ≤ 1)
      attempt := 0, phase := none, lift := .forward } } := by
  have hrun : s.ret.queue.tail.isEmpty = decide (s.ret.queue.length ≤ 1) := by
    rcases s.ret.queue with _ | ⟨x, _ | ⟨y, rest⟩⟩ <;> simp
  simp [headArrives, modReturn, hrun]

theorem takeForwardEnd_still (h : s.ret.phase ≠ some .forward) : takeForwardEnd s = s := if_neg h

theorem takeForwardEnd_attempt (h : s.ret.phase = some .forward) (ha : s.ret.attempt < 3) :
    takeForwardEnd s = startAttempt (s.ret.attempt + 1) s := (if_pos h).trans (if_pos ha)

theorem takeForwardEnd_jam (h : s.ret.phase = some .forward) (ha : 3 ≤ s.ret.attempt) :
    takeForwardEnd s = declareJam s := (if_pos h).trans (if_neg (Nat.not_lt.mpr ha))

end

/-- Settles O2: the idle tick, its console and its two meters written out. -/
theorem emptyQueueIsOneCoreTick : Obligations.EmptyQueueIsOneCoreTick := by
  unfold Obligations.EmptyQueueIsOneCoreTick
  intro s hq
  have hlane : ∀ r : LaneRec,
      tickLane r = { r with runTicks := if meterRunning r then min 99 (r.runTicks + 1) else r.runTicks } := by
    intro r
    unfold tickLane
    split <;> rfl
  have hconsole : readyConsole s.console = { s.console with
      phase := if s.console.phase = .executing ∧ s.console.outgoing ≠ [] then .replyReady else s.console.phase } := by
    unfold readyConsole
    simp only [List.isEmpty_iff]
    split <;> rfl
  simp only [step, hq, idleTick, hlane, hconsole, tickModulus]

/-- Settles O53: each sensor and timer by the return state it finds. -/
theorem returnEvents : Obligations.ReturnEvents := by
  unfold Obligations.ReturnEvents
  intro l s hon m held freed x age waits arrived attempt
  have hage : ∀ y, transitAge s y = age y := fun _ => rfl
  refine ⟨fun h => does_of rfl hon (takePitExit_idle h),
    fun h hq => does_of rfl hon ((takePitExit_waits h).trans (if_pos hq)),
    fun h hq => does_of rfl hon ((takePitExit_waits h).trans (if_neg (Nat.not_lt.mpr hq))),
    fun h => ⟨does_of rfl hon (takePitExit_still h), does_of rfl hon (takeArrival_still h)⟩,
    fun h => does_of rfl hon (takeArrival_stray h),
    fun h => does_of rfl hon ((takeArrival_head h).trans headArrives_eq),
    fun h => does_of rfl hon ((takeArrival_jammed h).trans ?freed),
    does_of rfl hon rfl, does_of rfl hon (if_congr ?overdue rfl rfl), does_of rfl hon rfl,
    fun h => does_of rfl hon (takeForwardEnd_still h), fun h ha => does_of rfl hon (takeForwardEnd_attempt h ha),
    fun h ha => does_of rfl hon ((takeForwardEnd_jam h ha).trans ?jam)⟩
  case freed => rw [jamFreed, headArrives_eq]; rfl
  case overdue => simp only [headOverdue_iff, hage]; rfl
  case jam => rw [declareJam, modReturn, Counter.raise_eq]; rfl

end Sys2Proof.Machine

namespace Sys2Proof.Machine

/-! ### The service requests of the ball return (R117 to R119) -/

section
variable {e : Envelope} {len : Nat} {s : State}

theorem serviceOnly_of_taken (h : Safety.Taken e .service len s) : serviceOnly e = true := by simp [serviceOnly, h.2.1]

theorem ReturnState.holdsLanes_iff (st : ReturnState) : st.holdsLanes = true ↔ st = .jammed ∨ st = .fault := by
  cases st <;> simp [ReturnState.holdsLanes]

/-- The track emptied (R117, R118), by the return state before. -/
theorem emptyReturn_eq (st : ReturnState) (s : State) :
    emptyReturn st s = if s.ret.state = .jammed ∨ s.ret.state = .fault then
        raisePair .returnOk (removeReturnHolds (modReturn (ReturnMonitor.emptied st) s))
      else modReturn (ReturnMonitor.emptied st) s := by
  unfold emptyReturn
  exact if_congr (ReturnState.holdsLanes_iff _) rfl rfl

@[simp] theorem emptyReturn_ret (st : ReturnState) (s : State) : (emptyReturn st s).ret = s.ret.emptied st := by
  rw [emptyReturn_eq]
  split <;> simp

/-- The transit limit that SET_RETURN leaves (R118). -/
def limitSet (limit : Option Byte) (old : Nat) : Nat := (limit.map fun b => max 8 (min 60 b.toNat)).getD old

/-- SET_RETURN's transit limit in force (R111, R118): the head entry may be overdue under it. -/
theorem applyLimit_eq (limit : Option Byte) (s : State) :
    applyLimit limit s = { s with ret :=
      if limit ≠ none ∧ s.ret.state = .carrying ∧
          ∃ x ∈ s.ret.queue.head?, 100 * limitSet limit s.ret.limit < transitAge s x then
        { s.ret with limit := limitSet limit s.ret.limit, state := .clearing, attempt := 1, phase := some .reverse,
                     lift := .reverse }
      else { s.ret with limit := limitSet limit s.ret.limit } } := by
  cases limit with
  | none => rfl
  | some b =>
    let t := modReturn (fun m => { m with limit := clamp 8 60 b.toNat }) s
    have hlate : t.ret.state = .carrying ∧ headOverdue t = true ↔ some b ≠ none ∧ s.ret.state = .carrying ∧
        ∃ x ∈ s.ret.queue.head?, 100 * limitSet (some b) s.ret.limit < transitAge s x := by
      simp only [headOverdue_iff, ne_eq, reduceCtorEq, not_false_eq_true, true_and]
      rfl
    rcases takeTransit_cases t with ⟨hs, ho, he⟩ | ⟨hn, he⟩
    · rw [if_pos (hlate.mp ⟨hs, ho⟩)]
      exact he
    · rw [if_neg (mt hlate.mpr hn)]
      exact he

theorem applyPower_eq (power : Option OnOff) (s : State) :
    applyPower power s = if power = some .off ∧ s.ret.state ≠ .off then emptyReturn .off s
      else if power = some .on ∧ s.ret.state = .off then { s with ret := { s.ret with state := .idle } } else s := by
  rcases power with _ | _ | _
  · rfl
  · by_cases h : s.ret.state = .off <;> simp [applyPower, h, modReturn]
  · by_cases h : s.ret.state = .off <;> simp [applyPower, h]

@[simp] theorem applyLimit_port (limit : Option Byte) (s : State) (p : Port) :
    (applyLimit limit s).port p = s.port p := by
  rw [applyLimit_eq]
  cases p <;> rfl

@[simp] theorem applyPower_request (power : Option OnOff) (s : State) (p : Port) :
    ((applyPower power s).port p).request = (s.port p).request := by
  rw [applyPower_eq]
  split
  · simp
  · split
    · cases p <;> rfl
    · rfl

theorem applyPower_limit (power : Option OnOff) (s : State) : (applyPower power s).ret.limit = s.ret.limit := by
  rw [applyPower_eq]
  split
  · simp [ReturnMonitor.emptied]
  · split <;> rfl

theorem limitClamped_iff (limit : Option Byte) : limitClamped limit = true ↔ ∃ b ∈ limit, b.toNat < 8 ∨ 60 < b.toNat := by
  cases limit with
  | none => simp [limitClamped]
  | some b =>
    simp only [limitClamped, clamp, bne_iff_ne, Option.mem_def, Option.some.injEq, exists_eq_left']
    omega

theorem okOrLimited_of_iff {b : Bool} {p : Prop} [Decidable p] (h : b = true ↔ p) :
    okOrLimited b = if p then .limited else .ok := if_congr h rfl rfl

theorem heard_ret (e : Envelope) (code : Byte) (s : State) : (Safety.heard e code s).ret = s.ret := by simp

@[simp] theorem returnReply_heard (e : Envelope) (code : Byte) (s : State) :
    returnReply (Safety.heard e code s) = returnReply s := by simp [returnReply]

theorem setReturnBody_val (power : Option OnOff) (limit : Option Byte) (s : State) :
    setReturnBody (power.map .val) limit s = setReturnChecked power limit s := by cases power <;> rfl

/-- READ_RETURN answers the record as it stood, then clears (R119). -/
theorem readReturnBody_eq (stray jam : Bool) (s : State) :
    readReturnBody stray jam s = .now .ok (returnReply s) { s with ret := { s.ret with
      stray := if stray = true then false else s.ret.stray
      jam := if jam = true then { value := 0, full := false } else s.ret.jam } } := by
  cases stray <;> cases jam <;> simp [readReturnBody, modReturn, Counter.zero]

end

/-- READ_RETURN's bytes in the order of R119. -/
theorem returnLayout : Safety.ReturnLayout := by
  unfold Safety.ReturnLayout
  intro s m
  have hflag : ∀ b : Bool, flagByte b = be1 b.toNat := by decide
  have hphase : opt1 (m.phase.map clearPhaseCode) = match m.phase with
      | none => [0xFF#8]
      | some p => be1 (clearPhaseCode p) := by cases m.phase <;> rfl
  have hfault : opt1 (if m.sensorFault = true then some 0 else none) = [if m.sensorFault = true then 0#8 else 0xFF#8] := by
    cases m.sensorFault <;> rfl
  unfold returnReply
  simp only [hflag]
  rw [show s.ret = m from rfl, hphase, hfault]
  rfl

/-- Settles O54: each request's checks in their order, then its effect; the record's layout and the lift enables. -/
theorem returnRequests : Obligations.ReturnRequests := by
  unfold Obligations.ReturnRequests
  refine ⟨fun e bad power limit stray jam s => ?requests, returnLayout, fun s => ?enables⟩
  case requests =>
    intro m emptied
    have hemptied : ∀ st t, emptyReturn st t = emptied st t := emptyReturn_eq
    refine ⟨fun h0 => ?clear, fun h0 => ?set⟩
    case clear =>
      have ha := serviceOnly_of_taken h0
      refine ⟨fun h => refuses_of rfl h0 ha (if_pos (by simpa using h)), fun h => ?_⟩
      rw [← hemptied]
      exact completes_of rfl h0 ha (if_neg (by simpa using h)) (by simp)
    case set =>
      intro h c n age late t0 t
      have ha := serviceOnly_of_taken h0
      have hret : h.ret = m := heard_ret e 39#8 s
      have hage : ∀ x, transitAge h x = age x := by
        intro x
        simp only [transitAge, hret, show h.tick = s.tick by simp [h]]
        rfl
      have hlimit : applyLimit limit h = t0 := by
        rw [applyLimit_eq]
        simp only [hage, hret]
        rfl
      have hoff : t0.ret.state = .off ↔ m.state = .off := by
        by_cases hl : late
        · simp [t0, hl, hl.2.1]
        · simp [t0, hl]
      have hpower : applyPower power t0 = t := by
        rw [applyPower_eq, hemptied]
        exact if_congr (by rw [ne_eq, hoff]) rfl (if_congr (by rw [hoff]) rfl rfl)
      have hn : t.ret.limit = n := by
        rw [← hpower, applyPower_limit]
        simp only [t0]
        split <;> rfl
      have hport : ((applyPower power (applyLimit limit h)).port e.port).request = some { code := 39#8, tag := e.tag } := by
        simp [h]
      rw [hlimit, hpower] at hport
      refine ⟨refuses_of rfl h0 ha rfl, fun hp hf => ?_, fun hnf => ?_, completes_of rfl h0 ha ?_ ?_⟩
      · exact refuses_of rfl h0 ha ((setReturnBody_val power limit h).trans (if_pos ⟨hp, by rw [hret, hf]⟩))
      · refine completes_of rfl h0 ha ((setReturnBody_val power limit h).trans ((if_neg (by rwa [hret])).trans ?_)) hport
        dsimp only
        rw [hlimit, hpower, hn, okOrLimited_of_iff (limitClamped_iff limit)]
        rfl
      · rw [readReturnBody_eq, returnReply_heard, heard_ret]
      · exact (congrArg PortState.request (modReturn_port (fun _ => _) _ e.port)).trans (heard_port_request e 40#8 s)
  case enables =>
    simp only [liftEnables]
    cases s.ret.lift <;> rfl

end Sys2Proof.Machine

namespace Sys2Proof.Machine

/-! ### What leaves the ball return alone

One lemma for each command's own part that is not the ball return's, over its branches, from the frames of the shared
operations. -/

/-- The ball return, the tick count and the supply as they were. -/
abbrev SameReturn (s t : State) : Prop := t.ret = s.ret ∧ t.tick = s.tick ∧ t.supply = s.supply

@[simp] theorem refuse_state (st : Status) (s : State) : (refuse st s).state = s := rfl

@[simp] theorem done_state (s : State) : (done s).state = s := rfl

@[simp] theorem Answer.now_state (st : Status) (bytes : List Byte) (s : State) : (Answer.now st bytes s).state = s := rfl

@[simp] theorem Answer.later_state (s : State) : (Answer.later s).state = s := rfl

/-! ### The ports leave the ball return alone -/

@[simp] theorem consoleBusy_sameReturn (s : State) : SameReturn s (consoleBusy s) := by
  simp [SameReturn, consoleBusy]

@[simp] theorem endConsoleReply_sameReturn (s : State) : SameReturn s (endConsoleReply s) := by
  simp [SameReturn, endConsoleReply]

@[simp] theorem beginRequest_sameReturn (p : Port) (code tag : Byte) (s : State) :
    SameReturn s (beginRequest p code tag s) := by
  simp [SameReturn, beginRequest]

@[simp] theorem answerRequest_sameReturn (p : Port) (status : Status) (body : List Byte) (s : State) :
    SameReturn s (answerRequest p status body s) := by
  unfold answerRequest
  split <;> simp [SameReturn, queueReply]

@[simp] theorem portBusy_sameReturn (e : Envelope) (code : Byte) (s : State) : SameReturn s (portBusy e code s) := by
  unfold portBusy
  (repeat' split) <;> simp [SameReturn]

@[simp] theorem bytesUnderHold_sameReturn (s : State) : SameReturn s (bytesUnderHold s) := by
  unfold bytesUnderHold
  split <;> simp [SameReturn]

@[simp] theorem takeSelectRise_sameReturn (s : State) : SameReturn s (takeSelectRise s) := by
  unfold takeSelectRise
  split <;> simp [SameReturn]

@[simp] theorem takeTurnaround_sameReturn (p : Port) (s : State) : SameReturn s (takeTurnaround p s) := by
  unfold takeTurnaround
  (repeat' split) <;> simp [SameReturn]

@[simp] theorem takeReplySent_sameReturn (p : Port) (s : State) : SameReturn s (takeReplySent p s) := by
  unfold takeReplySent
  (repeat' split) <;> simp [SameReturn]

@[simp] theorem endPulse_sameReturn (p : Port) (s : State) : SameReturn s (endPulse p s) := by
  simp [SameReturn, endPulse]

/-! ### The requests of chapters 1, 2 and 5 leave the ball return alone -/

@[simp] theorem openBody_sameReturn (mode : Coded AccountMode) (credit : BitVec 16) (warn : Option (BitVec 16))
    (l : Lane) (s : State) : SameReturn s (openBody mode credit warn l s).state := by
  unfold openBody
  (repeat' split) <;> simp [SameReturn]

@[simp] theorem closeBody_sameReturn (l : Lane) (s : State) : SameReturn s (closeBody l s).state := by
  unfold closeBody
  split <;> simp [SameReturn]

@[simp] theorem pauseBody_sameReturn (l : Lane) (s : State) : SameReturn s (pauseBody l s).state := by
  unfold pauseBody
  split <;> simp [SameReturn]

@[simp] theorem resumeBody_sameReturn (fromDesk : Bool) (l : Lane) (s : State) :
    SameReturn s (resumeBody fromDesk l s).state := by
  unfold resumeBody
  (repeat' split) <;> simp [SameReturn]

@[simp] theorem addCreditBody_sameReturn (amount : BitVec 16) (l : Lane) (s : State) :
    SameReturn s (addCreditBody amount l s).state := by
  unfold addCreditBody
  (repeat' split) <;> simp [SameReturn]

@[simp] theorem addTimeBody_sameReturn (amount : BitVec 16) (l : Lane) (s : State) :
    SameReturn s (addTimeBody amount l s).state := by
  unfold addTimeBody
  (repeat' split) <;> simp [SameReturn]

@[simp] theorem readSessionBody_sameReturn (l : Lane) (s : State) : SameReturn s (readSessionBody l s).state := by
  unfold readSessionBody
  split <;> simp [SameReturn]

@[simp] theorem startSingle_sameReturn (g : Games) (l : Lane) (s : State) : SameReturn s (startSingle g l s).state := by
  unfold startSingle
  (repeat' split) <;> simp [SameReturn]

@[simp] theorem startCross_sameReturn (g : Games) (s : State) : SameReturn s (startCross g s).state := by
  unfold startCross
  (repeat' split) <;> simp [SameReturn]

@[simp] theorem startBody_sameReturn (games : Byte) (l : Lane) (s : State) :
    SameReturn s (startBody games l s).state := by
  unfold startBody
  (repeat' split) <;> simp [SameReturn]

@[simp] theorem bowlerReadyBody_sameReturn (l : Lane) (s : State) : SameReturn s (bowlerReadyBody l s).state := by
  unfold bowlerReadyBody
  (repeat' split) <;> simp [SameReturn]

@[simp] theorem foulDetectBody_sameReturn (enable : Coded OnOff) (l : Lane) (s : State) :
    SameReturn s (foulDetectBody enable l s).state := by
  unfold foulDetectBody
  split <;> simp [SameReturn]

@[simp] theorem resetDeckBody_sameReturn (l : Lane) (s : State) : SameReturn s (resetDeckBody l s).state := by
  unfold resetDeckBody
  split <;> simp [SameReturn]

@[simp] theorem addBowlerBody_sameReturn (name : List Byte) (handicap : Option Byte) (blind : Option (BitVec 16))
    (q : SquadId) (s : State) : SameReturn s (addBowlerBody name handicap blind q s).state := by
  unfold addBowlerBody
  (repeat' split) <;> simp [SameReturn]

@[simp] theorem removeBowlerBody_sameReturn (slot : Nat) (q : SquadId) (s : State) :
    SameReturn s (removeBowlerBody slot q s).state := by
  unfold removeBowlerBody
  dsimp only
  (repeat' split) <;> simp [SameReturn]

@[simp] theorem moveBowlerBody_sameReturn (i j : Nat) (q : SquadId) (s : State) :
    SameReturn s (moveBowlerBody i j q s).state := by
  unfold moveBowlerBody
  (repeat' split) <;> simp [SameReturn]

@[simp] theorem markAbsentBody_sameReturn (slot : Nat) (blind : BitVec 16) (q : SquadId) (s : State) :
    SameReturn s (markAbsentBody slot blind q s).state := by
  unfold markAbsentBody
  split
  · simp [SameReturn]
  dsimp only
  (repeat' split) <;> simp [SameReturn]

@[simp] theorem markPresentBody_sameReturn (slot : Nat) (q : SquadId) (s : State) :
    SameReturn s (markPresentBody slot q s).state := by
  unfold markPresentBody
  split <;> simp [SameReturn]

@[simp] theorem setHandicapBody_sameReturn (slot : Nat) (handicap : Option Byte) (q : SquadId) (s : State) :
    SameReturn s (setHandicapBody slot handicap q s).state := by
  unfold setHandicapBody
  split <;> simp [SameReturn]

@[simp] theorem readSheetBody_sameReturn (part : Nat) (l : Lane) (s : State) :
    SameReturn s (readSheetBody part l s).state := by
  unfold readSheetBody
  split <;> simp [SameReturn]

@[simp] theorem applyCorrection_sameReturn (p : Port) (q : SquadId) (n k j : Nat) (b : Bowler) (entry : BallEntry)
    (c : Correction) (foul : Bool) (s : State) :
    SameReturn s (applyCorrection p q n k j b entry c foul s).state := by
  unfold applyCorrection
  dsimp only
  (repeat' split) <;> simp [SameReturn]

@[simp] theorem correctChecked_sameReturn (p : Port) (q : SquadId) (c : CorrectFields) (x : Correction) (s : State) :
    SameReturn s (correctChecked p q c x s).state := by
  unfold correctChecked
  dsimp only
  (repeat' split) <;> simp [SameReturn]

@[simp] theorem correctBody_sameReturn (p : Port) (squad : Coded SquadId) (c : CorrectFields) (s : State) :
    SameReturn s (correctBody p squad c s).state := by
  unfold correctBody
  (repeat' split) <;> simp [SameReturn]

@[simp] theorem recordBall_sameReturn (l : Lane) (leave : Leave) (foul : Bool) (source : Source) (s : State) :
    SameReturn s (recordBall l leave foul source s).1 := by
  unfold recordBall
  dsimp only
  (repeat' split) <;> simp [SameReturn]

@[simp] theorem enterBallEffect_sameReturn (l : Lane) (leave : Leave) (foul : Bool) (s : State) :
    SameReturn s (enterBallEffect l leave foul s) := by
  simp [SameReturn, enterBallEffect]

@[simp] theorem enterBallBody_sameReturn (leave : BitVec 16) (foul : Bool) (l : Lane) (s : State) :
    SameReturn s (enterBallBody leave foul l s).state := by
  unfold enterBallBody
  (repeat' split) <;> simp [SameReturn]

@[simp] theorem splitBody_sameReturn (s : State) : SameReturn s (splitBody s).state := by
  unfold splitBody
  (repeat' split) <;> simp [SameReturn]

@[simp] theorem crossBody_sameReturn (s : State) : SameReturn s (crossBody s).state := by
  unfold crossBody
  (repeat' split) <;> simp [SameReturn]

@[simp] theorem pairModeBody_sameReturn (mode : Coded PairMode) (s : State) :
    SameReturn s (pairModeBody mode s).state := by
  unfold pairModeBody
  split <;> simp [SameReturn]

@[simp] theorem splitForceBody_sameReturn (s : State) : SameReturn s (splitForceBody s).state := by
  unfold splitForceBody
  split <;> simp [SameReturn]

/-! ### The requests of chapters 7 to 11 leave the ball return alone -/

@[simp] theorem rateSetBody_sameReturn (entry : Byte) (value : RateFields) (s : State) :
    SameReturn s (rateSetBody entry value s).state := by
  unfold rateSetBody
  (repeat' split) <;> simp [SameReturn]

@[simp] theorem rateClearBody_sameReturn (entry : Byte) (s : State) : SameReturn s (rateClearBody entry s).state := by
  unfold rateClearBody
  split <;> simp [SameReturn]

@[simp] theorem rateStoreBody_sameReturn (entry : Byte) (value : RateFields) (key : Bool) (s : State) :
    SameReturn s (rateStoreBody entry value key s).state := by
  unfold rateStoreBody
  dsimp only
  (repeat' split) <;> simp [SameReturn]

@[simp] theorem readStoredBody_sameReturn (s : State) : SameReturn s (readStoredBody s).state := by
  unfold readStoredBody
  split <;> simp [SameReturn]

@[simp] theorem clockSetBody_sameReturn (weekday hour minute second : Byte) (s : State) :
    SameReturn s (clockSetBody weekday hour minute second s).state := by
  unfold clockSetBody
  (repeat' split) <;> simp [SameReturn, setClock]

@[simp] theorem clearFaultBody_sameReturn (l : Lane) (s : State) : SameReturn s (clearFaultBody l s).state := by
  unfold clearFaultBody
  (repeat' split) <;> simp [SameReturn]

@[simp] theorem setTimingBody_sameReturn (lanes : Coded LaneChoice) (f : TimingFields) (s : State) :
    SameReturn s (setTimingBody lanes f s).state := by
  rcases lanes with (_ | _ | _) | _ <;> simp [SameReturn, setTimingBody, lanesOf, setTimingOf]

@[simp] theorem stopCycle_sameReturn (l : Lane) (s : State) : SameReturn s (stopCycle l s) := by
  unfold stopCycle
  split <;> simp [SameReturn]

@[simp] theorem offMove_sameReturn (l : Lane) (s : State) : SameReturn s (offMove l s) := by
  unfold offMove
  (repeat' split) <;> simp [SameReturn]

@[simp] theorem machineOff_sameReturn (l : Lane) (s : State) : SameReturn s (machineOff l s) := by
  simp [SameReturn, machineOff]

@[simp] theorem setOffBody_sameReturn (l : Lane) (s : State) : SameReturn s (setOffBody l s).state := by
  unfold setOffBody
  (repeat' split) <;> simp [SameReturn]

@[simp] theorem onMove_sameReturn (l : Lane) (s : State) : SameReturn s (onMove l s) := by
  unfold onMove
  split <;> simp [SameReturn]

@[simp] theorem machineOn_sameReturn (l : Lane) (s : State) : SameReturn s (machineOn l s) := by
  unfold machineOn
  dsimp only
  split <;> simp [SameReturn]

@[simp] theorem setOnBody_sameReturn (l : Lane) (s : State) : SameReturn s (setOnBody l s).state := by
  unfold setOnBody
  (repeat' split) <;> simp [SameReturn]

@[simp] theorem beginTest_sameReturn (l : Lane) (s : State) : SameReturn s (beginTest l s) := by
  unfold beginTest
  dsimp only
  split <;> simp [SameReturn]

@[simp] theorem testCycleBody_sameReturn (l : Lane) (s : State) : SameReturn s (testCycleBody l s).state := by
  unfold testCycleBody
  (repeat' split) <;> simp [SameReturn]

@[simp] theorem clearCountersBody_sameReturn (l : Lane) (s : State) : SameReturn s (clearCountersBody l s).state := by
  simp [SameReturn, clearCountersBody]

@[simp] theorem setIntervalBody_sameReturn (interval : BitVec 32) (l : Lane) (s : State) :
    SameReturn s (setIntervalBody interval l s).state := by
  simp [SameReturn, setIntervalBody]

@[simp] theorem maintDoneBody_sameReturn (l : Lane) (s : State) : SameReturn s (maintDoneBody l s).state := by
  simp [SameReturn, maintDoneBody]

@[simp] theorem ackNoticesBody_sameReturn (p : Port) (fields : List NoticeFields) (s : State) :
    SameReturn s (ackNoticesBody p fields s).state := by
  unfold ackNoticesBody
  (repeat' split) <;> simp [SameReturn]

@[simp] theorem setMaskBody_sameReturn (p : Port) (mask : BitVec 32) (mode : Coded AttentionMode) (s : State) :
    SameReturn s (setMaskBody p mask mode s).state := by
  unfold setMaskBody
  (repeat' split) <;> simp [SameReturn]

/-! ### The machines, the lane sensors, the meter and the clock leave the ball return alone -/

@[simp] theorem takeWarm_sameReturn (l : Lane) (s : State) : SameReturn s (takeWarm l s) := by
  unfold takeWarm
  split <;> simp [SameReturn]

@[simp] theorem takeDeck_sameReturn (l : Lane) (x : Leave) (s : State) : SameReturn s (takeDeck l x s) := by
  unfold takeDeck
  dsimp only
  split <;> simp [SameReturn]

@[simp] theorem takeRespot_sameReturn (l : Lane) (s : State) : SameReturn s (takeRespot l s) := by
  unfold takeRespot
  (repeat' split) <;> simp [SameReturn]

@[simp] theorem takeCycleDone_sameReturn (l : Lane) (s : State) : SameReturn s (takeCycleDone l s) := by
  unfold takeCycleDone
  dsimp only
  (repeat' split) <;> simp [SameReturn]

@[simp] theorem takeMachineFault_sameReturn (l : Lane) (code : Byte) (s : State) :
    SameReturn s (takeMachineFault l code s) := by
  simp [SameReturn, takeMachineFault]

@[simp] theorem takeDetection_sameReturn (l : Lane) (s : State) : SameReturn s (takeDetection l s) := by
  unfold takeDetection
  split <;> simp [SameReturn]

@[simp] theorem takeFoul_sameReturn (l : Lane) (s : State) : SameReturn s (takeFoul l s) := by
  unfold takeFoul
  (repeat' split) <;> simp [SameReturn]

@[simp] theorem takeSettle_sameReturn (l : Lane) (s : State) : SameReturn s (takeSettle l s) := by
  unfold takeSettle
  split <;> simp [SameReturn]

@[simp] theorem takeDeckLimit_sameReturn (l : Lane) (s : State) : SameReturn s (takeDeckLimit l s) := by
  unfold takeDeckLimit
  (repeat' split) <;> simp [SameReturn]

@[simp] theorem takeWatchdog_sameReturn (l : Lane) (s : State) : SameReturn s (takeWatchdog l s) := by
  unfold takeWatchdog
  (repeat' split) <;> simp [SameReturn]

@[simp] theorem takeWarmUp_sameReturn (l : Lane) (s : State) : SameReturn s (takeWarmUp l s) := by
  unfold takeWarmUp
  dsimp only
  split <;> simp [SameReturn]

@[simp] theorem takeIdle_sameReturn (l : Lane) (s : State) : SameReturn s (takeIdle l s) := by
  unfold takeIdle
  dsimp only
  (repeat' split) <;> simp [SameReturn]

@[simp] theorem endProgramming_sameReturn (n : Nat) (st : Status) (s : State) : SameReturn s (endProgramming n st s) := by
  simp [SameReturn, endProgramming]

@[simp] theorem takeKeyRelease_sameReturn (s : State) : SameReturn s (takeKeyRelease s) := by
  unfold takeKeyRelease
  dsimp only
  split <;> simp [SameReturn]

@[simp] theorem takeCompletion_sameReturn (s : State) : SameReturn s (takeCompletion s) := by
  unfold takeCompletion
  split <;> simp [SameReturn]

@[simp] theorem takeClockSecond_sameReturn (s : State) : SameReturn s (takeClockSecond s) := by
  unfold takeClockSecond
  dsimp only
  (repeat' split) <;> simp [SameReturn]

@[simp] theorem takeCrystalStop_sameReturn (s : State) : SameReturn s (takeCrystalStop s) := by
  unfold takeCrystalStop
  dsimp only
  split <;> simp [SameReturn]

end Sys2Proof.Machine

namespace Sys2Proof.Machine

/-! ### The moves of the ball return keep its record sound (R105 to R115) -/

/-- What one move at tick `now` can do to the return queue `q` (R106). -/
def QueueMoves (now : Nat) (q r : List ReturnEntry) : Prop :=
  r = q ∨ r = q.tail ∨ r = [] ∨ ∃ l, r = q ++ [{ origin := l, exitTime := now }]

/-- A move of the ball return while the core's running stays as it is. -/
structure ReturnMoves (s t : State) : Prop where
  sound : Safety.MonitorSound s.ret → Safety.MonitorSound t.ret
  queue : QueueMoves s.tick s.ret.queue t.ret.queue
  tick : t.tick = s.tick
  core : coreOn t = coreOn s

section
variable {l : Lane} {s t u : State} {f : ReturnMonitor → ReturnMonitor}

theorem SameReturn.moves (h : SameReturn s t) : ReturnMoves s t := by
  obtain ⟨hr, ht, hs⟩ := h
  exact ⟨fun h => hr ▸ h, .inl (by rw [hr]), ht, by simp [coreOn, hs]⟩

theorem ReturnMoves.refl (s : State) : ReturnMoves s s := SameReturn.moves ⟨rfl, rfl, rfl⟩

theorem ReturnMoves.then_same (h : ReturnMoves s t) (k : SameReturn t u) : ReturnMoves s u := by
  obtain ⟨hr, ht, hs⟩ := k
  exact ⟨fun hm => hr ▸ h.sound hm, hr ▸ h.queue, ht.trans h.tick, by simpa [coreOn, hs] using h.core⟩

/-- A move that leaves the queue, and another behind it. -/
theorem ReturnMoves.then_moves (h : ReturnMoves s t) (hq : t.ret.queue = s.ret.queue) (k : ReturnMoves t u) :
    ReturnMoves s u :=
  ⟨k.sound ∘ h.sound, hq ▸ h.tick ▸ k.queue, k.tick.trans h.tick, k.core.trans h.core⟩

theorem SameReturn.then_moves (h : SameReturn s t) (k : ReturnMoves t u) : ReturnMoves s u :=
  (SameReturn.moves h).then_moves (by rw [h.1]) k

theorem returnMoves_modReturn (hs : Safety.MonitorSound s.ret → Safety.MonitorSound (f s.ret))
    (hq : QueueMoves s.tick s.ret.queue (f s.ret).queue) : ReturnMoves s (modReturn f s) := ⟨hs, hq, rfl, rfl⟩

theorem raiseJam_sameReturn (s : State) : SameReturn s (raisePair .returnJam (addReturnHolds s)) := by simp [SameReturn]

theorem raiseFreed_sameReturn (s : State) : SameReturn s (raisePair .returnOk (removeReturnHolds s)) := by simp [SameReturn]

theorem returnMoves_joinQueue (h : s.ret.waits) : ReturnMoves s (joinQueue l s) := by
  unfold joinQueue
  split
  next hq =>
    refine returnMoves_modReturn (fun hm => ?_) (.inr (.inr (.inr ⟨l, rfl⟩)))
    have hq' : s.ret.queue.length < 10 := hq
    rcases h with h | h | h <;> simp [Safety.MonitorSound, h] at hm ⊢ <;> grind
  next hq =>
    refine ReturnMoves.then_same (returnMoves_modReturn (fun hm => ?_) (.inl rfl)) (raiseJam_sameReturn _)
    have hq' : ¬s.ret.queue.length < 10 := hq
    exact ⟨hm.1, rfl, Nat.le_antisymm hm.1 (Nat.not_lt.mp hq'), rfl, rfl, rfl, rfl⟩

theorem returnMoves_takePitExit (l : Lane) (s : State) : ReturnMoves s (takePitExit l s) := by
  cases h : s.ret.state with
  | idle =>
    rw [takePitExit_idle h]
    refine returnMoves_modReturn (fun hm => ?_) (.inr (.inr (.inr ⟨l, rfl⟩)))
    simp [Safety.MonitorSound, h] at hm ⊢
    grind
  | carrying => rw [takePitExit_waits (.inl h)]; exact returnMoves_joinQueue (.inl h)
  | clearing => rw [takePitExit_waits (.inr (.inl h))]; exact returnMoves_joinQueue (.inr (.inl h))
  | jammed => rw [takePitExit_waits (.inr (.inr h))]; exact returnMoves_joinQueue (.inr (.inr h))
  | fault => rw [takePitExit_still (.inl h)]; exact .refl s
  | off => rw [takePitExit_still (.inr h)]; exact .refl s

theorem returnMoves_strayArrival (s : State) : ReturnMoves s (strayArrival s) := returnMoves_modReturn id (.inl rfl)

theorem returnMoves_headArrives (h : s.ret.state ≠ .fault) : ReturnMoves s (headArrives s) := by
  refine returnMoves_modReturn (fun hm => ?_) (.inr (.inl rfl))
  cases hs : s.ret.state <;> simp [Safety.MonitorSound, hs] at h hm ⊢ <;> grind

theorem returnMoves_takeArrival (s : State) : ReturnMoves s (takeArrival s) := by
  cases h : s.ret.state with
  | idle => rw [takeArrival_stray (.inl h)]; exact returnMoves_strayArrival s
  | carrying =>
    by_cases hq : s.ret.queue = []
    · rw [takeArrival_stray (.inr ⟨h, hq⟩)]; exact returnMoves_strayArrival s
    · rw [takeArrival_head (.inl ⟨h, hq⟩)]; exact returnMoves_headArrives (by simp [h])
  | clearing => rw [takeArrival_head (.inr h)]; exact returnMoves_headArrives (by simp [h])
  | jammed =>
    rw [takeArrival_jammed h]
    exact (returnMoves_headArrives (by simp [h])).then_same (raiseFreed_sameReturn _)
  | fault => rw [takeArrival_still (.inl h)]; exact .refl s
  | off => rw [takeArrival_still (.inr h)]; exact .refl s

/-- The run-on runs in CARRYING alone (R110). -/
theorem carrying_of_runOn (hm : Safety.MonitorSound s.ret) (hr : s.ret.runOn = true) : s.ret.state = .carrying := by
  cases h : s.ret.state <;> simp_all [Safety.MonitorSound]

theorem returnMoves_takeRunOn (s : State) : ReturnMoves s (takeRunOn s) := by
  unfold takeRunOn
  split
  next hr =>
    refine returnMoves_modReturn (fun hm => ?_) (.inl rfl)
    have h := carrying_of_runOn hm hr
    simp_all [Safety.MonitorSound]
  next => exact .refl s

/-- A clearing attempt starts with a ball in the queue, the run-on stopped (R112). -/
theorem returnMoves_startAttempt {n : Nat} (h1 : 1 ≤ n) (h3 : n ≤ 3)
    (hs : Safety.MonitorSound s.ret → s.ret.state = .carrying ∧ s.ret.queue ≠ [] ∨ s.ret.state = .clearing) :
    ReturnMoves s (startAttempt n s) := by
  refine returnMoves_modReturn (fun hm => ?_) (.inl rfl)
  rcases hs hm with ⟨h, hq⟩ | h <;> simp_all [Safety.MonitorSound]

theorem returnMoves_takeTransit (s : State) : ReturnMoves s (takeTransit s) := by
  rcases takeTransit_cases s with ⟨hs, ho, he⟩ | ⟨-, he⟩
  · obtain ⟨x, hx, -⟩ := headOverdue_iff.mp ho
    rw [he]
    exact returnMoves_startAttempt (by decide) (by decide) fun _ => .inl ⟨hs, fun hq => by simp [hq] at hx⟩
  · rw [he]; exact .refl s

/-- A clearing phase runs in CLEARING alone (R112). -/
theorem clearing_of_phase (hm : Safety.MonitorSound s.ret) (hp : s.ret.phase ≠ none) : s.ret.state = .clearing := by
  cases h : s.ret.state <;> simp_all [Safety.MonitorSound]

theorem returnMoves_takeReverseEnd (s : State) : ReturnMoves s (takeReverseEnd s) := by
  unfold takeReverseEnd
  split
  next hp =>
    refine returnMoves_modReturn (fun hm => ?_) (.inl rfl)
    have h := clearing_of_phase hm (by simp [hp])
    simp_all [Safety.MonitorSound]
  next => exact .refl s

theorem returnMoves_declareJam (hp : s.ret.phase ≠ none) : ReturnMoves s (declareJam s) := by
  refine ReturnMoves.then_same (returnMoves_modReturn (fun hm => ?_) (.inl rfl)) (raiseJam_sameReturn _)
  have h := clearing_of_phase hm hp
  simp_all [Safety.MonitorSound]

theorem returnMoves_takeForwardEnd (s : State) : ReturnMoves s (takeForwardEnd s) := by
  by_cases hp : s.ret.phase = some .forward
  · by_cases ha : s.ret.attempt < 3
    · rw [takeForwardEnd_attempt hp ha]
      exact returnMoves_startAttempt (Nat.succ_pos _) ha fun hm => .inr (clearing_of_phase hm (by simp [hp]))
    · rw [takeForwardEnd_jam hp (Nat.not_lt.mp ha)]
      exact returnMoves_declareJam (by simp [hp])
  · rw [takeForwardEnd_still hp]; exact .refl s

theorem monitorSound_emptied {st : ReturnState} (h : st = .idle ∨ st = .off) (m : ReturnMonitor) :
    Safety.MonitorSound (m.emptied st) := by
  rcases h with rfl | rfl <;> simp [Safety.MonitorSound, ReturnMonitor.emptied]

theorem returnMoves_emptyReturn {st : ReturnState} (h : st = .idle ∨ st = .off) (s : State) :
    ReturnMoves s (emptyReturn st s) where
  sound := fun _ => by rw [emptyReturn_ret]; exact monitorSound_emptied h _
  queue := by rw [emptyReturn_ret]; exact .inr (.inr (.inl rfl))
  tick := by simp
  core := by simp [coreOn]

theorem applyLimit_queue (limit : Option Byte) (s : State) : (applyLimit limit s).ret.queue = s.ret.queue := by
  rw [applyLimit_eq]
  dsimp only
  split <;> rfl

theorem returnMoves_applyLimit (limit : Option Byte) (s : State) : ReturnMoves s (applyLimit limit s) := by
  cases limit with
  | none => exact .refl s
  | some b =>
    have hlimit : ReturnMoves s (modReturn (fun m => { m with limit := clamp 8 60 b.toNat }) s) :=
      returnMoves_modReturn id (.inl rfl)
    exact hlimit.then_moves rfl (returnMoves_takeTransit _)

theorem returnMoves_applyPower (power : Option OnOff) (s : State) : ReturnMoves s (applyPower power s) := by
  rw [applyPower_eq]
  split
  · exact returnMoves_emptyReturn (.inr rfl) s
  · split
    next h =>
      refine returnMoves_modReturn (f := fun m => { m with state := .idle }) (fun hm => ?_) (.inl rfl)
      simpa [Safety.MonitorSound, h.2] using hm
    next => exact .refl s

/-! ### The requests that work the ball return -/

/-- A request whose own part moves the ball return. -/
def MovesBody (body : State → Answer) : Prop := ∀ s, ReturnMoves s (body s).state

theorem movesBody_clearReturn : MovesBody clearReturnBody := by
  intro s
  unfold clearReturnBody
  split
  · exact .refl s
  · exact returnMoves_emptyReturn (.inl rfl) s

theorem movesBody_setReturn (power : Option (Coded OnOff)) (limit : Option Byte) :
    MovesBody (setReturnBody power limit) := by
  have hchecked : ∀ p, MovesBody (setReturnChecked p limit) := by
    intro p s
    unfold setReturnChecked
    split
    · exact .refl s
    · exact (returnMoves_applyLimit limit s).then_moves (applyLimit_queue limit s) (returnMoves_applyPower p _)
  intro s
  rcases power with _ | v | _
  · exact hchecked none s
  · exact hchecked (some v) s
  · exact .refl s

theorem movesBody_readReturn (stray jam : Bool) : MovesBody (readReturnBody stray jam) := fun s => by
  rw [readReturnBody_eq]
  exact ⟨id, .inl rfl, rfl, rfl⟩

theorem movesBody_readSupply (clear : Bool) : MovesBody (readSupplyBody clear) := by
  intro s
  cases clear
  · exact .refl s
  · exact ⟨id, .inl rfl, rfl, rfl⟩

theorem monitorSound_reset : Safety.MonitorSound ReturnMonitor.reset := by simp [Safety.MonitorSound, ReturnMonitor.reset]

theorem movesBody_resetPair : MovesBody resetPairBody := by
  intro s
  unfold resetPairBody
  split
  · exact .refl s
  · exact ⟨fun _ => monitorSound_reset, .inr (.inr (.inl rfl)), by simp [loadRates, coldPair],
      by simp [coreOn, loadRates, coldPair]⟩

end

end Sys2Proof.Machine

namespace Sys2Proof.Machine

/-! ### What a step can do to the ball return -/

/-- What a step can do to the ball return: a move while the core's running stays, a tick of the core, the core's stop, or
a record made anew (R105, R120, R168 to R170). -/
inductive ReturnStep (s t : State) : Prop where
  | moves (h : ReturnMoves s t)
  | ticks (ret : t.ret = s.ret) (tick : t.tick = (s.tick + 1) % tickModulus) (core : coreOn t = coreOn s)
  | stops (queue : t.ret.queue = s.ret.queue) (tick : t.tick = s.tick) (core : coreOn t = false)
  | anew (queue : t.ret.queue = []) (sound : Safety.MonitorSound t.ret)

section
variable {s t u : State}

theorem returnStep_idleTick (s : State) : ReturnStep s (idleTick s) := by
  unfold idleTick
  split
  · exact .ticks rfl rfl rfl
  · exact .moves (.refl s)

theorem returnStep_stopCore {v : Supply} (h : v.state = .backup ∨ v.resetAsserted = true) :
    ReturnStep s { stopCore s with supply := v } := by
  rw [stopCore_eq]
  exact .stops rfl rfl (by rcases h with h | h <;> simp [coreOn, h])

theorem monitorSound_restartReturn (m : ReturnMonitor) : Safety.MonitorSound (restartReturn m) := monitorSound_reset

/-- A start of the core leaves a return that is idle and empty (R120). -/
theorem startOn_ret (k : StartKind) (s : State) : (startOn k s).ret = restartReturn s.ret := by
  rw [startOn_eq]
  simp only [restartCycle_frame]
  rfl

theorem startOf_ret (k : StartKind) (s : State) : ∃ m, (startOf k s).ret = restartReturn m := by
  unfold startOf
  split
  · exact ⟨s.ret, by simp [startOn_ret]⟩
  · exact ⟨_, startOn_ret .cold _⟩

theorem returnStep_startOf (k : StartKind) (s : State) : ReturnStep s (startOf k s) := by
  obtain ⟨m, hm⟩ := startOf_ret k s
  exact .anew (by rw [hm]; rfl) (by rw [hm]; exact monitorSound_restartReturn m)

/-- The supply rewritten while main is absent. -/
theorem returnMoves_supply {v : Supply} (h : s.supply.state ≠ .main) (hv : v.state = s.supply.state) :
    ReturnMoves s { s with supply := v } := ⟨id, .inl rfl, rfl, by simp [coreOn, hv, beq_eq_false_iff_ne.mpr h]⟩

theorem returnStep_takeMainFailure (s : State) : ReturnStep s (takeMainFailure s) := by
  rw [takeMainFailure_eq]
  split
  · exact returnStep_stopCore (.inl rfl)
  next h => exact .moves (returnMoves_supply h rfl)

theorem returnStep_takeMainReturn (s : State) : ReturnStep s (takeMainReturn s) := by
  rw [takeMainReturn_eq]
  split
  · exact .moves (.refl s)
  next h =>
    split
    · exact .moves (returnMoves_supply h rfl)
    · exact returnStep_startOf _ s

theorem returnStep_takeRetentionLoss (s : State) : ReturnStep s (takeRetentionLoss s) := by
  unfold takeRetentionLoss
  split
  · exact .anew rfl monitorSound_reset
  · exact .moves (.refl s)

theorem returnStep_takeResetAssert (s : State) : ReturnStep s (takeResetAssert s) := by
  unfold takeResetAssert
  split
  · exact returnStep_stopCore (.inr rfl)
  · exact .moves (.refl s)

theorem returnStep_takeResetRelease (s : State) : ReturnStep s (takeResetRelease s) := by
  rw [takeResetRelease_eq]
  split
  · exact .moves (.refl s)
  split
  · exact returnStep_startOf _ s
  next h =>
    split
    · exact returnStep_startOf _ s
    · exact .moves (returnMoves_supply h rfl)

theorem clock_sameReturn (c : Clock) (s : State) : SameReturn s { s with clock := c } := ⟨rfl, rfl, rfl⟩

theorem returnMoves_batteryLow (low : Bool) (s : State) :
    ReturnMoves s { s with supply := { s.supply with batteryLow := low } } := ⟨id, .inl rfl, rfl, rfl⟩

theorem returnMoves_takeBatteryLow (s : State) : ReturnMoves s (takeBatteryLow s) := by
  unfold takeBatteryLow
  dsimp only
  split
  · exact (returnMoves_batteryLow true s).then_same (by simp [SameReturn])
  · exact returnMoves_batteryLow true s

/-! ### Every command, and every step -/

/-- A request frame moves the ball return as its own part does. -/
theorem returnMoves_heardRequest {e : Envelope} {code : Byte} {allowed broadcastOk fits : Bool} {body : State → Answer}
    (h : MovesBody body) (s : State) : ReturnMoves s (heardRequest e code allowed broadcastOk fits body s) := by
  have ha : MovesBody (answerOf allowed fits body) := by
    intro u
    unfold answerOf
    split
    · exact .refl u
    split
    · exact .refl u
    · exact h u
  have hd : ∀ p a, SameReturn (Answer.state a) (deliver p a) := by
    intro p a
    cases a with
    | now st bytes t => exact answerRequest_sameReturn p st bytes t
    | later t => exact ⟨rfl, rfl, rfl⟩
  unfold heardRequest
  split
  · split
    · exact h s
    · exact .refl s
  split
  · exact .refl s
  split
  · exact SameReturn.then_moves (beginRequest_sameReturn _ _ _ s) ((ha _).then_same (hd _ _))
  · exact SameReturn.moves (portBusy_sameReturn e code s)

theorem returnStep_coreEvent {f : State → State} (h : ∀ s, ReturnMoves s (f s)) (ht : coreEvent f s = .next t) :
    ReturnStep s t := by
  unfold coreEvent at ht
  cases ht
  split
  · exact .moves ((h s).then_same (by simp [SameReturn]))
  · exact .moves (.refl s)

theorem returnStep_request {e : Envelope} {code : Byte} {allowed broadcastOk : Bool} {len : Nat} {body : State → Answer}
    (h : MovesBody body) (ht : request e code allowed broadcastOk len body s = .next t) : ReturnStep s t :=
  returnStep_coreEvent (returnMoves_heardRequest h) ht

/-- A move of the ball return, and behind it what leaves it alone. -/
theorem ReturnStep.then_same (h : ReturnStep s t) (k : SameReturn t u) : ReturnStep s u := by
  obtain ⟨hr, ht, hs⟩ := k
  have hc : coreOn u = coreOn t := by simp [coreOn, hs]
  cases h with
  | moves h => exact .moves (h.then_same ⟨hr, ht, hs⟩)
  | ticks ret tick core => exact .ticks (hr.trans ret) (ht.trans tick) (hc.trans core)
  | stops queue tick core => exact .stops (hr ▸ queue) (ht.trans tick) (hc.trans core)
  | anew queue sound => exact .anew (hr ▸ queue) (hr ▸ sound)

theorem returnStep_resetPair {e : Envelope} (ht : execResetPair e s = .next t) : ReturnStep s t := by
  unfold execResetPair at ht
  cases hr : request e 42 (serviceOnly e) false 0 resetPairBody s with
  | next u =>
    rw [hr] at ht
    cases ht
    have hk := returnStep_request movesBody_resetPair hr
    split
    · exact hk.then_same (by simp [SameReturn, zeroSerials])
    · exact hk
  | fault r => rw [hr] at ht; cases ht
  | refused r => rw [hr] at ht; cases ht

theorem movesBody_withLane {f : Lane → State → Answer} (h : ∀ l s, SameReturn s (f l s).state) (c : Coded Lane) :
    MovesBody (withLane c f) := by
  cases c with
  | val l => exact fun s => SameReturn.moves (h l s)
  | bad _ => exact .refl

theorem movesBody_withSelector {f : State → Answer} (h : MovesBody f) (x : Option Byte) :
    MovesBody (withSelector x f) := by
  cases x with
  | none => exact h
  | some _ => exact .refl

theorem movesBody_withRoster {f : SquadId → State → Answer} (h : ∀ q s, SameReturn s (f q s).state) (c : Coded SquadId)
    (slots : List Nat) : MovesBody (withRoster c slots f) := by
  intro s
  unfold withRoster
  split
  · exact .refl s
  split
  · exact .refl s
  split
  · exact .refl s
  · exact SameReturn.moves (h _ s)

/-- What a command can do to the ball return: its own sensors, timers and requests move it, RESET_PAIR and the supply make
it anew or stop it, and every other command leaves it alone. -/
theorem returnStep_exec {c : Instr} (ht : exec c s = .next t) : ReturnStep s t := by
  have bodyRests : ∀ {e code allowed broadcastOk len body}, (∀ u, SameReturn u (Answer.state (body u))) →
      request e code allowed broadcastOk len body s = .next t → ReturnStep s t := fun h =>
    returnStep_request fun u => SameReturn.moves (h u)
  have laneRests : ∀ {e code allowed broadcastOk len c f}, (∀ l u, SameReturn u (Answer.state (f l u))) →
      request e code allowed broadcastOk len (withLane c f) s = .next t → ReturnStep s t := fun h =>
    returnStep_request (movesBody_withLane h _)
  have rosterRests : ∀ {e code allowed broadcastOk len c slots f}, (∀ q u, SameReturn u (Answer.state (f q u))) →
      request e code allowed broadcastOk len (withRoster c slots f) s = .next t → ReturnStep s t := fun h =>
    returnStep_request (movesBody_withRoster h _ _)
  have eventRests : ∀ {f : State → State}, (∀ u, SameReturn u (f u)) → coreEvent f s = .next t → ReturnStep s t := fun h =>
    returnStep_coreEvent fun u => SameReturn.moves (h u)
  have always : ∀ {f : State → State}, (∀ u, ReturnStep u (f u)) →
      Host.Outcome.next (f s) = (.next t : Host.Outcome State Fault Refusal) → ReturnStep s t := fun {f} h hx => by
    cases hx; exact h s
  have reads : ∀ (st : Status) (f : State → List Byte) u, SameReturn u (Answer.state (.now st (f u) u)) := fun _ _ _ =>
    ⟨rfl, rfl, rfl⟩
  cases c with
  | openLane e lane mode credit warn => exact laneRests (openBody_sameReturn mode credit warn) ht
  | closeLane e lane => exact laneRests closeBody_sameReturn ht
  | pauseLane e lane => exact laneRests pauseBody_sameReturn ht
  | resumeLane e lane => exact laneRests (resumeBody_sameReturn _) ht
  | addCredit e lane amount => exact laneRests (addCreditBody_sameReturn amount) ht
  | addTime e lane amount => exact laneRests (addTimeBody_sameReturn amount) ht
  | readAccount e lane => exact laneRests (fun _ => reads _ _) ht
  | readSession e lane => exact laneRests readSessionBody_sameReturn ht
  | startGame e lane games => exact laneRests (startBody_sameReturn games) ht
  | bowlerReady e lane => exact laneRests bowlerReadyBody_sameReturn ht
  | foulDetect e lane enable => exact laneRests (foulDetectBody_sameReturn enable) ht
  | resetDeck e lane => exact laneRests resetDeckBody_sameReturn ht
  | addBowler e squad name handicap blind => exact rosterRests (addBowlerBody_sameReturn name handicap blind) ht
  | removeBowler e squad slot => exact rosterRests (removeBowlerBody_sameReturn _) ht
  | moveBowler e squad slot newSlot => exact rosterRests (moveBowlerBody_sameReturn _ _) ht
  | markAbsent e squad slot blind => exact rosterRests (markAbsentBody_sameReturn _ blind) ht
  | markPresent e squad slot => exact rosterRests (markPresentBody_sameReturn _) ht
  | setHandicap e squad slot handicap => exact rosterRests (setHandicapBody_sameReturn _ handicap) ht
  | readSheet e lane part => exact laneRests (readSheetBody_sameReturn _) ht
  | correctBall e squad c => exact bodyRests (correctBody_sameReturn e.port squad c) ht
  | enterBall e lane leave foul => exact laneRests (enterBallBody_sameReturn leave foul) ht
  | setPairMode e mode => exact bodyRests (pairModeBody_sameReturn mode) ht
  | splitPair e => exact bodyRests splitBody_sameReturn ht
  | splitPairForce e => exact bodyRests splitForceBody_sameReturn ht
  | rateSet e entry value => exact bodyRests (rateSetBody_sameReturn entry value) ht
  | rateClear e entry => exact bodyRests (rateClearBody_sameReturn entry) ht
  | rateStore e entry value key => exact bodyRests (rateStoreBody_sameReturn entry value key) ht
  | rateReadWorking e =>
    exact returnStep_request (movesBody_withSelector (fun u => SameReturn.moves (reads _ _ u)) e.stray) ht
  | rateReadStored e => exact bodyRests readStoredBody_sameReturn ht
  | clockSet e weekday hour minute second => exact bodyRests (clockSetBody_sameReturn weekday hour minute second) ht
  | clockRead e => exact bodyRests (reads _ _) ht
  | clearFault e lane => exact laneRests clearFaultBody_sameReturn ht
  | readMachine e lane => exact laneRests (fun _ => reads _ _) ht
  | setTiming e lanes settings => exact bodyRests (setTimingBody_sameReturn lanes settings) ht
  | setMachineOff e lane => exact laneRests setOffBody_sameReturn ht
  | setMachineOn e lane =>
    exact returnStep_request (movesBody_withSelector (movesBody_withLane setOnBody_sameReturn lane.field) lane.stray) ht
  | testCycle e lane => exact laneRests testCycleBody_sameReturn ht
  | clearCounters e lane => exact laneRests clearCountersBody_sameReturn ht
  | setMaintInterval e lane interval => exact laneRests (setIntervalBody_sameReturn interval) ht
  | maintDone e lane => exact laneRests maintDoneBody_sameReturn ht
  | clearReturn e => exact returnStep_request movesBody_clearReturn ht
  | setReturn e power limit => exact returnStep_request (movesBody_setReturn power limit) ht
  | readReturn e clearStray clearJam => exact returnStep_request (movesBody_readReturn clearStray clearJam) ht
  | readSupply e clear => exact returnStep_request (movesBody_readSupply clear) ht
  | resetPair e => exact returnStep_resetPair ht
  | readNotices e => exact bodyRests (reads _ _) ht
  | ackNotices e notices => exact bodyRests (ackNoticesBody_sameReturn e.port notices) ht
  | setNoticeMask e mask mode => exact bodyRests (setMaskBody_sameReturn e.port mask mode) ht
  | frameDiscard port bytes => exact always (fun u => .moves (.refl u)) ht
  | interByteTimeout port bytes => exact always (fun u => .moves (.refl u)) ht
  | consoleBytesUnderHold => exact eventRests bytesUnderHold_sameReturn ht
  | selectRise => exact eventRests takeSelectRise_sameReturn ht
  | replyTurnaround port => exact eventRests (takeTurnaround_sameReturn port) ht
  | replySent port => exact eventRests (takeReplySent_sameReturn port) ht
  | warm lane => exact eventRests (takeWarm_sameReturn lane) ht
  | deck lane leave => exact eventRests (takeDeck_sameReturn lane leave) ht
  | respotPoint lane => exact eventRests (takeRespot_sameReturn lane) ht
  | cycleDone lane => exact eventRests (takeCycleDone_sameReturn lane) ht
  | machineFault lane code => exact eventRests (takeMachineFault_sameReturn lane code) ht
  | ballDetection lane => exact eventRests (takeDetection_sameReturn lane) ht
  | foulEvent lane => exact eventRests (takeFoul_sameReturn lane) ht
  | pitExit lane => exact returnStep_coreEvent (returnMoves_takePitExit lane) ht
  | arrival => exact returnStep_coreEvent returnMoves_takeArrival ht
  | keyRelease => exact eventRests takeKeyRelease_sameReturn ht
  | programmingComplete => exact eventRests takeCompletion_sameReturn ht
  | settleExpiry lane => exact eventRests (takeSettle_sameReturn lane) ht
  | deckLimitExpiry lane => exact eventRests (takeDeckLimit_sameReturn lane) ht
  | cycleWatchdogExpiry lane => exact eventRests (takeWatchdog_sameReturn lane) ht
  | warmUpExpiry lane => exact eventRests (takeWarmUp_sameReturn lane) ht
  | idleStandbyExpiry lane => exact eventRests (takeIdle_sameReturn lane) ht
  | runOnExpiry => exact returnStep_coreEvent returnMoves_takeRunOn ht
  | transitExpiry => exact returnStep_coreEvent returnMoves_takeTransit ht
  | reversePhaseEnd => exact returnStep_coreEvent returnMoves_takeReverseEnd ht
  | forwardPhaseEnd => exact returnStep_coreEvent returnMoves_takeForwardEnd ht
  | runningSecond lane => exact eventRests (fun u => by simp [SameReturn]) ht
  | pulseEnd port => exact eventRests (endPulse_sameReturn port) ht
  | clockSecond => exact always (fun u => .moves (SameReturn.moves (takeClockSecond_sameReturn u))) ht
  | crystalStop => exact always (fun u => .moves (SameReturn.moves (takeCrystalStop_sameReturn u))) ht
  | crystalRestart => exact always (fun u => .moves (SameReturn.moves (clock_sameReturn _ u))) ht
  | mainFailure => exact always returnStep_takeMainFailure ht
  | mainReturn => exact always returnStep_takeMainReturn ht
  | retentionLoss => exact always returnStep_takeRetentionLoss ht
  | batteryLowSet => exact always (fun u => .moves (returnMoves_takeBatteryLow u)) ht
  | batteryLowClear => exact always (fun u => .moves (returnMoves_batteryLow false u)) ht
  | externalResetAssert => exact always returnStep_takeResetAssert ht
  | externalResetRelease => exact always returnStep_takeResetRelease ht
  | unknownRequestCode e code => exact bodyRests (reads _ _) ht

theorem SameReturn.then_step (h : SameReturn s t) (k : ReturnStep t u) : ReturnStep s u := by
  obtain ⟨hr, ht, hs⟩ := h
  have hc : coreOn t = coreOn s := by simp [coreOn, hs]
  cases k with
  | moves k => exact .moves (SameReturn.then_moves ⟨hr, ht, hs⟩ k)
  | ticks ret tick core => exact .ticks (ret.trans hr) (ht ▸ tick) (core.trans hc)
  | stops queue tick core => exact .stops (hr ▸ queue) (tick.trans ht) core
  | anew queue sound => exact .anew queue sound

/-- What a step can do to the ball return. -/
theorem returnStep_step (ht : step s = .next t) : ReturnStep s t := by
  unfold step at ht
  split at ht
  next c rest _ =>
    exact SameReturn.then_step (t := { s with pending := rest }) ⟨rfl, rfl, rfl⟩ (returnStep_exec ht)
  next =>
    cases ht
    exact returnStep_idleTick s

end

/-! ### The order of exit (R106) -/

section
variable {s t : State} {now : Nat} {q r : List ReturnEntry}

/-- The age order of a queue at tick `now`. -/
def InExitOrder (now : Nat) (q : List ReturnEntry) : Prop :=
  q.Pairwise fun x y => ticksSince now y.exitTime ≤ ticksSince now x.exitTime

theorem ticksSince_self (now : Nat) : ticksSince now now = 0 := by
  unfold ticksSince tickModulus
  omega

/-- One tick later every entry has aged by one, short of the count's wrap (R105). -/
theorem ticksSince_succ {before : Nat} (h : ticksSince now before ≠ 4294967295) :
    ticksSince ((now + 1) % tickModulus) before = ticksSince now before + 1 := by
  unfold ticksSince tickModulus at *
  omega

theorem InExitOrder.of_moves (h : InExitOrder now q) (hm : QueueMoves now q r) : InExitOrder now r := by
  rcases hm with rfl | rfl | rfl | ⟨l, rfl⟩
  · exact h
  · exact h.sublist (List.tail_sublist q)
  · exact .nil
  · refine List.pairwise_append.mpr ⟨h, List.pairwise_singleton _ _, fun x _ y hy => ?_⟩
    rw [List.mem_singleton.mp hy, ticksSince_self]
    exact Nat.zero_le _

theorem InExitOrder.tick (h : InExitOrder now q) (hw : ∀ x ∈ q, ticksSince now x.exitTime ≠ 4294967295) :
    InExitOrder ((now + 1) % tickModulus) q := by
  refine List.Pairwise.imp_of_mem (fun {x y} hx hy hxy => ?_) h
  rw [ticksSince_succ (hw x hx), ticksSince_succ (hw y hy)]
  exact Nat.succ_le_succ hxy

end

/-- Settles O14: by what a step can do to the ball return. -/
theorem stepKeepsReturnSound : Obligations.StepKeepsReturnSound := by
  unfold Obligations.StepKeepsReturnSound
  intro s t ht
  cases returnStep_step ht with
  | moves h =>
    refine ⟨fun hs hon => h.sound (hs (h.core ▸ hon)), h.queue, fun hq _ => ?_⟩
    have hr : InExitOrder s.tick t.ret.queue := InExitOrder.of_moves hq h.queue
    rwa [← h.tick] at hr
  | ticks ret tick core =>
    refine ⟨fun hs hon => ret ▸ hs (core ▸ hon), .inl (by rw [ret]), fun hq hw => ?_⟩
    have hr : InExitOrder ((s.tick + 1) % tickModulus) s.ret.queue := InExitOrder.tick hq hw
    rwa [← tick, ← ret] at hr
  | stops queue tick core =>
    refine ⟨fun _ hon => ?_, .inl queue, fun hq _ => ?_⟩
    · rw [core] at hon; cases hon
    · rwa [Safety.QueueInOrder, queue, tick]
  | anew queue sound =>
    refine ⟨fun _ _ => sound, .inr (.inr (.inl queue)), fun _ _ => ?_⟩
    rw [Safety.QueueInOrder, queue]
    exact .nil

end Sys2Proof.Machine

namespace Sys2Proof.Machine

/-! ### The lane meter (R127, R128) -/

section
variable {l : Lane} {s : State}

/-- The meter runs in TIME mode with time credit (R127). -/
theorem meterRunning_iff (r : LaneRec) :
    meterRunning r = true ↔ r.acct.mode = .time ∧ (r.state = .opened ∨ r.state = .playing) ∧ 1 ≤ r.acct.timeCredit ∧
      r.holds.desk = false ∧ r.holds.ret = false ∧ r.holds.machine = false ∧ r.holds.power = false ∧
      r.holds.service = false := by
  simp [meterRunning, HoldSet.stopsMeter, and_assoc]

theorem runSecond_stands (h : ¬meterRunning (s.lane l) = true) : runSecond l s = s := if_neg h

/-- A running second below the sixtieth (R128). -/
theorem runSecond_phase (h : meterRunning (s.lane l) = true) (hp : (s.acct l).phase + 1 < 60) :
    runSecond l s = s.setLane l { s.lane l with
      runTicks := 0, acct := { s.acct l with phase := (s.acct l).phase + 1 } } := by
  simp [runSecond, h, hp, modAcct, modLane_eq, State.lane_acct]

/-- The sixtieth running second completes a lane-minute (R128). -/
theorem runSecond_minute (h : meterRunning (s.lane l) = true) (hp : ¬(s.acct l).phase + 1 < 60) :
    runSecond l s = exhaustMinute l (warnMinute l (s.setLane l { s.lane l with
      runTicks := 0, acct := meterMinute (entryInEffect s).perHour (s.acct l) })) := by
  simp [runSecond, h, hp, modAcct, modLane_eq, State.lane_acct]

end

end Sys2Proof.Machine

namespace Sys2Proof.Machine

/-! ### The lane-minute, its warning and the exhaustion (R128 to R130) -/

section
variable {l : Lane} {s : State}

/-- The warning at a lane-minute, as one write of the lane and the notice (R129). -/
theorem warnMinute_setLane (r : LaneRec) :
    warnMinute l (s.setLane l r) =
      let warns := 1 ≤ r.acct.timeCredit ∧ r.acct.timeCredit ≤ r.acct.warn ∧ r.acct.warned = false
      let t := s.setLane l { r with acct := { r.acct with warned := if warns then true else r.acct.warned } }
      if warns then raiseLane .timeWarn l t else t := by
  by_cases hw : 1 ≤ r.acct.timeCredit ∧ r.acct.timeCredit ≤ r.acct.warn ∧ r.acct.warned = false <;>
    simp [warnMinute, State.acct, modAcct, modLane_eq, hw]

theorem exhaustMinute_stands (h : (s.acct l).timeCredit ≠ 0) : exhaustMinute l s = s := if_neg h

/-- The exhaustion of the time credit, by the lane state (R130). -/
theorem exhaustMinute_out (h : (s.acct l).timeCredit = 0) :
    exhaustMinute l s =
      let u := raiseLane .timeOut l s
      if (s.lane l).state = .playing then u.setLane l { u.lane l with state := .grace } else addHold l .time u := by
  unfold exhaustMinute
  rw [if_pos h]
  cases (s.lane l).state <;> rfl

end

/-- Settles O34: the meter by its condition, the second by the phase, and the lane-minute by the time credit left. -/
theorem meterSecond : Obligations.MeterSecond := by
  unfold Obligations.MeterSecond
  intro l s hon r a runs left warns t
  have hruns : meterRunning (s.lane l) = true ↔ runs := meterRunning_iff _
  have hminute : runs → 59 ≤ a.phase →
      runSecond l s = exhaustMinute l (if warns then raiseLane .timeWarn l t else t) := fun hr hp =>
    (runSecond_minute (hruns.mpr hr) (Nat.not_lt.mpr (Nat.succ_le_succ hp))).trans
      (congrArg (exhaustMinute l) (warnMinute_setLane _))
  have hleft : ((if warns then raiseLane .timeWarn l t else t).acct l).timeCredit = left := by
    split <;> simp [State.acct, t]
  refine ⟨fun hr => does_of rfl hon (runSecond_stands (mt hruns.mp hr)),
    fun hr hp => does_of rfl hon (runSecond_phase (hruns.mpr hr) hp),
    fun hr hp h0 => does_of rfl hon ((hminute hr hp).trans (exhaustMinute_stands (hleft.trans_ne h0))),
    fun hr hp h0 => does_of rfl hon ((hminute hr hp).trans ?out)⟩
  case out =>
    have hno : ¬warns := fun ⟨h1, _⟩ => by omega
    rw [if_neg hno] at hleft ⊢
    rw [exhaustMinute_out (hleft.trans h0)]
    simp only [t, State.setLane_lane_same]
    rfl

/-! ### The session charge (R132, R133, R187) -/

/-- The largest cent-minute sum charges more than the charge's limit by its time part alone. -/
theorem timePart_largest {a : Account} (h : a.centMinutes = 599999999) : timePart a = 10000000 := by
  simp [timePart, h]

theorem sessionCharge_exact {a : Account} (h : a.gameCharges + timePart a ≤ 9999999) :
    sessionCharge a = a.gameCharges + timePart a ∧ chargeSaturated a = false :=
  ⟨Nat.min_eq_right h, by simpa [chargeSaturated] using h⟩

theorem sessionCharge_saturated {a : Account} (h : 9999999 < a.gameCharges + timePart a) :
    sessionCharge a = 9999999 ∧ chargeSaturated a = true :=
  ⟨Nat.min_eq_left h.le, by simpa [chargeSaturated] using h⟩

theorem be1_length (n : Nat) : (be1 n).length = 1 := rfl

theorem be2_length (n : Nat) : (be2 n).length = 2 := rfl

theorem be4_length (n : Nat) : (be4 n).length = 4 := rfl

theorem readingBytes_length (r : Option ClockReading) : (readingBytes r).length = 4 := by cases r <;> rfl

/-- READ_ACCOUNT about its flag byte, time part and charge (R187). -/
theorem accountReply_split (s : State) (l : Lane) :
    ∃ before rate game hour, before.length = 31 ∧ accountReply s l =
      before ++ be1 (flagBits [(s.acct l).warned, meterRunning (s.lane l), chargeSaturated (s.acct l)])
        ++ readingBytes (s.acct l).openTime ++ be4 (timePart (s.acct l)) ++ be4 (sessionCharge (s.acct l))
        ++ rate ++ game ++ hour := by
  refine ⟨_, _, _, _, ?_, rfl⟩
  simp only [laneRecordBytes, holdBytes, List.length_append, be1_length, be2_length, be4_length]

theorem accountReply_charge (s : State) (l : Lane) :
    ((accountReply s l).drop 36).take 8 = be4 (timePart (s.acct l)) ++ be4 (sessionCharge (s.acct l)) := by
  obtain ⟨before, rate, game, hour, hb, he⟩ := accountReply_split s l
  have hopen := readingBytes_length (s.acct l).openTime
  rw [he]
  simp only [List.append_assoc]
  rw [← List.append_assoc before, ← List.append_assoc (before ++ _), List.drop_left' (by simp [hb, hopen, be1_length]),
    ← List.append_assoc (be4 _), List.take_left' (by simp [be4_length])]

theorem accountReply_flags (s : State) (l : Lane) :
    (accountReply s l).getD 31 0 =
      BitVec.ofNat 8 (flagBits [(s.acct l).warned, meterRunning (s.lane l), chargeSaturated (s.acct l)]) := by
  obtain ⟨before, rate, game, hour, hb, he⟩ := accountReply_split s l
  rw [he]
  simp only [List.append_assoc]
  rw [List.getD_append_right _ _ _ _ hb.le, hb]
  rfl

/-- Bit 2 of three flags is the third. -/
theorem flagBits_third (x y z : Bool) : (BitVec.ofNat 8 (flagBits [x, y, z])).getLsbD 2 = z := by
  cases x <;> cases y <;> cases z <;> rfl

/-- Settles O35: the saturated and the exact charge, and the bytes of READ_ACCOUNT at their positions. -/
theorem sessionChargeValues : Obligations.SessionCharge := by
  unfold Obligations.SessionCharge
  intro a
  refine ⟨rfl, fun h => by simp [timePart, h], fun ⟨_, _, _, _, _, _, _, _, hg, _⟩ hm => by simp [timePart, hg hm],
    fun h => ?largest, sessionCharge_exact, sessionCharge_saturated, fun s l h => ?reply, fun _ _ => ⟨rfl, rfl, rfl⟩⟩
  case largest =>
    have ht := timePart_largest h
    exact ⟨ht, sessionCharge_saturated (by omega)⟩
  case reply =>
    subst h
    exact ⟨accountReply_charge s l, by rw [accountReply_flags, flagBits_third]⟩

end Sys2Proof.Machine

namespace Sys2Proof.Machine

/-! ### The books: the accounts of both lanes and the Rate Card (chapters 7 and 8)

Almost every operation leaves the books as they were; each of those has a lemma in the simp set that says so. The others
have a lemma that they keep the books sound. -/

/-- Accounts that balance and rates that are in range. -/
structure BooksSound (s : State) : Prop where
  accounts : Safety.AccountsBalanced s
  rates : Safety.RatesSound s

/-- The books are the accounts and the Rate Card alone. -/
theorem BooksSound.of_same {s t : State} (h : BooksSound s) (hr : t.rates = s.rates) (ha : ∀ k, t.acct k = s.acct k) :
    BooksSound t :=
  ⟨fun k => (ha k).symm ▸ h.accounts k, by rw [Safety.RatesSound, hr]; exact h.rates⟩

theorem booksSound_iff_of_same {s t : State} (hr : t.rates = s.rates) (ha : ∀ k, t.acct k = s.acct k) :
    BooksSound t ↔ BooksSound s :=
  ⟨fun h => h.of_same hr.symm fun k => (ha k).symm, fun h => h.of_same hr ha⟩

section
variable {l : Lane} {s : State}

theorem modLane_acct (l k : Lane) (f : LaneRec → LaneRec) (s : State) :
    (modLane l f s).acct k = if k = l then (f (s.lane l)).acct else s.acct k := by
  simp only [State.acct, modLane_lane]
  split <;> rfl

/-! ### Writes -/

/-- A lane record written with an account that balances. -/
theorem booksSound_setLane {r : LaneRec} (h : BooksSound s) (hr : Safety.AccountBalanced r.acct) :
    BooksSound (s.setLane l r) := by
  refine ⟨fun k => ?_, h.rates⟩
  rw [State.acct, State.setLane_lane]
  split
  · exact hr
  · exact h.accounts k

/-- An account rewritten so that it balances. -/
theorem booksSound_modAcct {f : Account → Account} (h : BooksSound s) (hf : Safety.AccountBalanced (f (s.acct l))) :
    BooksSound (modAcct l f s) := booksSound_setLane h hf

@[simp] theorem booksSound_modLane {f : LaneRec → LaneRec} (hf : ∀ r, (f r).acct = r.acct) :
    BooksSound (modLane l f s) ↔ BooksSound s := by
  refine booksSound_iff_of_same rfl fun k => ?_
  rw [modLane_acct, hf]
  split
  next h => rw [h]; rfl
  next => rfl

@[simp] theorem booksSound_modSup (l : Lane) (f : Supervisor → Supervisor) (s : State) :
    BooksSound (modSup l f s) ↔ BooksSound s := booksSound_iff_of_same rfl fun k => modSup_acct l f s k

@[simp] theorem booksSound_modCounters (l : Lane) (f : Counters → Counters) (s : State) :
    BooksSound (modCounters l f s) ↔ BooksSound s := booksSound_modSup l _ s

@[simp] theorem booksSound_modSquad (q : SquadId) (f : Squad → Squad) (s : State) :
    BooksSound (modSquad q f s) ↔ BooksSound s :=
  booksSound_iff_of_same rfl fun _ => rfl

@[simp] theorem booksSound_modReturn (f : ReturnMonitor → ReturnMonitor) (s : State) :
    BooksSound (modReturn f s) ↔ BooksSound s :=
  booksSound_iff_of_same rfl fun _ => rfl

@[simp] theorem booksSound_modPort (p : Port) (f : PortState → PortState) (s : State) :
    BooksSound (modPort p f s) ↔ BooksSound s := booksSound_iff_of_same (by simp) (by simp)

/-! ### The shared operations that leave the books alone -/

@[simp] theorem booksSound_enterNotice (p : Port) (n : Notice) (s : State) :
    BooksSound (enterNotice p n s) ↔ BooksSound s := booksSound_modPort p _ s

@[simp] theorem booksSound_raiseLane (k : NoticeKind) (l : Lane) (s : State) :
    BooksSound (raiseLane k l s) ↔ BooksSound s := booksSound_iff_of_same (by simp) (by simp [State.acct])

@[simp] theorem booksSound_raisePair (k : NoticeKind) (s : State) :
    BooksSound (raisePair k s) ↔ BooksSound s := booksSound_iff_of_same (by simp) (by simp [State.acct])

@[simp] theorem booksSound_sendMessage (l : Lane) (m : MachineMessage) (s : State) :
    BooksSound (sendMessage l m s) ↔ BooksSound s := booksSound_modSup l _ s

@[simp] theorem booksSound_startWatchdog (l : Lane) (s : State) :
    BooksSound (startWatchdog l s) ↔ BooksSound s := booksSound_modSup l _ s

@[simp] theorem booksSound_wake (l : Lane) (s : State) : BooksSound (wake l s) ↔ BooksSound s := by
  unfold wake
  split <;> simp

@[simp] theorem booksSound_powerDown (l : Lane) (s : State) : BooksSound (powerDown l s) ↔ BooksSound s := by
  unfold powerDown
  split <;> simp

@[simp] theorem booksSound_restartIdle (l : Lane) (s : State) : BooksSound (restartIdle l s) ↔ BooksSound s := by
  unfold restartIdle
  split <;> simp

@[simp] theorem booksSound_maintTest (l : Lane) (s : State) : BooksSound (maintTest l s) ↔ BooksSound s := by
  unfold maintTest
  dsimp only
  split <;> simp

@[simp] theorem booksSound_countCycle (l : Lane) (s : State) : BooksSound (countCycle l s) ↔ BooksSound s := by
  simp [countCycle]

@[simp] theorem booksSound_writeNextDeck (l : Lane) (x : Leave) (s : State) :
    BooksSound (writeNextDeck l x s) ↔ BooksSound s := booksSound_modSup l _ s

@[simp] theorem booksSound_setStale (l : Lane) (s : State) : BooksSound (setStale l s) ↔ BooksSound s := by
  unfold setStale
  split <;> simp

@[simp] theorem booksSound_dropHold (l : Lane) (h : Hold) (s : State) : BooksSound (dropHold l h s) ↔ BooksSound s :=
  booksSound_modLane fun _ => rfl

@[simp] theorem booksSound_gate (l : Lane) (s : State) : BooksSound (gate l s) ↔ BooksSound s := booksSound_modSup l _ s

@[simp] theorem booksSound_addHold (l : Lane) (h : Hold) (s : State) : BooksSound (addHold l h s) ↔ BooksSound s := by
  unfold addHold
  dsimp only
  (repeat' split) <;> simp

@[simp] theorem booksSound_issueCycle (l : Lane) (p : Purpose) (k : CycleKind) (x : Option Leave) (s : State) :
    BooksSound (issueCycle l p k x s) ↔ BooksSound s := by
  simp [issueCycle]

@[simp] theorem booksSound_creditOut (l : Lane) (s : State) : BooksSound (creditOut l s) ↔ BooksSound s := by
  simp [creditOut]

@[simp] theorem booksSound_armOrAlign (l : Lane) (s : State) : BooksSound (armOrAlign l s) ↔ BooksSound s := by
  unfold armOrAlign
  split <;> simp

@[simp] theorem booksSound_endTest (l : Lane) (faulted : Bool) (s : State) :
    BooksSound (endTest l faulted s) ↔ BooksSound s := by
  simp [endTest]

@[simp] theorem booksSound_noteFault (l : Lane) (c : FaultCause) (s : State) :
    BooksSound (noteFault l c s) ↔ BooksSound s := by
  simp [noteFault]

@[simp] theorem booksSound_setReopen (l : Lane) (m : Option ReopenMark) (s : State) :
    BooksSound (setReopen l m s) ↔ BooksSound s := booksSound_modLane fun _ => rfl

@[simp] theorem booksSound_setLaneState (l : Lane) (st : LaneState) (s : State) :
    BooksSound (setLaneState l st s) ↔ BooksSound s := booksSound_modLane fun _ => rfl

@[simp] theorem booksSound_startSquadGame (q : SquadId) (game : Nat) (s : State) :
    BooksSound (startSquadGame q game s) ↔ BooksSound s := by
  simp [startSquadGame]

@[simp] theorem booksSound_creditShort (l : Lane) (q : SquadId) (s : State) :
    BooksSound (creditShort l q s) ↔ BooksSound s := by
  unfold creditShort
  split <;> simp

@[simp] theorem booksSound_storeTotals (q : SquadId) (s : State) :
    BooksSound (storeTotals q s) ↔ BooksSound s :=
  booksSound_iff_of_same rfl fun _ => rfl

@[simp] theorem booksSound_convertSquad (q : SquadId) (s : State) :
    BooksSound (convertSquad q s) ↔ BooksSound s :=
  booksSound_iff_of_same rfl fun _ => rfl

@[simp] theorem booksSound_afterGame (q : SquadId) (l : Lane) (s : State) :
    BooksSound (afterGame q l s) ↔ BooksSound s := by
  unfold afterGame
  dsimp only
  split <;> simp

@[simp] theorem booksSound_exchangeLanes (s : State) : BooksSound (exchangeLanes s) ↔ BooksSound s := by
  simp [exchangeLanes]

@[simp] theorem booksSound_returnHome (s : State) : BooksSound (returnHome s) ↔ BooksSound s := by
  simp [returnHome]

@[simp] theorem booksSound_dropSwapHolds (s : State) : BooksSound (dropSwapHolds s) ↔ BooksSound s := by
  simp [dropSwapHolds]

@[simp] theorem booksSound_clearReopens (s : State) : BooksSound (clearReopens s) ↔ BooksSound s := by
  simp [clearReopens]

@[simp] theorem booksSound_waitForSwap (q : SquadId) (l : Lane) (s : State) :
    BooksSound (waitForSwap q l s) ↔ BooksSound s := by
  simp [waitForSwap]

@[simp] theorem booksSound_reportRound (l : Lane) (s : State) : BooksSound (reportRound l s) ↔ BooksSound s := by
  unfold reportRound
  split <;> simp

@[simp] theorem booksSound_roundDoneSingle (q : SquadId) (l : Lane) (s : State) :
    BooksSound (roundDoneSingle q l s) ↔ BooksSound s := by
  unfold roundDoneSingle
  split <;> simp

@[simp] theorem booksSound_countMismatch (l : Lane) (e : BallEntry) (s : State) :
    BooksSound (countMismatch l e s) ↔ BooksSound s := by
  unfold countMismatch
  split <;> simp

@[simp] theorem booksSound_pairMode (m : PairMode) (s : State) : BooksSound { s with pairMode := m } ↔ BooksSound s :=
  booksSound_iff_of_same rfl fun _ => rfl

@[simp] theorem booksSound_renameSquads (s : State) : BooksSound (renameSquads s) ↔ BooksSound s := by
  by_cases h : (s.squad .a).current = .a
  · rw [renameSquads_of_home h]
  · exact booksSound_iff_of_same (by simp) fun k => by simp only [State.acct, renameSquads_lane h]

@[simp] theorem booksSound_splitSquad (q : SquadId) (s : State) : BooksSound (splitSquad q s) ↔ BooksSound s := by
  unfold splitSquad
  dsimp only
  split <;> simp

@[simp] theorem booksSound_splitRecords (s : State) : BooksSound (splitRecords s) ↔ BooksSound s := by
  simp [splitRecords]

@[simp] theorem booksSound_syncIdle (l : Lane) (s : State) : BooksSound (syncIdle l s) ↔ BooksSound s := by
  unfold syncIdle
  dsimp only
  (repeat' split) <;> simp

@[simp] theorem booksSound_bumpSerial (s : State) (l : Lane) (t : State) :
    BooksSound (bumpSerial s l t) ↔ BooksSound t := by
  unfold bumpSerial
  split <;> simp

@[simp] theorem booksSound_settle (s t : State) : BooksSound (settle s t) ↔ BooksSound t := by
  simp [settle]

@[simp] theorem booksSound_answerRequest (p : Port) (st : Status) (body : List Byte) (s : State) :
    BooksSound (answerRequest p st body s) ↔ BooksSound s := by
  unfold answerRequest
  split <;> simp [queueReply]

@[simp] theorem booksSound_portBusy (e : Envelope) (code : Byte) (s : State) :
    BooksSound (portBusy e code s) ↔ BooksSound s := by
  unfold portBusy
  (repeat' split) <;> simp [consoleBusy, endConsoleReply]

@[simp] theorem booksSound_abandonGame (l : Lane) (s : State) : BooksSound (abandonGame l s) ↔ BooksSound s := by
  simp [abandonGame]

@[simp] theorem booksSound_abandonDelivery (l : Lane) (s : State) :
    BooksSound (abandonDelivery l s) ↔ BooksSound s := booksSound_modSup l _ s

@[simp] theorem booksSound_beginGames (q : SquadId) (g : Games) (s : State) :
    BooksSound (beginGames q g s) ↔ BooksSound s := by
  simp [beginGames]

@[simp] theorem booksSound_setFoulDetect (l : Lane) (on : Bool) (s : State) :
    BooksSound (setFoulDetect l on s) ↔ BooksSound s := booksSound_modLane fun _ => rfl

@[simp] theorem booksSound_unmarkBowler (q : SquadId) (slot : Nat) (renumber : Nat → Nat) (s : State) :
    BooksSound (unmarkBowler q slot renumber s) ↔ BooksSound s := by
  simp [unmarkBowler, mapReopens]

@[simp] theorem booksSound_modBowler (q : SquadId) (slot : Nat) (f : Bowler → Bowler) (s : State) :
    BooksSound (modBowler q slot f s) ↔ BooksSound s := booksSound_modSquad q _ s

@[simp] theorem booksSound_staleAfterCorrection (l : Lane) (before : Leave) (s : State) :
    BooksSound (staleAfterCorrection l before s) ↔ BooksSound s := by
  unfold staleAfterCorrection
  dsimp only
  (repeat' split) <;> simp

@[simp] theorem booksSound_latch (l : Lane) (c : CycleRec) (s : State) : BooksSound (latch l c s) ↔ BooksSound s := by
  unfold latch
  dsimp only
  split <;> simp

@[simp] theorem booksSound_endCycle (l : Lane) (c : CycleRec) (s : State) :
    BooksSound (endCycle l c s) ↔ BooksSound s := by
  unfold endCycle
  dsimp only
  split <;> simp

@[simp] theorem booksSound_countFault (l : Lane) (s : State) : BooksSound (countFault l s) ↔ BooksSound s :=
  booksSound_modCounters l _ s

@[simp] theorem booksSound_readDeck (l : Lane) (s : State) : BooksSound (readDeck l s) ↔ BooksSound s := by
  unfold readDeck
  split <;> simp

@[simp] theorem booksSound_addReturnHolds (s : State) : BooksSound (addReturnHolds s) ↔ BooksSound s := by
  simp [addReturnHolds]

@[simp] theorem booksSound_stopCycle (l : Lane) (s : State) : BooksSound (stopCycle l s) ↔ BooksSound s := by
  unfold stopCycle
  split <;> simp

@[simp] theorem booksSound_beginTest (l : Lane) (s : State) : BooksSound (beginTest l s) ↔ BooksSound s := by
  unfold beginTest
  dsimp only
  split <;> simp

end

end Sys2Proof.Machine

namespace Sys2Proof.Machine

/-! ### The account's own moves keep it balanced (R122 to R130, R136) -/

section
variable {a : Account}

theorem accountBalanced_cleared : Safety.AccountBalanced .cleared := by
  simp [Safety.AccountBalanced, Account.cleared]

theorem accountBalanced_loaded (m : AccountMode) (credit warn : Nat) (now : Option ClockReading) :
    Safety.AccountBalanced (loadedAccount m credit warn now) := by
  cases m <;> simp [Safety.AccountBalanced, loadedAccount, Account.cleared]

/-- A credit taken at a price of at most 9,999 (R124, R139): one moves from the credit to the credits taken, of which there
are never more than the 9,999 that can be loaded. -/
theorem accountBalanced_takeCredit {price : Nat} (h : Safety.AccountBalanced a) (hc : a.gameCredit ≠ 0)
    (hp : price ≤ 9999) :
    Safety.AccountBalanced { a with
      gameCredit := a.gameCredit - 1, creditsTaken := a.creditsTaken + 1, gameCharges := a.gameCharges + price } := by
  obtain ⟨hg, ht, h1, h2, h3, h4, h5, h6, h7, h8, h9, h10⟩ := h
  refine ⟨?_, ht, ?_, h2, h3, h4, h5, h6, h7, ?_, ?_, h10⟩ <;> dsimp only <;> omega

theorem accountBalanced_addCredit (h : Safety.AccountBalanced a) (amount : Nat) :
    Safety.AccountBalanced { a with
      gameCredit := a.gameCredit + creditAdded a amount, creditsLoaded := a.creditsLoaded + creditAdded a amount } := by
  obtain ⟨hg, ht, h1, h2, h3, h4, h5, h6, h7, h8, h9, h10⟩ := h
  have hroom : creditAdded a amount ≤ 99 - a.gameCredit ∧ creditAdded a amount ≤ 9999 - a.creditsLoaded := by
    unfold creditAdded; omega
  refine ⟨?_, ht, ?_, ?_, h3, h4, h5, h6, h7, h8, h9, h10⟩ <;> dsimp only <;> omega

theorem accountBalanced_addTime {w : Bool} (h : Safety.AccountBalanced a) (amount : Nat) :
    Safety.AccountBalanced { a with
      timeCredit := a.timeCredit + minutesAdded a amount, minutesLoaded := a.minutesLoaded + minutesAdded a amount
      warned := w } := by
  obtain ⟨hg, ht, h1, h2, h3, h4, h5, h6, h7, h8, h9, h10⟩ := h
  have hroom : minutesAdded a amount ≤ 720 - a.timeCredit ∧ minutesAdded a amount ≤ 99999 - a.minutesLoaded := by
    unfold minutesAdded; omega
  refine ⟨hg, ?_, h1, h2, ?_, ?_, h5, h6, h7, h8, h9, h10⟩ <;> dsimp only <;> omega

theorem accountBalanced_phase {n : Nat} (h : Safety.AccountBalanced a) (hn : n ≤ 59) :
    Safety.AccountBalanced { a with phase := n } := by
  obtain ⟨hg, ht, h1, h2, h3, h4, -, h6, h7, h8, h9, h10⟩ := h
  exact ⟨hg, ht, h1, h2, h3, h4, hn, h6, h7, h8, h9, h10⟩

/-- A lane-minute metered moves a minute from the time credit, and only TIME mode is metered (R127, R128). -/
theorem accountBalanced_meterMinute (price : Nat) (h : Safety.AccountBalanced a) (hm : a.mode = .time)
    (hc : 1 ≤ a.timeCredit) : Safety.AccountBalanced (meterMinute price a) := by
  obtain ⟨hg, ht, h1, h2, h3, h4, h5, h6, h7, h8, h9, h10⟩ := h
  have hnot : (meterMinute price a).mode ≠ .game := by simp [meterMinute, hm]
  refine ⟨hg, ?_, h1, h2, ?_, h4, Nat.zero_le _, Nat.min_le_left .., fun hg => absurd hg hnot, h8, h9, h10⟩ <;>
    dsimp only [meterMinute] <;> omega

end

/-! ### The arming decision, the parking and the play keep the books sound -/

section
variable {l : Lane} {s : State} {q : SquadId}

/-- The per-game price in effect is in range (R139, R141). -/
theorem entryInEffect_perGame_le (h : Safety.RatesSound s) : (entryInEffect s).perGame ≤ 9999 := by
  obtain ⟨-, -, hw, -⟩ := h
  unfold entryInEffect
  by_cases hn : s.rates.inEffect < s.rates.working.length
  · rw [List.getD_eq_getElem _ _ hn]
    exact (hw _ (List.getElem_mem hn)).1
  · rw [List.getD_eq_default _ _ (Nat.not_lt.mp hn)]
    exact Nat.zero_le _

theorem booksSound_takeCredit (h : BooksSound s) (hc : (s.acct l).gameCredit ≠ 0) : BooksSound (takeCredit l q s) := by
  unfold takeCredit
  rw [booksSound_modSquad]
  exact booksSound_modAcct h (accountBalanced_takeCredit (h.accounts l) hc (entryInEffect_perGame_le h.rates))

/-- The decision touches the books where it takes a credit (R51, R124). -/
theorem booksSound_arm (h : BooksSound s) : BooksSound (arm l s) := by
  unfold arm
  split
  · split
    · split
      · simpa using h
      next hc => simpa using booksSound_takeCredit h hc
    · simpa using h
  · simpa using h

theorem booksSound_decide52 (h : BooksSound s) : BooksSound (decide52 l s) := by
  unfold decide52
  split
  · exact booksSound_arm h
  · exact h

theorem booksSound_bowlerChanged (h : BooksSound s) : BooksSound (bowlerChanged l s) := by
  unfold bowlerChanged
  split
  · exact booksSound_arm (by simpa using h)
  · exact h

theorem booksSound_bothChanged (h : BooksSound s) : BooksSound (bothChanged s) :=
  booksSound_bowlerChanged (booksSound_bowlerChanged h)

theorem booksSound_removeHold {x : Hold} (h : BooksSound s) : BooksSound (removeHold l x s) := by
  unfold removeHold
  dsimp only
  split
  · split
    · exact booksSound_arm (by simpa using h)
    · simpa using h
  · exact h

theorem booksSound_removeReturnHolds (h : BooksSound s) : BooksSound (removeReturnHolds s) :=
  booksSound_removeHold (booksSound_removeHold h)

/-- A lane that parks clears its account (R136). -/
theorem booksSound_park {faulted : Bool} (h : BooksSound s) : BooksSound (park l faulted s) := by
  unfold park enterClosed
  rw [booksSound_modSquad]
  exact booksSound_setLane (by simpa using h) accountBalanced_cleared

theorem booksSound_recoverActs (h : BooksSound s) : BooksSound (recoverActs l s) := by
  unfold recoverActs
  split
  · simpa using h
  · simpa using h
  · exact h
  · split
    · exact booksSound_park h
    · exact h

theorem booksSound_enterRecover (h : BooksSound s) : BooksSound (enterRecover l s) :=
  booksSound_recoverActs (by simpa using h)

theorem booksSound_closingCycle (h : BooksSound s) : BooksSound (closingCycle l s) := by
  unfold closingCycle
  split
  · simpa using h
  · exact booksSound_park h
  · exact booksSound_enterRecover h

theorem booksSound_issueDelivery {after : Leave} {sameFrame : Bool} (h : BooksSound s) :
    BooksSound (issueDelivery l after sameFrame s) := by
  unfold issueDelivery
  dsimp only
  split
  · split <;> simpa using h
  · exact booksSound_enterRecover (by simpa using h)

theorem booksSound_faultMove {code : Nat} (h : BooksSound s) : BooksSound (faultMove l code s) := by
  unfold faultMove
  dsimp only
  split
  · simpa using h
  · split <;> simpa using h
  · split
    · simpa using h
    · exact booksSound_park (by simpa using h)
    · simpa using h

theorem booksSound_swapSquads {f : Nat} (h : BooksSound s) : BooksSound (swapSquads f s) :=
  booksSound_bothChanged (by simpa using h)

theorem booksSound_endPairGame (h : BooksSound s) : BooksSound (endPairGame q s) := by
  unfold endPairGame
  dsimp only
  split <;> exact booksSound_bothChanged (by simpa using h)

theorem booksSound_reachGameDone (h : BooksSound s) : BooksSound (reachGameDone q l s) := by
  unfold reachGameDone
  dsimp only
  split
  · exact booksSound_endPairGame (by simpa using h)
  · simpa using h

theorem booksSound_roundDoneCross (h : BooksSound s) : BooksSound (roundDoneCross q l s) := by
  unfold roundDoneCross
  dsimp only
  split
  · split
    · exact booksSound_swapSquads h
    · simpa using h
  · exact booksSound_reachGameDone h

theorem booksSound_roundDone (h : BooksSound s) : BooksSound (roundDone q l s) := by
  unfold roundDone
  dsimp only
  split
  · simpa using h
  · exact booksSound_roundDoneCross (by simpa using h)

theorem booksSound_chooseNext (h : BooksSound s) : BooksSound (chooseNext q l s) := by
  unfold chooseNext
  dsimp only
  split
  · simpa using h
  · exact booksSound_roundDone (by simpa using h)

theorem booksSound_recordBall {leave : Leave} {foul : Bool} {source : Source} (h : BooksSound s) :
    BooksSound (recordBall l leave foul source s).1 := by
  unfold recordBall
  dsimp only
  split
  · split
    · simpa using booksSound_chooseNext (by simpa using h)
    · simpa using h
  · exact h

theorem booksSound_replaceCurrent (h : BooksSound s) : BooksSound (replaceCurrent q s) :=
  booksSound_bowlerChanged (booksSound_chooseNext (by simpa using h))

theorem booksSound_rotateCorrected {n k : Nat} {before after : List BallEntry} (h : BooksSound s) :
    BooksSound (rotateCorrected q l n k before after s) := by
  unfold rotateCorrected
  split
  · simpa using h
  · split <;> exact booksSound_chooseNext (by simpa using h)
  · simpa using h
  · exact h

theorem booksSound_takeCorrection {p : Port} {n k : Nat} {b : Bowler} {after : List BallEntry} (h : BooksSound s) :
    BooksSound (takeCorrection p q n k b after s) := by
  unfold takeCorrection
  dsimp only
  rw [booksSound_enterNotice]
  split
  · exact booksSound_bowlerChanged (by simpa using booksSound_rotateCorrected (by simpa using h))
  · simpa using booksSound_rotateCorrected (by simpa using h)

theorem booksSound_enterBallEffect {leave : Leave} {foul : Bool} (h : BooksSound s) :
    BooksSound (enterBallEffect l leave foul s) := by
  have hr : BooksSound (removeHold l .entry (recordBall l leave foul .entered s).1) :=
    booksSound_removeHold (booksSound_recordBall h)
  unfold enterBallEffect afterEntered
  dsimp only
  split
  · simpa using hr
  · exact booksSound_issueDelivery hr

/-! ### The Billing Unit keeps the books sound -/

theorem booksSound_openEffect {m : AccountMode} {credit warn : Nat} (h : BooksSound s) :
    BooksSound (openEffect l m credit warn s) := by
  unfold openEffect
  dsimp only
  rw [booksSound_wake]
  exact booksSound_setLane h (accountBalanced_loaded ..)

theorem booksSound_freezeSession (h : BooksSound s) : BooksSound (freezeSession l s) := by
  unfold freezeSession
  rw [booksSound_raiseLane]
  exact booksSound_setLane h (accountBalanced_phase (h.accounts l) (by decide))

theorem booksSound_closeSequence (h : BooksSound s) : BooksSound (closeSequence l s) := by
  have hcl : BooksSound (closingCycle l (abandonDelivery l s)) := booksSound_closingCycle (by simpa using h)
  unfold closeSequence
  split
  · exact booksSound_park h
  · exact booksSound_park h
  · exact booksSound_park h
  · exact hcl
  · exact hcl
  · split
    · exact booksSound_park h
    · exact hcl
  · exact h
  · split
    · exact booksSound_park h
    · exact h
  · exact booksSound_park h

theorem booksSound_closeEffect (h : BooksSound s) : BooksSound (closeEffect l s) := by
  unfold closeEffect
  split
  · exact booksSound_closeSequence (by simpa using booksSound_freezeSession (by simpa using h))
  · exact booksSound_decide52
      (booksSound_closeSequence (by simpa using booksSound_freezeSession (by simpa using h)))

theorem booksSound_addCreditEffect {amount : Nat} (h : BooksSound s) :
    BooksSound (addCreditEffect l (creditAdded (s.acct l) amount) s) := by
  have ha : BooksSound (modAcct l (fun a => { a with
      gameCredit := a.gameCredit + creditAdded (s.acct l) amount
      creditsLoaded := a.creditsLoaded + creditAdded (s.acct l) amount }) s) :=
    booksSound_modAcct h (accountBalanced_addCredit (h.accounts l) amount)
  unfold addCreditEffect
  dsimp only
  split
  · exact booksSound_removeHold ha
  · exact ha

theorem booksSound_addTimeEffect {amount : Nat} (h : BooksSound s) :
    BooksSound (addTimeEffect l (minutesAdded (s.acct l) amount) s) := by
  rw [addTimeEffect_eq]
  dsimp only
  split
  · exact booksSound_removeHold (booksSound_setLane h (accountBalanced_addTime (h.accounts l) amount))
  · exact booksSound_setLane h (accountBalanced_addTime (h.accounts l) amount)

theorem booksSound_warnMinute (h : BooksSound s) : BooksSound (warnMinute l s) := by
  unfold warnMinute
  dsimp only
  split
  · rw [booksSound_raiseLane]
    exact booksSound_modAcct h (h.accounts l)
  · exact h

@[simp] theorem booksSound_exhaustMinute (l : Lane) (s : State) : BooksSound (exhaustMinute l s) ↔ BooksSound s := by
  unfold exhaustMinute
  dsimp only
  (repeat' split) <;> simp

/-- A running second (R128): below the sixtieth the phase rises, and the sixtieth completes a lane-minute. -/
theorem booksSound_runSecond (h : BooksSound s) : BooksSound (runSecond l s) := by
  by_cases hrun : meterRunning (s.lane l) = true
  · obtain ⟨hmode, -, hcredit, -⟩ := (meterRunning_iff _).mp hrun
    by_cases hp : (s.acct l).phase + 1 < 60
    · rw [runSecond_phase hrun hp]
      exact booksSound_setLane h (accountBalanced_phase (h.accounts l) (Nat.le_of_lt_succ hp))
    · rw [runSecond_minute hrun hp, booksSound_exhaustMinute]
      exact booksSound_warnMinute (booksSound_setLane h (accountBalanced_meterMinute _ (h.accounts l) hmode hcredit))
  · rw [runSecond_stands hrun]
    exact h

end

end Sys2Proof.Machine

namespace Sys2Proof.Machine

/-! ### The Rate Card's own moves keep it in range (R139, R143 to R152) -/

section
variable {n : Nat} {v : RateEntry} {s : State}

theorem rateSound_absent : Safety.RateSound .absent := ⟨Nat.zero_le _, fun _ => rfl⟩

theorem rateSound_factory : Safety.RateSound .factory := ⟨Nat.zero_le _, nofun⟩

theorem rateSound_entryOrFactory (n : Nat) (h : Safety.RateSound v) : Safety.RateSound (entryOrFactory n v) := by
  unfold entryOrFactory
  split
  · exact rateSound_factory
  · exact h

/-- An entry that passes its field checks is in range (R139, R143). -/
theorem rateSound_of_rateEntryOf {f : RateFields} (h : rateEntryOf f = some v) : Safety.RateSound v := by
  unfold rateEntryOf at h
  split at h
  · split at h
    · cases h
    · split at h
      next hr => cases h; exact ⟨hr.2.2.1, nofun⟩
      next => cases h
  · cases h; exact rateSound_absent

/-- A stored value loads as itself, as absent, or as the factory default (R152). -/
theorem rateSound_loadedEntry {x : StoredEntry} (n : Nat) (h : Safety.RateSound x.value) :
    Safety.RateSound (loadedEntry n x) := by
  unfold loadedEntry
  refine rateSound_entryOrFactory n ?_
  split
  · exact h
  · exact rateSound_absent

theorem ratesSound_writeWorking (h : Safety.RatesSound s) (hv : Safety.RateSound v) :
    Safety.RatesSound (writeWorking n v s) := by
  obtain ⟨hw, hst, hsound, hrest⟩ := h
  refine ⟨List.length_set.trans hw, hst, fun x hx => ?_, hrest⟩
  rcases List.mem_or_eq_of_mem_set hx with hx | rfl
  · exact hsound x hx
  · exact rateSound_entryOrFactory n hv

/-- A stored entry of a sound Rate Store is in range. -/
theorem rateSound_storedEntry (h : Safety.RatesSound s) (n : Nat) : Safety.RateSound (storedEntry s n).value := by
  obtain ⟨-, -, -, hstore, -⟩ := h
  unfold storedEntry
  by_cases hn : n < s.rates.store.length
  · rw [List.getD_eq_getElem _ _ hn]
    exact hstore _ (List.getElem_mem hn)
  · rw [List.getD_eq_default _ _ (Nat.not_lt.mp hn)]
    exact rateSound_absent

theorem ratesSound_modStored {f : StoredEntry → StoredEntry} (h : Safety.RatesSound s)
    (hf : Safety.RateSound (f (storedEntry s n)).value) : Safety.RatesSound (modStored n f s) := by
  obtain ⟨hw, hst, hsound, hstore, hprog⟩ := h
  refine ⟨hw, List.length_set.trans hst, hsound, fun x hx => ?_, hprog⟩
  rcases List.mem_or_eq_of_mem_set hx with hx | rfl
  · exact hstore x hx
  · exact hf

theorem ratesSound_startProgramming (h : Safety.RatesSound s) (hn : n < 16) (hv : Safety.RateSound v) :
    Safety.RatesSound (startProgramming n v s) := by
  have hcompromised : Safety.RatesSound (modStored n (fun x => { x with state := .compromised, writes := x.writes + 1 }) s) :=
    ratesSound_modStored h (rateSound_storedEntry h n)
  obtain ⟨hw, hst, hsound, hstore, -⟩ := hcompromised
  exact ⟨hw, hst, hsound, hstore, fun p hp => by cases hp; exact ⟨hn, hv⟩⟩

theorem ratesSound_stopProgramming (h : Safety.RatesSound s) :
    Safety.RatesSound (modRates (fun r => { r with programming := none }) s) := by
  obtain ⟨hw, hst, hsound, hstore, -⟩ := h
  exact ⟨hw, hst, hsound, hstore, nofun⟩

/-- The load of the working copy (R152). -/
theorem ratesSound_loadRates (h : Safety.RatesSound s) : Safety.RatesSound (loadRates s) := by
  obtain ⟨-, hst, -, hstore, -⟩ := h
  refine ⟨?_, hst, fun v hv => ?_, hstore, nofun⟩
  · simpa [loadRates, loadFrom_eq] using hst
  · have hv' : v ∈ loadFrom 0 s.rates.store := hv
    rw [loadFrom_eq, List.mem_mapIdx] at hv'
    obtain ⟨i, hi, rfl⟩ := hv'
    exact rateSound_loadedEntry _ (hstore _ (List.getElem_mem hi))

@[simp] theorem booksSound_reevaluate (s : State) : BooksSound (reevaluate s) ↔ BooksSound s := by
  unfold reevaluate
  dsimp only
  split
  · rfl
  · rw [booksSound_raisePair]
    exact ⟨fun ⟨ha, hr⟩ => ⟨ha, hr⟩, fun ⟨ha, hr⟩ => ⟨ha, hr⟩⟩

theorem booksSound_writeWorking (h : BooksSound s) (hv : Safety.RateSound v) : BooksSound (writeWorking n v s) :=
  ⟨h.accounts, ratesSound_writeWorking h.rates hv⟩

theorem booksSound_loadRates (h : BooksSound s) : BooksSound (loadRates s) := ⟨h.accounts, ratesSound_loadRates h.rates⟩

theorem booksSound_stopProgramming (h : BooksSound s) :
    BooksSound (modRates (fun r => { r with programming := none }) s) :=
  ⟨h.accounts, ratesSound_stopProgramming h.rates⟩

theorem booksSound_endProgramming {st : Status} (h : BooksSound s) : BooksSound (endProgramming n st s) := by
  simpa [endProgramming] using booksSound_stopProgramming h

@[simp] theorem booksSound_key (k : Bool) (s : State) : BooksSound { s with key := k } ↔ BooksSound s :=
  booksSound_iff_of_same rfl fun _ => rfl

/-- The value programmed is stored and taken into the working copy (R148). -/
theorem booksSound_takeCompletion (h : BooksSound s) : BooksSound (takeCompletion s) := by
  unfold takeCompletion
  split
  next p hp =>
    obtain ⟨-, -, -, -, hprog⟩ := h.rates
    have hv := (hprog p hp).2
    exact booksSound_endProgramming (booksSound_writeWorking ⟨h.accounts, ratesSound_modStored h.rates hv⟩ hv)
  next => exact h

theorem booksSound_takeKeyRelease (h : BooksSound s) : BooksSound (takeKeyRelease s) := by
  unfold takeKeyRelease
  dsimp only
  split
  · exact booksSound_endProgramming (booksSound_writeWorking (by simpa using h) rateSound_absent)
  · simpa using h

end

/-! ### The clock and the supply keep the books sound -/

section
variable {l : Lane} {s : State}

@[simp] theorem booksSound_clock (c : Clock) (s : State) : BooksSound { s with clock := c } ↔ BooksSound s :=
  booksSound_iff_of_same rfl fun _ => rfl

@[simp] theorem booksSound_supply (v : Supply) (s : State) : BooksSound { s with supply := v } ↔ BooksSound s :=
  booksSound_iff_of_same rfl fun _ => rfl

theorem booksSound_takeClockSecond (h : BooksSound s) : BooksSound (takeClockSecond s) := by
  unfold takeClockSecond
  dsimp only
  (repeat' split) <;> simpa using h

theorem booksSound_takeCrystalStop (h : BooksSound s) : BooksSound (takeCrystalStop s) := by
  unfold takeCrystalStop
  dsimp only
  split <;> simpa using h

theorem booksSound_takeBatteryLow (h : BooksSound s) : BooksSound (takeBatteryLow s) := by
  unfold takeBatteryLow
  dsimp only
  split <;> simpa using h

/-- The accounts at their cold-start values (R138). -/
theorem booksSound_coldPair (h : BooksSound s) : BooksSound (coldPair s) :=
  ⟨fun k => by cases k <;> exact accountBalanced_cleared, h.rates⟩

theorem booksSound_coldRecords (h : BooksSound s) : BooksSound (coldRecords s) :=
  ⟨(booksSound_coldPair h).accounts, h.rates⟩

@[simp] theorem booksSound_restartLane (l : Lane) (s : State) : BooksSound (restartLane l s) ↔ BooksSound s :=
  booksSound_modLane fun _ => rfl

theorem booksSound_restartCycle (h : BooksSound s) : BooksSound (restartCycle l s) := by
  unfold restartCycle
  split
  · exact h
  · split
    · split
      · exact booksSound_park h
      · simpa using h
    · exact booksSound_enterRecover h

theorem booksSound_startOn {k : StartKind} (h : BooksSound s) : BooksSound (startOn k s) := by
  have hcore : BooksSound (startCore k s) := ⟨h.accounts, h.rates⟩
  exact booksSound_restartCycle (booksSound_restartCycle (by simpa using booksSound_loadRates hcore))

theorem booksSound_startOf {k : StartKind} (h : BooksSound s) : BooksSound (startOf k s) := by
  unfold startOf
  split
  · simpa using booksSound_startOn h
  · exact booksSound_startOn (booksSound_coldRecords h)

theorem booksSound_stopCore (h : BooksSound s) : BooksSound (stopCore s) :=
  (booksSound_stopProgramming h).of_same (by rw [stopCore_eq]; rfl) fun k => by rw [stopCore_eq]; cases k <;> rfl

theorem booksSound_takeMainFailure (h : BooksSound s) : BooksSound (takeMainFailure s) := by
  rw [takeMainFailure_eq]
  split
  · simpa [countFailure] using booksSound_stopCore h
  · simpa using h

theorem booksSound_takeMainReturn (h : BooksSound s) : BooksSound (takeMainReturn s) := by
  rw [takeMainReturn_eq]
  split
  · exact h
  · split
    · simpa using h
    · exact booksSound_startOf h

theorem booksSound_takeRetentionLoss (h : BooksSound s) : BooksSound (takeRetentionLoss s) := by
  unfold takeRetentionLoss
  split
  · simpa using booksSound_coldRecords h
  · exact h

theorem booksSound_takeResetAssert (h : BooksSound s) : BooksSound (takeResetAssert s) := by
  unfold takeResetAssert
  split
  · simpa using booksSound_stopCore h
  · exact h

theorem booksSound_takeResetRelease (h : BooksSound s) : BooksSound (takeResetRelease s) := by
  rw [takeResetRelease_eq]
  split
  · exact h
  split
  · exact booksSound_startOf h
  split
  · exact booksSound_startOf h
  · simpa using h

/-- The ticks of the running seconds are no part of the books. -/
theorem booksSound_idleTick (h : BooksSound s) : BooksSound (idleTick s) := by
  have hlane : ∀ r, (tickLane r).acct = r.acct := fun r => by unfold tickLane; split <;> rfl
  unfold idleTick
  split
  · exact h.of_same rfl fun k => by cases k <;> exact hlane _
  · exact h

end

end Sys2Proof.Machine

namespace Sys2Proof.Machine

/-! ### The events of machines, sensors, timers and the ball return keep the books sound -/

section
variable {l : Lane} {s : State}

theorem booksSound_takeWarm (h : BooksSound s) : BooksSound (takeWarm l s) := by
  have hw : BooksSound (modSup l (fun u => { u with power := .running, warmUpTimer := none }) s) := by simpa using h
  unfold takeWarm runsNow
  split
  · split
    · exact booksSound_arm hw
    · split <;> simpa using h
    · split <;> simpa using h
    · exact hw
  · exact h

theorem booksSound_takeDeck {x : Leave} (h : BooksSound s) : BooksSound (takeDeck l x s) := by
  unfold takeDeck
  dsimp only
  split
  · exact booksSound_issueDelivery (booksSound_recordBall (by simpa using h))
  · exact h

theorem booksSound_takeRespot (h : BooksSound s) : BooksSound (takeRespot l s) := by
  unfold takeRespot
  (repeat' split) <;> simpa using h

theorem booksSound_afterTest (h : BooksSound s) : BooksSound (afterTest l s) := by
  unfold afterTest
  dsimp only
  split
  · simpa using h
  · split
    · simpa using h
    · exact booksSound_arm (by simpa using h)

theorem booksSound_afterPurpose {p : Purpose} (h : BooksSound s) : BooksSound (afterPurpose l p s) := by
  cases p with
  | delivery | align | resetDeck => exact booksSound_arm h
  | recovery => exact booksSound_arm (by simpa using h)
  | close => exact booksSound_park h
  | test => exact booksSound_afterTest h

theorem booksSound_afterClosing {c : CycleRec} (h : BooksSound s) : BooksSound (afterClosing l c s) := by
  unfold afterClosing
  split
  · exact booksSound_park h
  · exact booksSound_closingCycle (by simpa using h)

theorem booksSound_takeCycleDone (h : BooksSound s) : BooksSound (takeCycleDone l s) := by
  unfold takeCycleDone
  dsimp only
  split
  · split
    · exact booksSound_afterClosing (by simpa using h)
    · exact booksSound_afterPurpose (by simpa using h)
  · exact h

theorem booksSound_takeMachineFault {code : Byte} (h : BooksSound s) : BooksSound (takeMachineFault l code s) :=
  booksSound_faultMove (by simpa using h)

theorem booksSound_takeDetection (h : BooksSound s) : BooksSound (takeDetection l s) := by
  unfold takeDetection startDelivery deadBall
  dsimp only
  (repeat' split) <;> simpa using h

theorem booksSound_takeFoul (h : BooksSound s) : BooksSound (takeFoul l s) := by
  unfold takeFoul
  (repeat' split) <;> simpa using h

theorem booksSound_takeSettle (h : BooksSound s) : BooksSound (takeSettle l s) := by
  unfold takeSettle
  split <;> simpa using h

theorem booksSound_takeDeckLimit (h : BooksSound s) : BooksSound (takeDeckLimit l s) := by
  unfold takeDeckLimit secondRead enterEntry
  (repeat' split) <;> simpa using h

theorem booksSound_takeWatchdog (h : BooksSound s) : BooksSound (takeWatchdog l s) := by
  unfold takeWatchdog
  split
  · split
    · simpa [retryCycle] using h
    · exact booksSound_faultMove (by simpa using h)
  · exact h

/-- The counter of free values is no part of the books. -/
theorem booksSound_free {n : Nat} (h : BooksSound s) : BooksSound { s with free := n } := h.of_same rfl fun _ => rfl

theorem booksSound_takeWarmUp (h : BooksSound s) : BooksSound (takeWarmUp l s) := by
  unfold takeWarmUp
  dsimp only
  split
  · exact booksSound_faultMove (booksSound_free (by simpa using h))
  · exact h

theorem booksSound_takeIdle (h : BooksSound s) : BooksSound (takeIdle l s) := by
  unfold takeIdle
  dsimp only
  (repeat' split) <;> simpa using h

theorem booksSound_takePitExit (h : BooksSound s) : BooksSound (takePitExit l s) := by
  have hjoin : BooksSound (joinQueue l s) := by
    unfold joinQueue sensorFault
    split <;> simpa using h
  unfold takePitExit
  split
  · simpa using h
  · exact hjoin
  · exact hjoin
  · exact hjoin
  · exact h
  · exact h

theorem booksSound_takeArrival (h : BooksSound s) : BooksSound (takeArrival s) := by
  have hstray : BooksSound (strayArrival s) := by simpa [strayArrival] using h
  have hhead : BooksSound (headArrives s) := by simpa [headArrives] using h
  unfold takeArrival
  split
  · exact hstray
  · split
    · exact hstray
    · exact hhead
  · exact hhead
  · simpa [jamFreed] using booksSound_removeReturnHolds hhead
  · exact h
  · exact h

theorem booksSound_takeRunOn (h : BooksSound s) : BooksSound (takeRunOn s) := by
  unfold takeRunOn
  split <;> simpa using h

theorem booksSound_takeTransit (h : BooksSound s) : BooksSound (takeTransit s) := by
  unfold takeTransit startAttempt
  split <;> simpa using h

theorem booksSound_takeReverseEnd (h : BooksSound s) : BooksSound (takeReverseEnd s) := by
  unfold takeReverseEnd
  split <;> simpa using h

theorem booksSound_takeForwardEnd (h : BooksSound s) : BooksSound (takeForwardEnd s) := by
  unfold takeForwardEnd startAttempt declareJam
  (repeat' split) <;> simpa using h

theorem booksSound_emptyReturn {st : ReturnState} (h : BooksSound s) : BooksSound (emptyReturn st s) := by
  unfold emptyReturn
  dsimp only
  split
  · simpa using booksSound_removeReturnHolds (by simpa using h)
  · simpa using h

theorem booksSound_bytesUnderHold (h : BooksSound s) : BooksSound (bytesUnderHold s) := by
  unfold bytesUnderHold consoleBusy
  split <;> simpa using h

theorem booksSound_takeSelectRise (h : BooksSound s) : BooksSound (takeSelectRise s) := by
  unfold takeSelectRise endConsoleReply
  split <;> simpa using h

theorem booksSound_takeTurnaround {p : Port} (h : BooksSound s) : BooksSound (takeTurnaround p s) := by
  unfold takeTurnaround
  (repeat' split) <;> simpa using h

theorem booksSound_takeReplySent {p : Port} (h : BooksSound s) : BooksSound (takeReplySent p s) := by
  unfold takeReplySent
  (repeat' split) <;> simpa using h

end

/-! ### The requests keep the books sound -/

/-- A request whose own part keeps the books sound. -/
def KeepsBooks (body : State → Answer) : Prop := ∀ s, BooksSound s → BooksSound (body s).state

theorem keepsBooks_withLane {f : Lane → State → Answer} (h : ∀ l, KeepsBooks (f l)) (c : Coded Lane) :
    KeepsBooks (withLane c f) := by
  cases c with
  | val l => exact h l
  | bad _ => exact fun _ hs => hs

theorem keepsBooks_withSelector {f : State → Answer} (h : KeepsBooks f) (x : Option Byte) :
    KeepsBooks (withSelector x f) := by
  cases x with
  | none => exact h
  | some _ => exact fun _ hs => hs

theorem keepsBooks_withRoster {f : SquadId → State → Answer} (h : ∀ q, KeepsBooks (f q)) (c : Coded SquadId)
    (slots : List Nat) : KeepsBooks (withRoster c slots f) := by
  intro s hs
  unfold withRoster
  split
  · exact hs
  split
  · exact hs
  split
  · exact hs
  · exact h _ s hs

/-- A request that reads and changes nothing. -/
theorem keepsBooks_read (st : Status) (f : State → List Byte) : KeepsBooks fun s => .now st (f s) s := fun _ h => h

theorem keepsBooks_open (mode : Coded AccountMode) (credit : BitVec 16) (warn : Option (BitVec 16)) (l : Lane) :
    KeepsBooks (openBody mode credit warn l) := by
  intro s h
  unfold openBody
  dsimp only
  split
  · exact h
  split
  · exact h
  · exact booksSound_openEffect h

theorem keepsBooks_close (l : Lane) : KeepsBooks (closeBody l) := by
  intro s h
  unfold closeBody
  split
  · exact booksSound_closeEffect h
  · exact h

theorem keepsBooks_pause (l : Lane) : KeepsBooks (pauseBody l) := by
  intro s h
  unfold pauseBody
  split <;> simpa using h

theorem keepsBooks_resume (fromDesk : Bool) (l : Lane) : KeepsBooks (resumeBody fromDesk l) := by
  intro s h
  unfold resumeBody
  split
  · exact h
  · cases fromDesk
    · exact booksSound_removeHold h
    · exact booksSound_removeHold (booksSound_removeHold h)

theorem keepsBooks_addCredit (amount : BitVec 16) (l : Lane) : KeepsBooks (addCreditBody amount l) := by
  intro s h
  unfold addCreditBody
  split
  · exact h
  split
  · exact h
  split
  · exact h
  · exact booksSound_addCreditEffect h

theorem keepsBooks_addTime (amount : BitVec 16) (l : Lane) : KeepsBooks (addTimeBody amount l) := by
  intro s h
  unfold addTimeBody
  split
  · exact h
  split
  · exact h
  split
  · exact h
  · exact booksSound_addTimeEffect h

theorem keepsBooks_readSession (l : Lane) : KeepsBooks (readSessionBody l) := by
  intro s h
  unfold readSessionBody
  split <;> exact h

theorem keepsBooks_start (games : Byte) (l : Lane) : KeepsBooks (startBody games l) := by
  intro s h
  unfold startBody
  split
  · exact h
  split
  · unfold startSingle
    split
    · exact h
    split
    · exact h
    · exact booksSound_decide52 (by simpa using h)
  · unfold startCross
    split
    · exact h
    split
    · exact h
    · exact booksSound_decide52 (booksSound_decide52 (by simpa using h))

theorem keepsBooks_bowlerReady (l : Lane) : KeepsBooks (bowlerReadyBody l) := by
  intro s h
  unfold bowlerReadyBody
  dsimp only
  (repeat' split) <;> simpa using h

theorem keepsBooks_foulDetect (enable : Coded OnOff) (l : Lane) : KeepsBooks (foulDetectBody enable l) := by
  intro s h
  unfold foulDetectBody
  split <;> simpa using h

theorem keepsBooks_resetDeck (l : Lane) : KeepsBooks (resetDeckBody l) := by
  intro s h
  unfold resetDeckBody
  split <;> simpa using h

theorem keepsBooks_addBowler (name : List Byte) (handicap : Option Byte) (blind : Option (BitVec 16)) (q : SquadId) :
    KeepsBooks (addBowlerBody name handicap blind q) := by
  intro s h
  unfold addBowlerBody
  (repeat' split) <;> simpa using h

theorem keepsBooks_removeBowler (n : Nat) (q : SquadId) : KeepsBooks (removeBowlerBody n q) := by
  intro s h
  unfold removeBowlerBody
  dsimp only
  split
  · exact h
  · rw [done_state]
    split
    · exact booksSound_replaceCurrent (by simpa using h)
    · simpa using h

theorem keepsBooks_moveBowler (i j : Nat) (q : SquadId) : KeepsBooks (moveBowlerBody i j q) := by
  intro s h
  unfold moveBowlerBody mapReopens
  (repeat' split) <;> simpa using h

theorem keepsBooks_markAbsent (n : Nat) (blind : BitVec 16) (q : SquadId) : KeepsBooks (markAbsentBody n blind q) := by
  intro s h
  unfold markAbsentBody
  dsimp only
  split
  · exact h
  split
  · exact h
  split
  · exact h
  · rw [done_state]
    split
    · exact booksSound_replaceCurrent (by simpa using h)
    · simpa using h

theorem keepsBooks_markPresent (n : Nat) (q : SquadId) : KeepsBooks (markPresentBody n q) := by
  intro s h
  unfold markPresentBody
  split <;> simpa using h

theorem keepsBooks_setHandicap (n : Nat) (handicap : Option Byte) (q : SquadId) :
    KeepsBooks (setHandicapBody n handicap q) := by
  intro s h
  unfold setHandicapBody
  split <;> simpa using h

theorem keepsBooks_readSheet (part : Nat) (l : Lane) : KeepsBooks (readSheetBody part l) := by
  intro s h
  unfold readSheetBody
  split <;> exact h

/-- A correction reaches the books through the decision that may follow it (R88). -/
theorem keepsBooks_correct (p : Port) (squad : Coded SquadId) (c : CorrectFields) : KeepsBooks (correctBody p squad c) := by
  have happly : ∀ q n k j b entry x foul, KeepsBooks (applyCorrection p q n k j b entry x foul) := by
    intro q n k j b entry x foul s h
    unfold applyCorrection
    dsimp only
    split
    · exact h
    split
    · exact h
    split
    · exact h
    split
    · exact h
    · exact booksSound_takeCorrection h
  intro s h
  unfold correctBody
  split
  · exact h
  split
  · unfold correctChecked
    dsimp only
    split
    · exact h
    split
    · exact h
    split
    · exact h
    split
    · exact h
    split
    · exact h
    · exact happly _ _ _ _ _ _ _ _ s h
  · exact h

theorem keepsBooks_enterBall (leave : BitVec 16) (foul : Bool) (l : Lane) : KeepsBooks (enterBallBody leave foul l) := by
  intro s h
  unfold enterBallBody
  split
  · exact h
  split
  · exact booksSound_enterBallEffect h
  · exact h

theorem keepsBooks_split : KeepsBooks splitBody := by
  intro s h
  unfold splitBody
  (repeat' split) <;> simpa using h

theorem keepsBooks_pairMode (mode : Coded PairMode) : KeepsBooks (pairModeBody mode) := by
  intro s h
  unfold pairModeBody
  split
  · exact h
  · exact keepsBooks_split s h
  · unfold crossBody
    (repeat' split) <;> simpa using h

theorem keepsBooks_splitForce : KeepsBooks splitForceBody := by
  intro s h
  unfold splitForceBody
  split
  · exact h
  · exact booksSound_decide52 (booksSound_decide52 (by simpa using h))

theorem keepsBooks_rateSet (entry : Byte) (value : RateFields) : KeepsBooks (rateSetBody entry value) := by
  intro s h
  unfold rateSetBody
  split
  · exact h
  split
  · exact h
  next v hv => simpa using booksSound_writeWorking h (rateSound_of_rateEntryOf hv)

theorem keepsBooks_rateClear (entry : Byte) : KeepsBooks (rateClearBody entry) := by
  intro s h
  unfold rateClearBody
  split
  · exact h
  · simpa using booksSound_writeWorking h rateSound_absent

theorem keepsBooks_rateStore (entry : Byte) (value : RateFields) (key : Bool) :
    KeepsBooks (rateStoreBody entry value key) := by
  intro s h
  have hk : BooksSound { s with key := key } := by simpa using h
  unfold rateStoreBody
  dsimp only
  split
  · exact hk
  next hn =>
    split
    · exact hk
    split
    · exact hk
    split
    · exact hk
    next v hv =>
      exact ⟨hk.accounts, ratesSound_startProgramming hk.rates (by omega) (rateSound_of_rateEntryOf hv)⟩

theorem keepsBooks_readStored : KeepsBooks readStoredBody := by
  intro s h
  unfold readStoredBody
  split <;> exact h

theorem keepsBooks_clockSet (weekday hour minute second : Byte) :
    KeepsBooks (clockSetBody weekday hour minute second) := by
  intro s h
  unfold clockSetBody setClock
  dsimp only
  (repeat' split) <;> simpa using h

theorem keepsBooks_clearFault (l : Lane) : KeepsBooks (clearFaultBody l) := by
  intro s h
  unfold clearFaultBody
  split
  · exact h
  split
  · exact h
  · exact booksSound_enterRecover h

theorem keepsBooks_setTiming (lanes : Coded LaneChoice) (f : TimingFields) : KeepsBooks (setTimingBody lanes f) := by
  intro s h
  rcases lanes with (_ | _ | _) | _ <;> simpa [setTimingBody, lanesOf, setTimingOf] using h

theorem keepsBooks_setOff (l : Lane) : KeepsBooks (setOffBody l) := by
  have hmove : ∀ s, BooksSound s → BooksSound (offMove l s) := by
    intro s h
    unfold offMove
    split
    · simpa using h
    · split
      · simpa using h
      · exact booksSound_enterRecover h
    · exact booksSound_recoverActs h
    · exact h
  intro s h
  unfold setOffBody
  dsimp only [Answer.state]
  split
  · exact h
  · exact hmove _ (by simpa using h)

theorem keepsBooks_setOn (l : Lane) : KeepsBooks (setOnBody l) := by
  intro s h
  unfold setOnBody
  dsimp only [Answer.state]
  split
  · unfold machineOn onMove
    dsimp only
    split
    · simpa using h
    · split
      · exact booksSound_enterRecover (by simpa using h)
      · exact booksSound_enterRecover (by simpa using h)
      · simpa using h
  · exact h

theorem keepsBooks_testCycle (l : Lane) : KeepsBooks (testCycleBody l) := by
  intro s h
  unfold testCycleBody
  (repeat' split) <;> simpa using h

theorem keepsBooks_clearCounters (l : Lane) : KeepsBooks (clearCountersBody l) := by
  intro s h
  simpa [clearCountersBody] using h

theorem keepsBooks_setInterval (interval : BitVec 32) (l : Lane) : KeepsBooks (setIntervalBody interval l) := by
  intro s h
  simpa [setIntervalBody] using h

theorem keepsBooks_maintDone (l : Lane) : KeepsBooks (maintDoneBody l) := by
  intro s h
  simpa [maintDoneBody] using h

theorem keepsBooks_clearReturn : KeepsBooks clearReturnBody := by
  intro s h
  unfold clearReturnBody
  split
  · exact h
  · exact booksSound_emptyReturn h

theorem keepsBooks_setReturn (power : Option (Coded OnOff)) (limit : Option Byte) :
    KeepsBooks (setReturnBody power limit) := by
  have hlimit : ∀ s, BooksSound s → BooksSound (applyLimit limit s) := by
    intro s h
    unfold applyLimit
    split
    · exact booksSound_takeTransit (by simpa using h)
    · exact h
  have hpower : ∀ p s, BooksSound s → BooksSound (applyPower p s) := by
    intro p s h
    unfold applyPower
    split
    · split
      · exact h
      · exact booksSound_emptyReturn h
    · split <;> simpa using h
    · exact h
  have hchecked : ∀ p, KeepsBooks (setReturnChecked p limit) := by
    intro p s h
    unfold setReturnChecked
    split
    · exact h
    · exact hpower p _ (hlimit s h)
  rcases power with _ | v | _
  · exact hchecked none
  · exact hchecked (some v)
  · exact fun _ h => h

theorem keepsBooks_readReturn (clearStray clearJam : Bool) : KeepsBooks (readReturnBody clearStray clearJam) := by
  intro s h
  simpa [readReturnBody] using h

theorem keepsBooks_readSupply (clear : Bool) : KeepsBooks (readSupplyBody clear) := by
  intro s h
  cases clear <;> simpa [readSupplyBody, clearFailures] using h

theorem keepsBooks_resetPair : KeepsBooks resetPairBody := by
  intro s h
  unfold resetPairBody
  split
  · exact h
  · exact booksSound_loadRates (booksSound_coldPair (by simpa using h))

theorem keepsBooks_ackNotices (p : Port) (fields : List NoticeFields) : KeepsBooks (ackNoticesBody p fields) := by
  intro s h
  unfold ackNoticesBody
  dsimp only
  (repeat' split) <;> simpa using h

theorem keepsBooks_setMask (p : Port) (mask : BitVec 32) (mode : Coded AttentionMode) :
    KeepsBooks (setMaskBody p mask mode) := by
  intro s h
  unfold setMaskBody
  (repeat' split) <;> simpa using h

end Sys2Proof.Machine

namespace Sys2Proof.Machine

/-! ### Every command, and every step, keeps the books sound -/

section
variable {s t : State}

/-- A request frame keeps the books as its own part does. -/
theorem keepsBooks_heardRequest {e : Envelope} {code : Byte} {allowed broadcastOk fits : Bool} {body : State → Answer}
    (h : KeepsBooks body) (hs : BooksSound s) : BooksSound (heardRequest e code allowed broadcastOk fits body s) := by
  have hdeliver : ∀ p a, BooksSound (Answer.state a) → BooksSound (deliver p a) := by
    intro p a ha
    cases a with
    | now st bytes t => simpa [deliver] using ha
    | later t => exact ha
  have hanswer : KeepsBooks (answerOf allowed fits body) := by
    intro u hu
    unfold answerOf
    split
    · exact hu
    split
    · exact hu
    · exact h u hu
  unfold heardRequest
  split
  · split
    · exact h s hs
    · exact hs
  split
  · exact hs
  split
  · exact hdeliver _ _ (hanswer _ (by simpa [beginRequest] using hs))
  · simpa using hs

theorem booksSound_coreEvent {f : State → State} (h : ∀ u, BooksSound u → BooksSound (f u)) (hs : BooksSound s)
    (ht : coreEvent f s = .next t) : BooksSound t := by
  unfold coreEvent at ht
  cases ht
  split
  · simpa using h s hs
  · exact hs

theorem booksSound_request {e : Envelope} {code : Byte} {allowed broadcastOk : Bool} {len : Nat} {body : State → Answer}
    (h : KeepsBooks body) (hs : BooksSound s) (ht : request e code allowed broadcastOk len body s = .next t) :
    BooksSound t := booksSound_coreEvent (fun _ => keepsBooks_heardRequest h) hs ht

theorem booksSound_resetPair {e : Envelope} (hs : BooksSound s) (ht : execResetPair e s = .next t) : BooksSound t := by
  unfold execResetPair at ht
  cases hr : request e 42 (serviceOnly e) false 0 resetPairBody s with
  | next u =>
    rw [hr] at ht
    cases ht
    have hu := booksSound_request keepsBooks_resetPair hs hr
    split
    · simpa [zeroSerials] using hu
    · exact hu
  | fault r => rw [hr] at ht; cases ht
  | refused r => rw [hr] at ht; cases ht

theorem booksSound_exec {c : Instr} (hs : BooksSound s) (ht : exec c s = .next t) : BooksSound t := by
  have onLane : ∀ {e code allowed broadcastOk len c f}, (∀ l, KeepsBooks (f l)) →
      request e code allowed broadcastOk len (withLane c f) s = .next t → BooksSound t := fun h =>
    booksSound_request (keepsBooks_withLane h _) hs
  have onRoster : ∀ {e code allowed broadcastOk len c slots f}, (∀ q, KeepsBooks (f q)) →
      request e code allowed broadcastOk len (withRoster c slots f) s = .next t → BooksSound t := fun h =>
    booksSound_request (keepsBooks_withRoster h _ _) hs
  have always : ∀ {u : State}, BooksSound u →
      Host.Outcome.next u = (.next t : Host.Outcome State Fault Refusal) → BooksSound t := fun h hx => by
    cases hx; exact h
  cases c with
  | openLane e lane mode credit warn => exact onLane (keepsBooks_open mode credit warn) ht
  | closeLane e lane => exact onLane keepsBooks_close ht
  | pauseLane e lane => exact onLane keepsBooks_pause ht
  | resumeLane e lane => exact onLane (keepsBooks_resume _) ht
  | addCredit e lane amount => exact onLane (keepsBooks_addCredit amount) ht
  | addTime e lane amount => exact onLane (keepsBooks_addTime amount) ht
  | readAccount e lane => exact onLane (fun _ => keepsBooks_read _ _) ht
  | readSession e lane => exact onLane keepsBooks_readSession ht
  | startGame e lane games => exact onLane (keepsBooks_start games) ht
  | bowlerReady e lane => exact onLane keepsBooks_bowlerReady ht
  | foulDetect e lane enable => exact onLane (keepsBooks_foulDetect enable) ht
  | resetDeck e lane => exact onLane keepsBooks_resetDeck ht
  | addBowler e squad name handicap blind => exact onRoster (keepsBooks_addBowler name handicap blind) ht
  | removeBowler e squad slot => exact onRoster (keepsBooks_removeBowler _) ht
  | moveBowler e squad slot newSlot => exact onRoster (keepsBooks_moveBowler _ _) ht
  | markAbsent e squad slot blind => exact onRoster (keepsBooks_markAbsent _ blind) ht
  | markPresent e squad slot => exact onRoster (keepsBooks_markPresent _) ht
  | setHandicap e squad slot handicap => exact onRoster (keepsBooks_setHandicap _ handicap) ht
  | readSheet e lane part => exact onLane (keepsBooks_readSheet _) ht
  | correctBall e squad c => exact booksSound_request (keepsBooks_correct e.port squad c) hs ht
  | enterBall e lane leave foul => exact onLane (keepsBooks_enterBall leave foul) ht
  | setPairMode e mode => exact booksSound_request (keepsBooks_pairMode mode) hs ht
  | splitPair e => exact booksSound_request keepsBooks_split hs ht
  | splitPairForce e => exact booksSound_request keepsBooks_splitForce hs ht
  | rateSet e entry value => exact booksSound_request (keepsBooks_rateSet entry value) hs ht
  | rateClear e entry => exact booksSound_request (keepsBooks_rateClear entry) hs ht
  | rateStore e entry value key => exact booksSound_request (keepsBooks_rateStore entry value key) hs ht
  | rateReadWorking e => exact booksSound_request (keepsBooks_withSelector (keepsBooks_read _ _) e.stray) hs ht
  | rateReadStored e => exact booksSound_request keepsBooks_readStored hs ht
  | clockSet e weekday hour minute second =>
    exact booksSound_request (keepsBooks_clockSet weekday hour minute second) hs ht
  | clockRead e => exact booksSound_request (keepsBooks_read _ _) hs ht
  | clearFault e lane => exact onLane keepsBooks_clearFault ht
  | readMachine e lane => exact onLane (fun _ => keepsBooks_read _ _) ht
  | setTiming e lanes settings => exact booksSound_request (keepsBooks_setTiming lanes settings) hs ht
  | setMachineOff e lane => exact onLane keepsBooks_setOff ht
  | setMachineOn e lane =>
    exact booksSound_request (keepsBooks_withSelector (keepsBooks_withLane keepsBooks_setOn lane.field) lane.stray) hs ht
  | testCycle e lane => exact onLane keepsBooks_testCycle ht
  | clearCounters e lane => exact onLane keepsBooks_clearCounters ht
  | setMaintInterval e lane interval => exact onLane (keepsBooks_setInterval interval) ht
  | maintDone e lane => exact onLane keepsBooks_maintDone ht
  | clearReturn e => exact booksSound_request keepsBooks_clearReturn hs ht
  | setReturn e power limit => exact booksSound_request (keepsBooks_setReturn power limit) hs ht
  | readReturn e clearStray clearJam => exact booksSound_request (keepsBooks_readReturn clearStray clearJam) hs ht
  | readSupply e clear => exact booksSound_request (keepsBooks_readSupply clear) hs ht
  | resetPair e => exact booksSound_resetPair hs ht
  | readNotices e => exact booksSound_request (keepsBooks_read _ _) hs ht
  | ackNotices e notices => exact booksSound_request (keepsBooks_ackNotices e.port notices) hs ht
  | setNoticeMask e mask mode => exact booksSound_request (keepsBooks_setMask e.port mask mode) hs ht
  | frameDiscard port bytes => exact always hs ht
  | interByteTimeout port bytes => exact always hs ht
  | consoleBytesUnderHold => exact booksSound_coreEvent (fun _ => booksSound_bytesUnderHold) hs ht
  | selectRise => exact booksSound_coreEvent (fun _ => booksSound_takeSelectRise) hs ht
  | replyTurnaround port => exact booksSound_coreEvent (fun _ => booksSound_takeTurnaround) hs ht
  | replySent port => exact booksSound_coreEvent (fun _ => booksSound_takeReplySent) hs ht
  | warm lane => exact booksSound_coreEvent (fun _ => booksSound_takeWarm) hs ht
  | deck lane leave => exact booksSound_coreEvent (fun _ => booksSound_takeDeck) hs ht
  | respotPoint lane => exact booksSound_coreEvent (fun _ => booksSound_takeRespot) hs ht
  | cycleDone lane => exact booksSound_coreEvent (fun _ => booksSound_takeCycleDone) hs ht
  | machineFault lane code => exact booksSound_coreEvent (fun _ => booksSound_takeMachineFault) hs ht
  | ballDetection lane => exact booksSound_coreEvent (fun _ => booksSound_takeDetection) hs ht
  | foulEvent lane => exact booksSound_coreEvent (fun _ => booksSound_takeFoul) hs ht
  | pitExit lane => exact booksSound_coreEvent (fun _ => booksSound_takePitExit) hs ht
  | arrival => exact booksSound_coreEvent (fun _ => booksSound_takeArrival) hs ht
  | keyRelease => exact booksSound_coreEvent (fun _ => booksSound_takeKeyRelease) hs ht
  | programmingComplete => exact booksSound_coreEvent (fun _ => booksSound_takeCompletion) hs ht
  | settleExpiry lane => exact booksSound_coreEvent (fun _ => booksSound_takeSettle) hs ht
  | deckLimitExpiry lane => exact booksSound_coreEvent (fun _ => booksSound_takeDeckLimit) hs ht
  | cycleWatchdogExpiry lane => exact booksSound_coreEvent (fun _ => booksSound_takeWatchdog) hs ht
  | warmUpExpiry lane => exact booksSound_coreEvent (fun _ => booksSound_takeWarmUp) hs ht
  | idleStandbyExpiry lane => exact booksSound_coreEvent (fun _ => booksSound_takeIdle) hs ht
  | runOnExpiry => exact booksSound_coreEvent (fun _ => booksSound_takeRunOn) hs ht
  | transitExpiry => exact booksSound_coreEvent (fun _ => booksSound_takeTransit) hs ht
  | reversePhaseEnd => exact booksSound_coreEvent (fun _ => booksSound_takeReverseEnd) hs ht
  | forwardPhaseEnd => exact booksSound_coreEvent (fun _ => booksSound_takeForwardEnd) hs ht
  | runningSecond lane => exact booksSound_coreEvent (fun _ => booksSound_runSecond) hs ht
  | pulseEnd port => exact booksSound_coreEvent (fun _ => (booksSound_modPort port _ _).mpr) hs ht
  | clockSecond => exact always (booksSound_takeClockSecond hs) ht
  | crystalStop => exact always (booksSound_takeCrystalStop hs) ht
  | crystalRestart => exact always ((booksSound_clock _ s).mpr hs) ht
  | mainFailure => exact always (booksSound_takeMainFailure hs) ht
  | mainReturn => exact always (booksSound_takeMainReturn hs) ht
  | retentionLoss => exact always (booksSound_takeRetentionLoss hs) ht
  | batteryLowSet => exact always (booksSound_takeBatteryLow hs) ht
  | batteryLowClear => exact always ((booksSound_supply _ s).mpr hs) ht
  | externalResetAssert => exact always (booksSound_takeResetAssert hs) ht
  | externalResetRelease => exact always (booksSound_takeResetRelease hs) ht
  | unknownRequestCode e code => exact booksSound_request (keepsBooks_read _ _) hs ht

theorem booksSound_step (hs : BooksSound s) (ht : step s = .next t) : BooksSound t := by
  unfold step at ht
  split at ht
  next c rest _ => exact booksSound_exec (s := { s with pending := rest }) (hs.of_same rfl fun _ => rfl) ht
  next =>
    cases ht
    exact booksSound_idleTick hs

end

/-- Settles O13: accounts and rates are kept sound together, since a credit is charged at the rate in effect. -/
theorem stepKeepsAccountsBalanced : Obligations.StepKeepsAccountsBalanced := by
  unfold Obligations.StepKeepsAccountsBalanced
  intro s t ha hr ht
  obtain ⟨ha', hr'⟩ := booksSound_step ⟨ha, hr⟩ ht
  exact ⟨ha', hr'⟩

end Sys2Proof.Machine

namespace Sys2Proof.Machine

/-! ### The windows of the rate entries (R140) -/

/-- A weekday set holds a day when it is absent or has the day's bit (R140). -/
theorem dayInSet_iff (x : RateEntry) (d : Nat) :
    dayInSet x d = true ↔ ∀ w ∈ x.weekdays, w.getLsbD (d - 1) = true := by
  unfold dayInSet
  cases x.weekdays <;> simp

/-- An entry matches by the shape of its window: within one day, the whole day, or over midnight (R140). -/
theorem rateMatches_iff (x : RateEntry) (d m : Nat) :
    rateMatches x d m = true ↔ x.present = true ∧
      ((x.start < x.stop ∧ dayInSet x d = true ∧ x.start ≤ m ∧ m < x.stop) ∨ (x.start = x.stop ∧ dayInSet x d = true) ∨
        (x.stop < x.start ∧ ((dayInSet x d = true ∧ x.start ≤ m) ∨ (dayInSet x (dayBefore d) = true ∧ m < x.stop)))) := by
  unfold rateMatches
  rcases Nat.lt_trichotomy x.start x.stop with h | h | h
  · simp [h, h.ne, h.not_gt, and_assoc]
  · simp [h]
  · simp [h, h.ne', h.not_gt]

/-! ### The entry in effect (R141, R142) -/

section
variable {d m : Nat} {l : List RateEntry}

theorem firstMatch_eq_zero (n : Nat) (h : ∀ x ∈ l, rateMatches x d m ≠ true) : firstMatch d m n l = 0 := by
  induction l generalizing n with
  | nil => rfl
  | cons x rest ih =>
    exact (if_neg (h x List.mem_cons_self)).trans (ih (n + 1) fun y hy => h y (List.mem_cons_of_mem x hy))

/-- The search gives the place of the first entry that matches. -/
theorem firstMatch_eq_add {i : Nat} (n : Nat) (hi : ∃ x ∈ l[i]?, rateMatches x d m = true)
    (hlow : ∀ k < i, ∀ x ∈ l[k]?, rateMatches x d m ≠ true) : firstMatch d m n l = n + i := by
  induction l generalizing n i with
  | nil => simp at hi
  | cons x rest ih =>
    cases i with
    | zero => exact if_pos (by simpa using hi)
    | succ i =>
      have hx : rateMatches x d m ≠ true := hlow 0 i.succ_pos x (by simp)
      have hrest : firstMatch d m (n + 1) rest = n + 1 + i :=
        ih (n + 1) (by simpa using hi) fun k hk y hy => hlow (k + 1) (Nat.succ_lt_succ hk) y (by simpa using hy)
      exact (if_neg hx).trans (by omega)

end

section
variable {working : List RateEntry} {c : Clock}

theorem chosenEntry_of_invalid (hc : c.valid = false) : chosenEntry working c = 0 := by simp [chosenEntry, hc]

theorem chosenEntry_of_valid (hc : c.valid = true) :
    chosenEntry working c = firstMatch c.weekday (60 * c.hour + c.minute) 1 (working.drop 1) := if_pos hc

/-- Entry 0 is in effect when no entry from 1 on matches (R141). -/
theorem chosenEntry_eq_zero (hc : c.valid = true)
    (h : ∀ n, 1 ≤ n → ∀ x ∈ working[n]?, rateMatches x c.weekday (60 * c.hour + c.minute) ≠ true) :
    chosenEntry working c = 0 := by
  refine (chosenEntry_of_valid hc).trans (firstMatch_eq_zero 1 fun x hx => ?_)
  obtain ⟨i, hi⟩ := List.mem_iff_getElem?.mp hx
  exact h (1 + i) (Nat.le_add_right 1 i) x (List.getElem?_drop ▸ hi)

/-- The lowest-numbered entry from 1 on that matches is in effect (R141). -/
theorem chosenEntry_eq {n : Nat} (hc : c.valid = true) (hn : 1 ≤ n)
    (hm : ∃ x ∈ working[n]?, rateMatches x c.weekday (60 * c.hour + c.minute) = true)
    (hlow : ∀ k, 1 ≤ k → k < n → ∀ x ∈ working[k]?, rateMatches x c.weekday (60 * c.hour + c.minute) ≠ true) :
    chosenEntry working c = n := by
  obtain ⟨i, rfl⟩ := Nat.exists_eq_add_of_le hn
  refine (chosenEntry_of_valid hc).trans (firstMatch_eq_add 1 (by rwa [List.getElem?_drop]) fun k hk x hx => ?_)
  rw [List.getElem?_drop] at hx
  exact hlow (1 + k) (Nat.le_add_right 1 k) (Nat.add_lt_add_left hk 1) x hx

end

end Sys2Proof.Machine

namespace Sys2Proof
open Machine

/-- Settles O45: the window's three shapes, then the search for the lowest-numbered match. -/
theorem entryInEffect : Obligations.EntryInEffect := by
  unfold Obligations.EntryInEffect
  refine ⟨fun x d m _ _ => ?shape, fun working c _ => ⟨chosenEntry_of_invalid, fun hc hno => ?none,
    fun n hc ⟨hn, hm⟩ hlow => ?first⟩, fun s => ⟨rfl, rfl⟩⟩
  case shape =>
    dsimp only
    rw [rateMatches_iff, dayInSet_iff, dayInSet_iff]
    rfl
  case none => exact chosenEntry_eq_zero hc fun n hn x hx hm => hno n ⟨hn, x, hx, hm⟩
  case first => exact chosenEntry_eq hc hn hm fun k hk hkn x hx hm => hlow k hkn ⟨hk, x, hx, hm⟩

end Sys2Proof

namespace Sys2Proof.Machine

/-! ### The fields of a rate entry in a request (R139, R143, R147) -/

/-- The ranges of a request's rate fields (R139, R143); with the present flag clear nothing is checked. -/
def FieldsInRange (f : RateFields) : Prop :=
  f.present = false ∨ ((∀ w ∈ f.weekdays, w ≠ 0#8 ∧ w.toNat < 128) ∧ f.start.toNat ≤ 1439 ∧ f.stop.toNat ≤ 1439 ∧
    f.perGame.toNat ≤ 9999 ∧ f.perHour.toNat ≤ 99999)

/-- The present entry of a request's rate fields (R139). -/
def presentEntry (f : RateFields) : RateEntry :=
  { present := true, weekdays := f.weekdays.map fun w => w.setWidth 7, start := f.start.toNat, stop := f.stop.toNat,
    perGame := f.perGame.toNat, perHour := f.perHour.toNat }

/-- The entry that a request's rate fields carry (R139). -/
def carriedEntry (f : RateFields) : RateEntry := if f.present = true then presentEntry f else .absent

section
variable {f : RateFields}

theorem weekdaysOf_of_inRange {w : Option Byte} (h : ∀ x ∈ w, x ≠ 0#8 ∧ x.toNat < 128) :
    weekdaysOf w = some (w.map fun x => x.setWidth 7) := by
  cases w with
  | none => rfl
  | some x =>
    obtain ⟨h0, h7⟩ := h x rfl
    have hmsb : x.msb = false := by simpa [BitVec.msb_eq_decide] using h7
    simp [weekdaysOf, h0, hmsb, BitVec.setWidth_eq_extractLsb']

theorem weekdaysOf_of_outOfRange {w : Option Byte} (h : ¬∀ x ∈ w, x ≠ 0#8 ∧ x.toNat < 128) : weekdaysOf w = none := by
  cases w with
  | none => simp at h
  | some x =>
    refine if_pos ?_
    simp only [Option.mem_def, Option.some.injEq, forall_eq', not_and_or, not_not, not_lt] at h
    simpa [BitVec.msb_eq_decide] using h

theorem rateEntryOf_of_inRange (h : FieldsInRange f) : rateEntryOf f = some (carriedEntry f) := by
  unfold rateEntryOf carriedEntry
  rcases h with hp | ⟨hd, hr⟩
  · simp [hp]
  · rw [weekdaysOf_of_inRange hd]
    simp only [if_pos hr]
    split <;> rfl

theorem rateEntryOf_of_outOfRange (h : ¬FieldsInRange f) : rateEntryOf f = none := by
  obtain ⟨hp, hr⟩ := not_or.mp h
  unfold rateEntryOf
  rw [if_pos (by simpa using hp)]
  by_cases hd : ∀ w ∈ f.weekdays, w ≠ 0#8 ∧ w.toNat < 128
  · rw [weekdaysOf_of_inRange hd]
    exact if_neg fun hn => hr ⟨hd, hn⟩
  · rw [weekdaysOf_of_outOfRange hd]

end

/-! ### The working entries (R139, R143, R144) -/

/-- An absent entry is written as the factory default in place 0 (R139). -/
theorem entryOrFactory_absent (n : Nat) : entryOrFactory n .absent = if n = 0 then .factory else .absent := by
  simp [entryOrFactory, RateEntry.absent]

/-- What a request's rate fields write into a working entry (R143). -/
theorem entryOrFactory_carriedEntry (n : Nat) (f : RateFields) :
    entryOrFactory n (carriedEntry f) =
      if f.present = true then presentEntry f else if n = 0 then .factory else .absent := by
  unfold carriedEntry
  split
  · simp [entryOrFactory, presentEntry]
  · exact entryOrFactory_absent n

theorem workingEntry_writeWorking {n : Nat} {s : State} (v : RateEntry) (hn : n < s.rates.working.length) :
    workingEntry (writeWorking n v s) n = entryOrFactory n v := by
  simp [workingEntry, writeWorking, modRates, hn]

/-! ### Requests that change the Rate Card and the clock alone -/

/-- A new choice of the entry in effect leaves the request in execution on each port. -/
theorem reevaluate_request (p : Port) (s : State) : ((reevaluate s).port p).request = (s.port p).request := by simp

/-- A broadcast whose request allows one (R175). -/
theorem broadcast_does {c : Instr} {e : Envelope} {code : Byte} {allowed : Bool} {len : Nat} {body : State → Answer}
    {s t : State} (hx : exec c s = request e code allowed true len body s) (hon : coreOn s = true) (hp : e.port = .desk)
    (ha : e.address = 0) (hl : e.bodyLen = len) (ht : (body s).state = t) : Safety.Does c s t := by
  have hb : isBroadcast e = true := by simp [isBroadcast, hp, ha]
  refine hx.trans ((request_broadcast hon hb).trans ?_)
  simp [hl, ht]

section
variable {n : Byte} {f : RateFields} {s : State}

/-- RATE_SET's two checks (R143). -/
theorem rateSetBody_refused (h : 15 < n.toNat ∨ ¬FieldsInRange f) : rateSetBody n f s = refuse .range s := by
  unfold rateSetBody
  split
  · rfl
  next hn => rw [rateEntryOf_of_outOfRange (h.resolve_left hn)]

theorem rateSetBody_taken (hn : n.toNat ≤ 15) (hf : FieldsInRange f) :
    rateSetBody n f s =
      .now .ok (rateBytes (workingEntry (writeWorking n.toNat (carriedEntry f) s) n.toNat))
        (reevaluate (writeWorking n.toNat (carriedEntry f) s)) := by
  unfold rateSetBody
  rw [if_neg hn.not_gt, rateEntryOf_of_inRange hf]

theorem rateClearBody_refused (h : 15 < n.toNat) : rateClearBody n s = refuse .range s := if_pos h

theorem rateClearBody_taken (hn : n.toNat ≤ 15) :
    rateClearBody n s = done (reevaluate (writeWorking n.toNat .absent s)) := if_neg hn.not_gt

end

/-- Settles O46: the fields' ranges decide both forms of RATE_SET, the number alone both forms of RATE_CLEAR. -/
theorem rateWrites : Obligations.RateWrites := by
  unfold Obligations.RateWrites
  intro e n f s k daysOk ok factory absent value written
  have hset (t : State) : reevaluate (writeWorking k (carriedEntry f) t) = written value t := by
    rw [writeWorking, entryOrFactory_carriedEntry]
    rfl
  have hclear (t : State) : reevaluate (writeWorking k .absent t) = written absent t := by
    rw [writeWorking, entryOrFactory_absent]
    rfl
  have hport (x : RateEntry) (code : Byte) :
      ((written x (Safety.heard e code s)).port e.port).request = some { code := code, tag := e.tag } :=
    (reevaluate_request _ _).trans (heard_port_request e code s)
  refine ⟨fun h => ⟨fun hr => ?setRefused, fun hk hf hl => ?setTaken⟩,
    fun h => ⟨fun hk => ?clearRefused, fun hk => ?clearTaken⟩,
    fun hon hp ha => ⟨fun hl => ?setAll, fun hl => ?clearAll⟩⟩
  case setRefused => exact refuses_of rfl h (deskOnly_of_taken h) (rateSetBody_refused hr)
  case setTaken =>
    have hbytes : workingEntry (writeWorking k (carriedEntry f) (Safety.heard e 24#8 s)) k = value := by
      rw [workingEntry_writeWorking _ (by simp; omega), entryOrFactory_carriedEntry]
      rfl
    refine completes_of rfl h (deskOnly_of_taken h) ((rateSetBody_taken hk hf).trans ?_) (hport value _)
    rw [← hset, ← hbytes]
  case clearRefused => exact refuses_of rfl h (deskOnly_of_taken h) (rateClearBody_refused hk)
  case clearTaken =>
    exact completes_of rfl h (deskOnly_of_taken h) ((rateClearBody_taken hk).trans (congrArg done (hclear _)))
      (hport absent _)
  case setAll =>
    refine broadcast_does rfl hon hp ha hl ?_
    split
    next hd =>
      obtain ⟨hk, hf⟩ := hd
      rw [rateSetBody_taken hk hf]
      exact hset s
    next hd =>
      rw [rateSetBody_refused ((not_and_or.mp hd).imp_left Nat.not_le.mp)]
      rfl
  case clearAll =>
    refine broadcast_does rfl hon hp ha hl ?_
    split
    next hk =>
      rw [rateClearBody_taken hk]
      exact hclear s
    next hk =>
      rw [rateClearBody_refused (Nat.not_le.mp hk)]
      rfl

end Sys2Proof.Machine

namespace Sys2Proof.Machine

/-! ### RATE_STORE and its programming (R147 to R149) -/

/-- The level of the key input that RATE_STORE carries stands apart from the port that hears it. -/
theorem heard_key (e : Envelope) (code : Byte) (key : Bool) (s : State) :
    { Safety.heard e code s with key := key } = Safety.heard e code { s with key := key } := by
  rcases e with ⟨p, a, t, m⟩
  cases p <;> rfl

/-- A request taken whose reply comes later (R147). -/
theorem later_does {c : Instr} {e : Envelope} {p : Port} {code : Byte} {allowed broadcastOk : Bool} {len : Nat}
    {body : State → Answer} {s t : State} (hx : exec c s = request e code allowed broadcastOk len body s)
    (h : Safety.Taken e p len s) (ha : allowed = true) (hb : body (Safety.heard e code s) = .later t) :
    Safety.Does c s t := by
  subst ha
  refine hx.trans ((request_taken h).trans ?_)
  simp [answerOf, hb, deliver]

section
variable {n : Byte} {f : RateFields} {key : Bool} {s : State}

/-- RATE_STORE's four checks, in their order (R147). -/
theorem rateStoreBody_noEntry (hn : 15 < n.toNat) : rateStoreBody n f key s = refuse .range { s with key := key } :=
  if_pos hn

theorem rateStoreBody_noKey (hn : n.toNat ≤ 15) (hk : key = false) :
    rateStoreBody n f key s = refuse .key { s with key := key } :=
  (if_neg hn.not_gt).trans (if_pos (by simp [hk]))

theorem rateStoreBody_worn (hn : n.toNat ≤ 15) (hk : key = true) (hw : 32 ≤ (storedEntry s n.toNat).writes) :
    rateStoreBody n f key s = refuse .worn { s with key := key } :=
  (if_neg hn.not_gt).trans ((if_neg (by simp [hk])).trans (if_pos hw))

/-- Past the first three checks the fields decide (R147). -/
theorem rateStoreBody_badFields (hn : n.toNat ≤ 15) (hk : key = true) (hw : (storedEntry s n.toNat).writes < 32)
    (hf : rateEntryOf f = none) : rateStoreBody n f key s = refuse .range { s with key := key } :=
  (if_neg hn.not_gt).trans ((if_neg (by simp [hk])).trans ((if_neg hw.not_ge).trans (by rw [hf])))

theorem rateStoreBody_taken {v : RateEntry} (hn : n.toNat ≤ 15) (hk : key = true)
    (hw : (storedEntry s n.toNat).writes < 32) (hf : rateEntryOf f = some v) :
    rateStoreBody n f key s = .later (startProgramming n.toNat v { s with key := key }) :=
  (if_neg hn.not_gt).trans ((if_neg (by simp [hk])).trans ((if_neg hw.not_ge).trans (by rw [hf])))

end

/-- A completed programming makes the entry GOOD with the value it carried, and writes the working copy (R148). -/
theorem takeCompletion_eq {p : Programming} {s : State} (hp : s.rates.programming = some p) :
    takeCompletion s = endProgramming p.entry .ok
      (writeWorking p.entry p.value (modStored p.entry (fun x => { x with state := .good, value := p.value }) s)) := by
  simp [takeCompletion, hp]

/-- The key released before the end (R149). -/
theorem takeKeyRelease_eq {p : Programming} {s : State} (hp : s.rates.programming = some p) :
    takeKeyRelease s = endProgramming p.entry .keyLost (writeWorking p.entry .absent { s with key := false }) := by
  simp [takeKeyRelease, hp]

theorem takeCompletion_idle {s : State} (hp : s.rates.programming = none) : takeCompletion s = s := by
  simp [takeCompletion, hp]

theorem takeKeyRelease_idle {s : State} (hp : s.rates.programming = none) : takeKeyRelease s = { s with key := false } := by
  simp [takeKeyRelease, hp]

/-- What a programming writes into the working copy, for a value that keeps nothing when it is absent (R139, R148). -/
theorem entryOrFactory_stored (n : Nat) {v : RateEntry} (hv : v.present = false → v = .absent) :
    entryOrFactory n v = if v.present = true then v else if n = 0 then .factory else .absent := by
  split
  next hp => simp [entryOrFactory, hp]
  next hp => rw [hv (by simpa using hp), entryOrFactory_absent]

theorem storedEntry_modStored {n : Nat} {s : State} (f : StoredEntry → StoredEntry) (hn : n < s.rates.store.length) :
    storedEntry (modStored n f s) n = f (storedEntry s n) := by
  simp [storedEntry, modStored, modRates, hn]

theorem storedEntry_writeWorking (n m : Nat) (v : RateEntry) (s : State) :
    storedEntry (writeWorking n v s) m = storedEntry s m := rfl

/-- The end of a programming reports the stored entry as it then stands (R148, R149). -/
theorem endProgramming_eq {n : Nat} {x : StoredEntry} {s : State} (st : Status) (hx : storedEntry s n = x) :
    endProgramming n st s = reevaluate (answerRequest .desk st
      [BitVec.ofNat 8 n, BitVec.ofNat 8 (storeStateCode x.state), BitVec.ofNat 8 x.writes]
      (modRates (fun r => { r with programming := none }) s)) := by
  subst hx
  rfl

/-- Settles O47: the checks in their order, then the two ends of a programming. -/
theorem rateStoring : Obligations.RateStoring := by
  unfold Obligations.RateStoring
  intro e n f key s k entry h absent chosen answered refuses
  refine ⟨fun h0 => ?request, fun hon => ⟨fun hp => ?idle, fun p hp hl => ?ends⟩⟩
  case request =>
    have ha := deskOnly_of_taken h0
    have hentry : storedEntry (Safety.heard e 26#8 s) k = entry := by simp [storedEntry, entry]
    have hrefuses {st : Status}
        (hb : rateStoreBody n f key (Safety.heard e 26#8 s) = refuse st { Safety.heard e 26#8 s with key := key }) :
        refuses st :=
      completes_of rfl h0 ha (hb.trans (congrArg (refuse st) (heard_key e 26#8 key s))) (heard_port_request e 26#8 _)
    refine ⟨fun hk => hrefuses (rateStoreBody_noEntry hk), fun hk hkey => hrefuses (rateStoreBody_noKey hk hkey),
      fun hk hkey hw => hrefuses (rateStoreBody_worn hk hkey (hentry ▸ hw)),
      fun hk hkey hw hf => hrefuses (rateStoreBody_badFields hk hkey (hentry ▸ hw) hf),
      fun v hv hk hkey hw => later_does rfl h0 ha ((rateStoreBody_taken hk hkey (hentry ▸ hw) hv).trans ?_)⟩
    have hrates : (Safety.heard e 26#8 s).rates = h.rates := by simp [h]
    rw [heard_key, ← hentry, storedEntry, hrates]
    rfl
  case idle => exact ⟨does_of rfl hon (takeCompletion_idle hp), does_of rfl hon (takeKeyRelease_idle hp)⟩
  case ends =>
    intro x y
    refine ⟨fun hv => does_of rfl hon ((takeCompletion_eq hp).trans ?_),
      does_of rfl hon ((takeKeyRelease_eq hp).trans ?_)⟩
    · rw [endProgramming_eq .ok ((storedEntry_writeWorking _ _ _ _).trans (storedEntry_modStored _ hl)),
        writeWorking, entryOrFactory_stored _ hv]
      rfl
    · rw [endProgramming_eq .keyLost rfl, writeWorking, entryOrFactory_absent]
      rfl

end Sys2Proof.Machine

namespace Sys2Proof.Machine

/-! ### The Centre Clock (R164 to R166) -/

/-- The ranges of the clock's fields (R164). -/
theorem clockFieldsOk_iff (w hr m sec : Nat) :
    clockFieldsOk w hr m sec = true ↔ 1 ≤ w ∧ w ≤ 7 ∧ hr ≤ 23 ∧ m ≤ 59 ∧ sec ≤ 59 := by
  simp [clockFieldsOk, and_assoc]

section
variable {w hr m sec : Byte} {s : State}

/-- CLOCK_SET's two checks, in their order, and its effect (R166). -/
theorem clockSetBody_outOfRange (h : ¬clockFieldsOk w.toNat hr.toNat m.toNat sec.toNat = true) :
    clockSetBody w hr m sec s = refuse .range s := if_pos (by simpa using h)

theorem clockSetBody_stopped (h : clockFieldsOk w.toNat hr.toNat m.toNat sec.toNat = true)
    (hx : s.clock.crystal = false) : clockSetBody w hr m sec s = refuse .state s :=
  (if_neg (by simp [h])).trans (if_pos (by simp [hx]))

theorem clockSetBody_taken (h : clockFieldsOk w.toNat hr.toNat m.toNat sec.toNat = true)
    (hx : s.clock.crystal = true) :
    clockSetBody w hr m sec s = .now .ok [w, hr, m, sec, 1#8, 0#8]
      (reevaluate { s with clock := Clock.mk w.toNat hr.toNat m.toNat sec.toNat true true }) := by
  simp [clockSetBody, h, hx, setClock, clockBytes, be1, flagByte]

end

/-- A second of the clock advances it with carry (R164), by the fields that overflow. -/
theorem Clock.advance_eq (c : Clock) :
    c.advance =
      if c.second < 59 then { c with second := c.second + 1 }
      else if c.minute < 59 then { c with second := 0, minute := c.minute + 1 }
      else { c with
        second := 0, minute := 0, hour := if c.hour < 23 then c.hour + 1 else 0
        weekday := if c.hour < 23 then c.weekday else if c.weekday < 7 then c.weekday + 1 else 1 } := by
  unfold Clock.advance
  by_cases hh : c.hour < 23 <;> simp [hh]

/-- A second of the clock: a minute change has a running core choose the entry in effect again (R142, R164). -/
theorem takeClockSecond_eq (s : State) :
    takeClockSecond s =
      if s.clock.crystal = false then s
      else if coreOn s = true ∧ 59 ≤ s.clock.second then reevaluate { s with clock := s.clock.advance }
      else { s with clock := s.clock.advance } := by
  unfold takeClockSecond
  cases s.clock.crystal <;> simp [and_comm]

/-- Settles O48: the request's two checks, addressed and as a broadcast, then the clock's own events. -/
theorem clockCommands : Obligations.ClockCommands := by
  unfold Obligations.ClockCommands
  intro e w hr m sec s ok isSet c on day next
  have hok : ok ↔ clockFieldsOk w.toNat hr.toNat m.toNat sec.toNat = true := (clockFieldsOk_iff _ _ _ _).symm
  have hcrystal : (Safety.heard e 28#8 s).clock.crystal = c.crystal := by simp [c]
  have hisSet (hx : c.crystal = true) (t : State) :
      reevaluate { t with clock := Clock.mk w.toNat hr.toNat m.toNat sec.toNat true true } = isSet t := by
    simp only [isSet, ← hx]
    rfl
  refine ⟨fun h => ⟨fun hn => ?range, fun hf hx => ?stopped, fun hf hx => ?taken⟩,
    fun hon hp ha hl => ?all, ?second, rfl, rfl⟩
  case range => exact refuses_of rfl h (deskOnly_of_taken h) (clockSetBody_outOfRange (mt hok.mpr hn))
  case stopped =>
    exact refuses_of rfl h (deskOnly_of_taken h) (clockSetBody_stopped (hok.mp hf) (hcrystal.trans hx))
  case taken =>
    refine completes_of rfl h (deskOnly_of_taken h) ((clockSetBody_taken (hok.mp hf) (hcrystal.trans hx)).trans ?_) ?_
    · rw [hisSet hx]
    · exact (reevaluate_request _ _).trans (heard_port_request e _ s)
  case all =>
    refine broadcast_does rfl hon hp ha hl ?_
    split
    next hd =>
      obtain ⟨hf, hx⟩ := hd
      rw [clockSetBody_taken (hok.mp hf) hx]
      exact hisSet hx s
    next hd =>
      by_cases hf : ok
      · rw [clockSetBody_stopped (hok.mp hf) (by simpa [hf] using hd)]
        rfl
      · rw [clockSetBody_outOfRange (mt hok.mpr hf)]
        rfl
  case second =>
    have hnext : s.clock.advance = next := Clock.advance_eq s.clock
    refine congrArg Host.Outcome.next ((takeClockSecond_eq s).trans ?_)
    rw [hnext]

end Sys2Proof.Machine

namespace Sys2Proof.Machine

/-! ### The idle standby timer at the end of an event (R155) -/

/-- The supervisor with its idle standby timer brought up to date at a tick (R155). -/
def Supervisor.idleSynced (tick : Nat) (u : Supervisor) : Supervisor :=
  { u with
    idleTimer :=
      if u.power = .running ∧ (u.cycle = .armed ∨ u.cycle = .gated) ∧ u.timing.idle ≠ 0
      then (if u.idleTimer = none then some { startedAt := tick, length := 6000 * u.timing.idle } else u.idleTimer)
      else none }

section
variable {u : Supervisor} (tick : Nat)

theorem Supervisor.idleSynced_of_stopped (h : ¬idleRuns u = true) : u.idleSynced tick = { u with idleTimer := none } := by
  rw [idleSynced, if_neg (mt (idleRuns_iff u).mpr h)]

theorem Supervisor.idleSynced_of_starting (h : idleRuns u = true) (ht : u.idleTimer = none) :
    u.idleSynced tick = { u with idleTimer := some { startedAt := tick, length := 6000 * u.timing.idle } } := by
  rw [idleSynced, if_pos ((idleRuns_iff u).mp h), if_pos ht]

theorem Supervisor.idleSynced_of_timing (h : idleRuns u = true) (ht : u.idleTimer ≠ none) : u.idleSynced tick = u := by
  rw [idleSynced, if_pos ((idleRuns_iff u).mp h), if_neg ht]

end

/-- Two rewrites of a supervisor that agree on the one it has are one rewrite. -/
theorem modSup_congr {l : Lane} {f g : Supervisor → Supervisor} {s : State} (h : f (s.sup l) = g (s.sup l)) :
    modSup l f s = modSup l g s :=
  congrArg (fun u => s.setLane l { s.lane l with sup := u }) h

theorem syncIdle_eq (l : Lane) (s : State) : syncIdle l s = modSup l (Supervisor.idleSynced s.tick) s := by
  unfold syncIdle
  dsimp only
  split
  next hr =>
    split
    next ht =>
      have hkeep := Supervisor.idleSynced_of_timing s.tick hr (Option.isSome_iff_ne_none.mp ht)
      exact ((modSup_congr (g := id) hkeep).trans (modLane_id l s)).symm
    next ht =>
      exact modSup_congr (Supervisor.idleSynced_of_starting s.tick hr (by simpa using ht)).symm
  next hr => exact modSup_congr (Supervisor.idleSynced_of_stopped s.tick hr).symm

/-! ### The sheet serial at the end of an event (R186) -/

/-- The lane with its sheet serial raised, from 65,535 to 0, unless what READ_SHEET reports stayed the same (R186). -/
def LaneRec.serialRaised (same : Prop) [Decidable same] (r : LaneRec) : LaneRec :=
  { r with serial := if same then r.serial else (r.serial + 1) % 65536 }

section
variable {same : Prop} [Decidable same] {r : LaneRec}

theorem LaneRec.serialRaised_of_same (h : same) : r.serialRaised same = r := by
  rw [serialRaised, if_pos h]

theorem LaneRec.serialRaised_of_changed (h : ¬same) :
    r.serialRaised same = { r with serial := (r.serial + 1) % 65536 } := by
  rw [serialRaised, if_neg h]

end

theorem bumpSerial_eq (s : State) (l : Lane) (t : State) :
    bumpSerial s l t = modLane l (LaneRec.serialRaised (sheetView s l = sheetView t l)) t := by
  unfold bumpSerial
  split
  next h => rw [modLane, LaneRec.serialRaised_of_same h, State.setLane_self]
  next h => rw [modLane, modLane, LaneRec.serialRaised_of_changed h]

theorem bumpSerial_lane_other (s : State) (l : Lane) (t : State) :
    (bumpSerial s l t).lane l.other = t.lane l.other := by
  rw [bumpSerial_eq, modLane_lane_other]

/-- What READ_SHEET reports for a lane, the serial left out (R46, R186). -/
theorem sheetView_eq_iff (s t : State) (l : Lane) :
    sheetView s l = sheetView t l ↔
      (s.lane l).state = (t.lane l).state ∧ (s.lane l).holds = (t.lane l).holds ∧
      (s.lane l).squad = (t.lane l).squad ∧ (s.lane l).foulDetect = (t.lane l).foulDetect ∧
      (s.lane l).latchedFault = (t.lane l).latchedFault ∧ s.pairMode = t.pairMode ∧ s.squadOn l = t.squadOn l := by
  simp only [sheetView, SheetView.mk.injEq]

/-- The idle standby timer is no part of what READ_SHEET reports. -/
theorem sheetView_syncIdle (l k : Lane) (t : State) : sheetView (syncIdle l t) k = sheetView t k := by
  rw [syncIdle_eq]
  cases l <;> cases k <;> rfl

/-- The serial of the other lane is no part of what READ_SHEET reports for a lane. -/
theorem sheetView_bumpSerial_other (s : State) (l : Lane) (t : State) :
    sheetView (bumpSerial s l t) l.other = sheetView t l.other := by
  rw [bumpSerial_eq]
  cases l <;> rfl

/-! ### The end of an event -/

/-- The timers of both lanes, before the serials: each lane's own synchronisation, from the tick of the event. -/
theorem syncIdle_both_lane (t : State) (l : Lane) :
    (syncIdle .b (syncIdle .a t)).lane l = { t.lane l with sup := (t.sup l).idleSynced t.tick } := by
  rw [syncIdle_eq, syncIdle_eq]
  cases l <;> rfl

theorem sheetView_syncIdle_both (t : State) (l : Lane) : sheetView (syncIdle .b (syncIdle .a t)) l = sheetView t l :=
  (sheetView_syncIdle .b l _).trans (sheetView_syncIdle .a l t)

/-- The serials of both lanes: each judged by the views before the event and after it. -/
theorem bumpSerial_both_lane (s t : State) (l : Lane) :
    (bumpSerial s .b (bumpSerial s .a t)).lane l =
      (t.lane l).serialRaised (sheetView s l = sheetView t l) := by
  cases l with
  | a =>
    calc (bumpSerial s .b (bumpSerial s .a t)).lane .a
      _ = (bumpSerial s .a t).lane .a := bumpSerial_lane_other s .b _
      _ = _ := by rw [bumpSerial_eq, modLane_lane_same]
  | b =>
    have hview : sheetView (bumpSerial s .a t) .b = sheetView t .b := sheetView_bumpSerial_other s .a t
    have hlane : (bumpSerial s .a t).lane .b = t.lane .b := bumpSerial_lane_other s .a t
    simp only [bumpSerial_eq s .b, modLane_lane_same, hview, hlane]

/-- A lane at the end of an event (R155, R186). -/
theorem settle_lane (s t : State) (l : Lane) :
    (settle s t).lane l =
      LaneRec.serialRaised (sheetView s l = sheetView t l)
        { t.lane l with sup := (t.sup l).idleSynced t.tick } := by
  simp only [settle, bumpSerial_both_lane, sheetView_syncIdle_both, syncIdle_both_lane]

/-- The end of an event writes nothing but the lanes. -/
theorem settle_eq_withLanes (s t : State) : settle s t = { t with lanes := (settle s t).lanes } := by
  simp only [settle, bumpSerial_eq, syncIdle_eq]
  rfl

/-- Settles O4: each lane's timer and serial after `settle`, in the words of the statement. -/
theorem eventEndTimersAndSerials : Obligations.EventEndTimersAndSerials := by
  unfold Obligations.EventEndTimersAndSerials
  intro s t
  refine ⟨settle s t, rfl, settle_eq_withLanes s t, fun l => ?_⟩
  rw [settle_lane]
  exact congrArg (fun n => { t.lane l with sup := (t.sup l).idleSynced t.tick, serial := n })
    (if_congr (sheetView_eq_iff s t l) rfl rfl)

end Sys2Proof.Machine

namespace Sys2Proof.Machine

/-! ### A stopped core -/

section
variable {s : State}

/-- A stopped core hears no event that needs it; a request frame is one of them (R168). -/
theorem coreEvent_stopped {f : State → State} (hoff : coreOn s = false) : coreEvent f s = .next s := by
  simp [coreEvent, hoff]

/-- RESET_PAIR is not heard, so it is not taken and the serials stay (R173, R186). -/
theorem execResetPair_stopped {e : Envelope} (hoff : coreOn s = false) : execResetPair e s = .next s := by
  have hnot : resetPairTaken e s = false := by simp [resetPairTaken, hoff]
  simp [execResetPair, request_stopped hoff, hnot]

/-- An assertion of the external reset input finds the core stopped already (R169; log entries 7 and 24). -/
theorem takeResetAssert_stopped (hoff : coreOn s = false) : takeResetAssert s = s := by
  simp [takeResetAssert, hoff]

end

/-- Settles O5, by the kind of each command: the clock's and the supply's are the exceptions, RESET_PAIR and the reset
input's assertion act only with the core on, discarded frames never act, and all the rest are core events. -/
theorem stoppedCoreHearsNothing : Obligations.StoppedCoreHearsNothing := by
  unfold Obligations.StoppedCoreHearsNothing
  intro c s hoff hc
  cases c with
  | clockSecond | crystalStop | crystalRestart | mainFailure | mainReturn | retentionLoss | batteryLowSet
  | batteryLowClear | externalResetRelease => simp at hc
  | resetPair e => exact execResetPair_stopped hoff
  | externalResetAssert => exact congrArg Host.Outcome.next (takeResetAssert_stopped hoff)
  | frameDiscard port bytes | interByteTimeout port bytes => rfl
  | _ => exact coreEvent_stopped hoff

end Sys2Proof.Machine

namespace Sys2Proof.Machine

/-! ### Notices and their sets (R180, R188) -/

theorem NoticeKind.code_injective {k j : NoticeKind} (h : k.code = j.code) : k = j := by
  cases k <;> cases j <;> simp_all [NoticeKind.code]

theorem Scope.code_lt (x : Scope) : x.code < 3 := by cases x <;> decide

theorem Scope.code_injective {x y : Scope} (h : x.code = y.code) : x = y := by
  cases x <;> cases y <;> simp_all [Scope.code]

/-- A notice's place in READ_NOTICES' order tells which notice it is (R188). -/
theorem Notice.code_injective {m n : Notice} (h : m.code = n.code) : m = n := by
  obtain ⟨k, x⟩ := m
  obtain ⟨j, y⟩ := n
  have hx := x.code_lt
  have hy := y.code_lt
  simp only [Notice.code] at h
  rw [NoticeKind.code_injective (k := k) (j := j) (by omega), Scope.code_injective (x := x) (y := y) (by omega)]

theorem mem_insertNotice {n m : Notice} {ns : List Notice} : m ∈ insertNotice n ns ↔ m ∈ ns ∨ m = n := by
  induction ns with
  | nil => simp [insertNotice]
  | cons x rest ih =>
    unfold insertNotice
    split
    · simp [or_comm]
    next hnx =>
      split
      · simp [ih, or_assoc]
      next hxn =>
        have hx : n = x := Notice.code_injective (by omega)
        simp [hx, or_comm]

/-- A notice put in its place takes no other notice away. -/
theorem sublist_insertNotice (n : Notice) (ns : List Notice) : ns.Sublist (insertNotice n ns) := by
  induction ns with
  | nil => exact List.nil_sublist _
  | cons x rest ih =>
    unfold insertNotice
    split
    · exact List.sublist_cons_self ..
    split
    · exact ih.cons_cons x
    · exact .refl _

/-- A notice put in its place keeps the order of READ_NOTICES and stands there once (R180, R188). -/
theorem noticesOrdered_insertNotice {n : Notice} {ns : List Notice} :
    Safety.NoticesOrdered (insertNotice n ns) ↔ Safety.NoticesOrdered ns := by
  refine ⟨fun h => List.Pairwise.sublist (sublist_insertNotice n ns) h, fun h => ?_⟩
  induction ns with
  | nil => exact List.pairwise_singleton ..
  | cons x rest ih =>
    obtain ⟨hx, hrest⟩ := List.pairwise_cons.mp h
    unfold insertNotice
    split
    next hnx =>
      refine List.pairwise_cons.mpr ⟨fun m hm => ?_, h⟩
      rcases List.mem_cons.mp hm with rfl | hm
      · exact hnx
      · exact hnx.trans (hx m hm)
    split
    next hxn =>
      refine List.pairwise_cons.mpr ⟨fun m hm => ?_, ih hrest⟩
      rcases mem_insertNotice.mp hm with hm | rfl
      · exact hx m hm
      · exact hxn
    · exact h

/-- A kind that a port's set may hold (R180): one routed to the port, or CORRECTED on the desk or the console (R92). -/
def MayHold (p : Port) (k : NoticeKind) : Prop := receives p k = true ∨ (k = .corrected ∧ p ≠ .service)

/-- A notice set of kinds that the port may hold. -/
def HoldsRouted (p : Port) (ns : List Notice) : Prop := ∀ n ∈ ns, MayHold p n.kind

theorem noticesRouted_iff (s : State) : Safety.NoticesRouted s ↔ ∀ p, HoldsRouted p (s.port p).notices := Iff.rfl

theorem mem_portWithNotice {n m : Notice} {v : PortState} :
    m ∈ (portWithNotice n v).notices ↔ m ∈ v.notices ∨ m = n := by
  unfold portWithNotice
  split
  next h => exact ⟨.inl, fun hm => hm.elim id (· ▸ h)⟩
  next => exact mem_insertNotice

theorem noticesOrdered_portWithNotice {n : Notice} {v : PortState} :
    Safety.NoticesOrdered (portWithNotice n v).notices ↔ Safety.NoticesOrdered v.notices := by
  unfold portWithNotice
  split
  · rfl
  · exact noticesOrdered_insertNotice

theorem holdsRouted_portWithNotice {p : Port} {n : Notice} {v : PortState} (h : MayHold p n.kind) :
    HoldsRouted p (portWithNotice n v).notices ↔ HoldsRouted p v.notices := by
  refine ⟨fun hs m hm => hs m (mem_portWithNotice.mpr (.inl hm)), fun hs m hm => ?_⟩
  rcases mem_portWithNotice.mp hm with hm | rfl
  · exact hs m hm
  · exact h

/-! ### What leaves the notice sets in order and routed

A notice entered leaves its set ordered and routed exactly where it was; so each operation below leaves every set as it was
in these two respects, and has a lemma in the simp set that says so. -/

/-- Every port's notice set is ordered, and routed, exactly if it was. -/
abbrev SameNotices (s t : State) : Prop :=
  ∀ p, (Safety.NoticesOrdered (t.port p).notices ↔ Safety.NoticesOrdered (s.port p).notices) ∧
    (HoldsRouted p (t.port p).notices ↔ HoldsRouted p (s.port p).notices)

section
variable {s : State}

theorem SameNotices.of_ports {t : State} (hd : t.desk.notices = s.desk.notices)
    (hc : t.console.notices = s.console.notices) (hs : t.service.notices = s.service.notices) : SameNotices s t := by
  intro p
  have h : (t.port p).notices = (s.port p).notices := by cases p <;> assumption
  simp [h]

theorem SameNotices.trans {t u : State} (h : SameNotices s t) (k : SameNotices t u) : SameNotices s u := fun p =>
  ⟨(k p).1.trans (h p).1, (k p).2.trans (h p).2⟩

@[simp] theorem pairMode_sameNotices (m : PairMode) (s : State) : SameNotices s { s with pairMode := m } :=
  .of_ports rfl rfl rfl

@[simp] theorem key_sameNotices (k : Bool) (s : State) : SameNotices s { s with key := k } := .of_ports rfl rfl rfl

@[simp] theorem clock_sameNotices (c : Clock) (s : State) : SameNotices s { s with clock := c } := .of_ports rfl rfl rfl

@[simp] theorem supply_sameNotices (v : Supply) (s : State) : SameNotices s { s with supply := v } := .of_ports rfl rfl rfl

@[simp] theorem free_sameNotices (n : Nat) (s : State) : SameNotices s { s with free := n } := .of_ports rfl rfl rfl

@[simp] theorem pending_sameNotices (cs : List Instr) (s : State) : SameNotices s { s with pending := cs } :=
  .of_ports rfl rfl rfl

/-- A port rewritten in what is not its notice set. -/
@[simp] theorem modPort_sameNotices {p : Port} {f : PortState → PortState} (h : ∀ v, (f v).notices = v.notices) (s : State) :
    SameNotices s (modPort p f s) := by
  intro x
  rw [modPort_port]
  split
  next hx => simp [hx, h]
  next => simp

theorem enterNotice_sameNotices {p : Port} {n : Notice} (h : MayHold p n.kind) (s : State) :
    SameNotices s (enterNotice p n s) := by
  intro x
  unfold enterNotice
  rw [modPort_port]
  split
  next hx =>
    subst hx
    exact ⟨noticesOrdered_portWithNotice, holdsRouted_portWithNotice h⟩
  next => simp

@[simp] theorem routeNotice_sameNotices (p : Port) (n : Notice) (s : State) : SameNotices s (routeNotice p n s) := by
  unfold routeNotice
  split
  next h => exact enterNotice_sameNotices (.inl h) s
  next => simp [SameNotices]

@[simp] theorem raiseNotice_sameNotices (k : NoticeKind) (x : Scope) (s : State) : SameNotices s (raiseNotice k x s) := by
  simp [SameNotices, raiseNotice]

@[simp] theorem raiseLane_sameNotices (k : NoticeKind) (l : Lane) (s : State) : SameNotices s (raiseLane k l s) :=
  raiseNotice_sameNotices k _ s

@[simp] theorem raisePair_sameNotices (k : NoticeKind) (s : State) : SameNotices s (raisePair k s) :=
  raiseNotice_sameNotices k _ s

/-! ### The shared operations leave the notice sets in order and routed -/

@[simp] theorem maintTest_sameNotices (l : Lane) (s : State) : SameNotices s (maintTest l s) := by
  unfold maintTest
  dsimp only
  split <;> simp [SameNotices]

@[simp] theorem countCycle_sameNotices (l : Lane) (s : State) : SameNotices s (countCycle l s) := by
  simp [SameNotices, countCycle]

@[simp] theorem setStale_sameNotices (l : Lane) (s : State) : SameNotices s (setStale l s) := by
  unfold setStale
  split <;> simp [SameNotices]

@[simp] theorem creditOut_sameNotices (l : Lane) (s : State) : SameNotices s (creditOut l s) := by
  simp [SameNotices, creditOut]

@[simp] theorem arm_sameNotices (l : Lane) (s : State) : SameNotices s (arm l s) := by
  unfold arm
  (repeat' split) <;> simp [SameNotices]

@[simp] theorem decide52_sameNotices (l : Lane) (s : State) : SameNotices s (decide52 l s) := by
  unfold decide52
  split <;> simp [SameNotices]

@[simp] theorem bowlerChanged_sameNotices (l : Lane) (s : State) : SameNotices s (bowlerChanged l s) := by
  unfold bowlerChanged
  split <;> simp [SameNotices]

@[simp] theorem removeHold_sameNotices (l : Lane) (h : Hold) (s : State) : SameNotices s (removeHold l h s) := by
  unfold removeHold
  dsimp only
  (repeat' split) <;> simp [SameNotices]

@[simp] theorem noteFault_sameNotices (l : Lane) (c : FaultCause) (s : State) : SameNotices s (noteFault l c s) := by
  simp [SameNotices, noteFault]

@[simp] theorem creditShort_sameNotices (l : Lane) (q : SquadId) (s : State) : SameNotices s (creditShort l q s) := by
  unfold creditShort
  split <;> simp [SameNotices]

@[simp] theorem afterGame_sameNotices (q : SquadId) (l : Lane) (s : State) : SameNotices s (afterGame q l s) := by
  unfold afterGame
  dsimp only
  split <;> simp [SameNotices]

@[simp] theorem bothChanged_sameNotices (s : State) : SameNotices s (bothChanged s) := by
  simp [SameNotices, bothChanged]

@[simp] theorem swapSquads_sameNotices (f : Nat) (s : State) : SameNotices s (swapSquads f s) := by
  simp [SameNotices, swapSquads]

@[simp] theorem endPairGame_sameNotices (q : SquadId) (s : State) : SameNotices s (endPairGame q s) := by
  unfold endPairGame
  dsimp only
  split <;> simp [SameNotices]

@[simp] theorem reachGameDone_sameNotices (q : SquadId) (l : Lane) (s : State) : SameNotices s (reachGameDone q l s) := by
  unfold reachGameDone
  dsimp only
  split <;> simp [SameNotices]

@[simp] theorem roundDoneSingle_sameNotices (q : SquadId) (l : Lane) (s : State) :
    SameNotices s (roundDoneSingle q l s) := by
  unfold roundDoneSingle
  split <;> simp [SameNotices]

@[simp] theorem roundDoneCross_sameNotices (q : SquadId) (l : Lane) (s : State) :
    SameNotices s (roundDoneCross q l s) := by
  unfold roundDoneCross
  dsimp only
  (repeat' split) <;> simp [SameNotices]

@[simp] theorem roundDone_sameNotices (q : SquadId) (l : Lane) (s : State) : SameNotices s (roundDone q l s) := by
  unfold roundDone
  dsimp only
  split <;> simp [SameNotices]

@[simp] theorem chooseNext_sameNotices (q : SquadId) (l : Lane) (s : State) : SameNotices s (chooseNext q l s) := by
  unfold chooseNext
  dsimp only
  split <;> simp [SameNotices]

@[simp] theorem recordBall_sameNotices (l : Lane) (leave : Leave) (foul : Bool) (source : Source) (s : State) :
    SameNotices s (recordBall l leave foul source s).1 := by
  unfold recordBall
  dsimp only
  (repeat' split) <;> simp [SameNotices]

@[simp] theorem splitSquad_sameNotices (q : SquadId) (s : State) : SameNotices s (splitSquad q s) := by
  unfold splitSquad
  dsimp only
  split <;> simp [SameNotices]

@[simp] theorem splitRecords_sameNotices (s : State) : SameNotices s (splitRecords s) := by
  simp [SameNotices, splitRecords]

@[simp] theorem freezeSession_sameNotices (l : Lane) (s : State) : SameNotices s (freezeSession l s) := by
  simp [SameNotices, freezeSession]

@[simp] theorem closeEffect_sameNotices (l : Lane) (s : State) : SameNotices s (closeEffect l s) := by
  unfold closeEffect
  split <;> simp [SameNotices]

@[simp] theorem addCreditEffect_sameNotices (l : Lane) (n : Nat) (s : State) : SameNotices s (addCreditEffect l n s) := by
  unfold addCreditEffect
  dsimp only
  split <;> simp [SameNotices]

@[simp] theorem addTimeEffect_sameNotices (l : Lane) (n : Nat) (s : State) : SameNotices s (addTimeEffect l n s) := by
  unfold addTimeEffect
  dsimp only
  (repeat' split) <;> simp [SameNotices]

@[simp] theorem warnMinute_sameNotices (l : Lane) (s : State) : SameNotices s (warnMinute l s) := by
  unfold warnMinute
  dsimp only
  split <;> simp [SameNotices]

@[simp] theorem exhaustMinute_sameNotices (l : Lane) (s : State) : SameNotices s (exhaustMinute l s) := by
  unfold exhaustMinute
  dsimp only
  (repeat' split) <;> simp [SameNotices]

@[simp] theorem runSecond_sameNotices (l : Lane) (s : State) : SameNotices s (runSecond l s) := by
  unfold runSecond
  dsimp only
  (repeat' split) <;> simp [SameNotices]

@[simp] theorem replaceCurrent_sameNotices (q : SquadId) (s : State) : SameNotices s (replaceCurrent q s) := by
  simp [SameNotices, replaceCurrent]

@[simp] theorem rotateCorrected_sameNotices (q : SquadId) (l : Lane) (n k : Nat) (before after : List BallEntry)
    (s : State) : SameNotices s (rotateCorrected q l n k before after s) := by
  unfold rotateCorrected
  (repeat' split) <;> simp [SameNotices]

@[simp] theorem staleAfterCorrection_sameNotices (l : Lane) (before : Leave) (s : State) :
    SameNotices s (staleAfterCorrection l before s) := by
  unfold staleAfterCorrection
  dsimp only
  (repeat' split) <;> simp [SameNotices]

/-- A correction tells the other master, which is the desk or the console (R92). -/
theorem mayHold_otherMaster (p : Port) : MayHold (otherMaster p) .corrected := .inr ⟨rfl, by cases p <;> decide⟩

@[simp] theorem takeCorrection_sameNotices (p : Port) (q : SquadId) (n k : Nat) (b : Bowler) (after : List BallEntry)
    (s : State) : SameNotices s (takeCorrection p q n k b after s) := by
  intro x
  unfold takeCorrection
  dsimp only
  simp only [enterNotice_sameNotices (n := ⟨.corrected, _⟩) (mayHold_otherMaster p) _ x]
  split <;> simp

@[simp] theorem latch_sameNotices (l : Lane) (c : CycleRec) (s : State) : SameNotices s (latch l c s) := by
  unfold latch
  dsimp only
  split <;> simp [SameNotices]

@[simp] theorem endCycle_sameNotices (l : Lane) (c : CycleRec) (s : State) : SameNotices s (endCycle l c s) := by
  unfold endCycle
  dsimp only
  split <;> simp [SameNotices]

@[simp] theorem removeReturnHolds_sameNotices (s : State) : SameNotices s (removeReturnHolds s) := by
  simp [SameNotices, removeReturnHolds]

@[simp] theorem sensorFault_sameNotices (s : State) : SameNotices s (sensorFault s) := by
  simp [SameNotices, sensorFault]

@[simp] theorem emptyReturn_sameNotices (st : ReturnState) (s : State) : SameNotices s (emptyReturn st s) := by
  unfold emptyReturn
  dsimp only
  split <;> simp [SameNotices]

@[simp] theorem reevaluate_sameNotices (s : State) : SameNotices s (reevaluate s) := by
  unfold reevaluate
  dsimp only
  split <;> simp [SameNotices]

@[simp] theorem answerRequest_sameNotices (p : Port) (st : Status) (body : List Byte) (s : State) :
    SameNotices s (answerRequest p st body s) := by
  unfold answerRequest queueReply
  split <;> simp [SameNotices]

@[simp] theorem endProgramming_sameNotices (n : Nat) (st : Status) (s : State) :
    SameNotices s (endProgramming n st s) := by
  simp [SameNotices, endProgramming]

end

end Sys2Proof.Machine

namespace Sys2Proof.Machine

/-! ### The requests' own parts leave the notice sets in order and routed -/

@[simp] theorem openBody_sameNotices (mode : Coded AccountMode) (credit : BitVec 16) (warn : Option (BitVec 16))
    (l : Lane) (s : State) : SameNotices s (openBody mode credit warn l s).state := by
  unfold openBody
  (repeat' split) <;> simp [SameNotices]

@[simp] theorem closeBody_sameNotices (l : Lane) (s : State) : SameNotices s (closeBody l s).state := by
  unfold closeBody
  split <;> simp [SameNotices]

@[simp] theorem pauseBody_sameNotices (l : Lane) (s : State) : SameNotices s (pauseBody l s).state := by
  unfold pauseBody
  split <;> simp [SameNotices]

@[simp] theorem resumeBody_sameNotices (fromDesk : Bool) (l : Lane) (s : State) :
    SameNotices s (resumeBody fromDesk l s).state := by
  unfold resumeBody
  split
  · simp [SameNotices]
  · cases fromDesk <;> simp [SameNotices]

@[simp] theorem addCreditBody_sameNotices (amount : BitVec 16) (l : Lane) (s : State) :
    SameNotices s (addCreditBody amount l s).state := by
  unfold addCreditBody
  (repeat' split) <;> simp [SameNotices]

@[simp] theorem addTimeBody_sameNotices (amount : BitVec 16) (l : Lane) (s : State) :
    SameNotices s (addTimeBody amount l s).state := by
  unfold addTimeBody
  (repeat' split) <;> simp [SameNotices]

@[simp] theorem readSessionBody_sameNotices (l : Lane) (s : State) : SameNotices s (readSessionBody l s).state := by
  unfold readSessionBody
  split <;> simp [SameNotices]

@[simp] theorem startBody_sameNotices (games : Byte) (l : Lane) (s : State) :
    SameNotices s (startBody games l s).state := by
  unfold startBody startSingle startCross
  (repeat' split) <;> simp [SameNotices]

@[simp] theorem bowlerReadyBody_sameNotices (l : Lane) (s : State) : SameNotices s (bowlerReadyBody l s).state := by
  unfold bowlerReadyBody
  (repeat' split) <;> simp [SameNotices]

@[simp] theorem foulDetectBody_sameNotices (enable : Coded OnOff) (l : Lane) (s : State) :
    SameNotices s (foulDetectBody enable l s).state := by
  unfold foulDetectBody
  split <;> simp [SameNotices]

@[simp] theorem resetDeckBody_sameNotices (l : Lane) (s : State) : SameNotices s (resetDeckBody l s).state := by
  unfold resetDeckBody
  split <;> simp [SameNotices]

@[simp] theorem addBowlerBody_sameNotices (name : List Byte) (handicap : Option Byte) (blind : Option (BitVec 16))
    (q : SquadId) (s : State) : SameNotices s (addBowlerBody name handicap blind q s).state := by
  unfold addBowlerBody
  (repeat' split) <;> simp [SameNotices]

@[simp] theorem removeBowlerBody_sameNotices (slot : Nat) (q : SquadId) (s : State) :
    SameNotices s (removeBowlerBody slot q s).state := by
  unfold removeBowlerBody
  dsimp only
  (repeat' split) <;> simp [SameNotices]

@[simp] theorem moveBowlerBody_sameNotices (i j : Nat) (q : SquadId) (s : State) :
    SameNotices s (moveBowlerBody i j q s).state := by
  unfold moveBowlerBody
  (repeat' split) <;> simp [SameNotices]

@[simp] theorem markAbsentBody_sameNotices (slot : Nat) (blind : BitVec 16) (q : SquadId) (s : State) :
    SameNotices s (markAbsentBody slot blind q s).state := by
  unfold markAbsentBody
  dsimp only
  (repeat' split) <;> simp [SameNotices]

@[simp] theorem markPresentBody_sameNotices (slot : Nat) (q : SquadId) (s : State) :
    SameNotices s (markPresentBody slot q s).state := by
  unfold markPresentBody
  split <;> simp [SameNotices]

@[simp] theorem setHandicapBody_sameNotices (slot : Nat) (handicap : Option Byte) (q : SquadId) (s : State) :
    SameNotices s (setHandicapBody slot handicap q s).state := by
  unfold setHandicapBody
  split <;> simp [SameNotices]

@[simp] theorem readSheetBody_sameNotices (part : Nat) (l : Lane) (s : State) :
    SameNotices s (readSheetBody part l s).state := by
  unfold readSheetBody
  split <;> simp [SameNotices]

@[simp] theorem correctBody_sameNotices (p : Port) (squad : Coded SquadId) (c : CorrectFields) (s : State) :
    SameNotices s (correctBody p squad c s).state := by
  unfold correctBody correctChecked applyCorrection
  dsimp only
  (repeat' split) <;> simp [SameNotices]

@[simp] theorem enterBallBody_sameNotices (leave : BitVec 16) (foul : Bool) (l : Lane) (s : State) :
    SameNotices s (enterBallBody leave foul l s).state := by
  unfold enterBallBody enterBallEffect
  (repeat' split) <;> simp [SameNotices]

@[simp] theorem splitBody_sameNotices (s : State) : SameNotices s (splitBody s).state := by
  unfold splitBody
  (repeat' split) <;> simp [SameNotices]

@[simp] theorem pairModeBody_sameNotices (mode : Coded PairMode) (s : State) :
    SameNotices s (pairModeBody mode s).state := by
  unfold pairModeBody crossBody
  (repeat' split) <;> simp [SameNotices]

@[simp] theorem splitForceBody_sameNotices (s : State) : SameNotices s (splitForceBody s).state := by
  unfold splitForceBody
  split <;> simp [SameNotices]

@[simp] theorem rateSetBody_sameNotices (entry : Byte) (value : RateFields) (s : State) :
    SameNotices s (rateSetBody entry value s).state := by
  unfold rateSetBody
  (repeat' split) <;> simp [SameNotices]

@[simp] theorem rateClearBody_sameNotices (entry : Byte) (s : State) : SameNotices s (rateClearBody entry s).state := by
  unfold rateClearBody
  split <;> simp [SameNotices]

@[simp] theorem rateStoreBody_sameNotices (entry : Byte) (value : RateFields) (key : Bool) (s : State) :
    SameNotices s (rateStoreBody entry value key s).state := by
  unfold rateStoreBody
  dsimp only
  (repeat' split) <;> simp [SameNotices]

@[simp] theorem readStoredBody_sameNotices (s : State) : SameNotices s (readStoredBody s).state := by
  unfold readStoredBody
  split <;> simp [SameNotices]

@[simp] theorem clockSetBody_sameNotices (weekday hour minute second : Byte) (s : State) :
    SameNotices s (clockSetBody weekday hour minute second s).state := by
  unfold clockSetBody setClock
  (repeat' split) <;> simp [SameNotices]

@[simp] theorem clearFaultBody_sameNotices (l : Lane) (s : State) : SameNotices s (clearFaultBody l s).state := by
  unfold clearFaultBody
  (repeat' split) <;> simp [SameNotices]

@[simp] theorem setTimingBody_sameNotices (lanes : Coded LaneChoice) (f : TimingFields) (s : State) :
    SameNotices s (setTimingBody lanes f s).state := by
  rcases lanes with (_ | _ | _) | _ <;> simp [SameNotices, setTimingBody, lanesOf, setTimingOf]

@[simp] theorem setOffBody_sameNotices (l : Lane) (s : State) : SameNotices s (setOffBody l s).state := by
  unfold setOffBody machineOff offMove stopCycle
  (repeat' split) <;> simp [SameNotices]

@[simp] theorem setOnBody_sameNotices (l : Lane) (s : State) : SameNotices s (setOnBody l s).state := by
  unfold setOnBody machineOn onMove
  dsimp only
  (repeat' split) <;> simp [SameNotices]

@[simp] theorem testCycleBody_sameNotices (l : Lane) (s : State) : SameNotices s (testCycleBody l s).state := by
  unfold testCycleBody beginTest
  (repeat' split) <;> simp [SameNotices]

@[simp] theorem clearCountersBody_sameNotices (l : Lane) (s : State) : SameNotices s (clearCountersBody l s).state := by
  simp [SameNotices, clearCountersBody]

@[simp] theorem setIntervalBody_sameNotices (interval : BitVec 32) (l : Lane) (s : State) :
    SameNotices s (setIntervalBody interval l s).state := by
  simp [SameNotices, setIntervalBody]

@[simp] theorem maintDoneBody_sameNotices (l : Lane) (s : State) : SameNotices s (maintDoneBody l s).state := by
  simp [SameNotices, maintDoneBody]

@[simp] theorem clearReturnBody_sameNotices (s : State) : SameNotices s (clearReturnBody s).state := by
  unfold clearReturnBody
  split <;> simp [SameNotices]

@[simp] theorem startAttempt_sameNotices (n : Nat) (s : State) : SameNotices s (startAttempt n s) := by
  simp [SameNotices, startAttempt]

@[simp] theorem takeTransit_sameNotices (s : State) : SameNotices s (takeTransit s) := by
  unfold takeTransit
  split <;> simp [SameNotices]

@[simp] theorem applyLimit_sameNotices (limit : Option Byte) (s : State) : SameNotices s (applyLimit limit s) := by
  unfold applyLimit setTransitLimit
  split <;> simp [SameNotices]

@[simp] theorem applyPower_sameNotices (power : Option OnOff) (s : State) : SameNotices s (applyPower power s) := by
  unfold applyPower
  (repeat' split) <;> simp [SameNotices]

@[simp] theorem setReturnBody_sameNotices (power : Option (Coded OnOff)) (limit : Option Byte) (s : State) :
    SameNotices s (setReturnBody power limit s).state := by
  unfold setReturnBody setReturnChecked
  (repeat' split) <;> simp [SameNotices]

@[simp] theorem readReturnBody_sameNotices (clearStray clearJam : Bool) (s : State) :
    SameNotices s (readReturnBody clearStray clearJam s).state := by
  simp [SameNotices, readReturnBody]

@[simp] theorem readSupplyBody_sameNotices (clear : Bool) (s : State) :
    SameNotices s (readSupplyBody clear s).state := by
  cases clear <;> simp [SameNotices, readSupplyBody, clearFailures]

@[simp] theorem coldPair_sameNotices (s : State) : SameNotices s (coldPair s) := .of_ports rfl rfl rfl

@[simp] theorem loadRates_sameNotices (s : State) : SameNotices s (loadRates s) := .of_ports rfl rfl rfl

@[simp] theorem resetPairBody_sameNotices (s : State) : SameNotices s (resetPairBody s).state := by
  unfold resetPairBody
  split <;> simp [SameNotices]

@[simp] theorem setMaskBody_sameNotices (p : Port) (mask : BitVec 32) (mode : Coded AttentionMode) (s : State) :
    SameNotices s (setMaskBody p mask mode s).state := by
  unfold setMaskBody
  split
  · simp [SameNotices]
  split
  · exact modPort_sameNotices (f := portWithMask _ _) (fun _ => rfl) s
  · simp [SameNotices]

/-! ### The events leave the notice sets in order and routed -/

@[simp] theorem consoleBusy_sameNotices (s : State) : SameNotices s (consoleBusy s) := by
  simp [SameNotices, consoleBusy]

@[simp] theorem endConsoleReply_sameNotices (s : State) : SameNotices s (endConsoleReply s) := by
  simp [SameNotices, endConsoleReply]

@[simp] theorem portBusy_sameNotices (e : Envelope) (code : Byte) (s : State) : SameNotices s (portBusy e code s) := by
  unfold portBusy
  split
  · split <;> simp [SameNotices]
  · exact modPort_sameNotices (withBusy_notices _) s

@[simp] theorem bytesUnderHold_sameNotices (s : State) : SameNotices s (bytesUnderHold s) := by
  unfold bytesUnderHold
  split <;> simp [SameNotices]

@[simp] theorem takeSelectRise_sameNotices (s : State) : SameNotices s (takeSelectRise s) := by
  unfold takeSelectRise
  split <;> simp [SameNotices]

@[simp] theorem takeTurnaround_sameNotices (p : Port) (s : State) : SameNotices s (takeTurnaround p s) := by
  unfold takeTurnaround
  (repeat' split) <;> simp [SameNotices]

@[simp] theorem afterReply_notices (v : PortState) : v.afterReply.notices = v.notices := by
  unfold PortState.afterReply
  split <;> rfl

@[simp] theorem takeReplySent_sameNotices (p : Port) (s : State) : SameNotices s (takeReplySent p s) := by
  unfold takeReplySent
  (repeat' split) <;> simp [SameNotices]

@[simp] theorem endPulse_sameNotices (p : Port) (s : State) : SameNotices s (endPulse p s) := by
  simp [SameNotices, endPulse]

@[simp] theorem takeWarm_sameNotices (l : Lane) (s : State) : SameNotices s (takeWarm l s) := by
  unfold takeWarm runsNow
  (repeat' split) <;> simp [SameNotices]

@[simp] theorem takeDeck_sameNotices (l : Lane) (x : Leave) (s : State) : SameNotices s (takeDeck l x s) := by
  unfold takeDeck
  dsimp only
  split <;> simp [SameNotices]

@[simp] theorem takeRespot_sameNotices (l : Lane) (s : State) : SameNotices s (takeRespot l s) := by
  unfold takeRespot
  (repeat' split) <;> simp [SameNotices]

@[simp] theorem afterPurpose_sameNotices (l : Lane) (p : Purpose) (s : State) : SameNotices s (afterPurpose l p s) := by
  unfold afterPurpose afterTest
  (repeat' split) <;> simp [SameNotices]

@[simp] theorem takeCycleDone_sameNotices (l : Lane) (s : State) : SameNotices s (takeCycleDone l s) := by
  unfold takeCycleDone
  dsimp only
  (repeat' split) <;> simp [SameNotices]

@[simp] theorem takeMachineFault_sameNotices (l : Lane) (code : Byte) (s : State) :
    SameNotices s (takeMachineFault l code s) := by
  simp [SameNotices, takeMachineFault]

@[simp] theorem takeDetection_sameNotices (l : Lane) (s : State) : SameNotices s (takeDetection l s) := by
  unfold takeDetection deadBall
  dsimp only
  (repeat' split) <;> simp [SameNotices]

@[simp] theorem takeFoul_sameNotices (l : Lane) (s : State) : SameNotices s (takeFoul l s) := by
  unfold takeFoul
  (repeat' split) <;> simp [SameNotices]

@[simp] theorem takeSettle_sameNotices (l : Lane) (s : State) : SameNotices s (takeSettle l s) := by
  unfold takeSettle
  split <;> simp [SameNotices]

@[simp] theorem takeDeckLimit_sameNotices (l : Lane) (s : State) : SameNotices s (takeDeckLimit l s) := by
  unfold takeDeckLimit enterEntry
  (repeat' split) <;> simp [SameNotices]

@[simp] theorem takeWatchdog_sameNotices (l : Lane) (s : State) : SameNotices s (takeWatchdog l s) := by
  unfold takeWatchdog watchdogFault
  (repeat' split) <;> simp [SameNotices]

@[simp] theorem takeWarmUp_sameNotices (l : Lane) (s : State) : SameNotices s (takeWarmUp l s) := by
  have hmove : ∀ c t, SameNotices t (faultMove l c { t with free := s.free + 1 }) := fun c t => by simp [SameNotices]
  unfold takeWarmUp
  dsimp only
  split
  · exact SameNotices.trans (by simp [SameNotices]) (hmove _ (noteFault l .warmUp (countFault l _)))
  · simp [SameNotices]

@[simp] theorem takeIdle_sameNotices (l : Lane) (s : State) : SameNotices s (takeIdle l s) := by
  unfold takeIdle
  dsimp only
  (repeat' split) <;> simp [SameNotices]

@[simp] theorem takePitExit_sameNotices (l : Lane) (s : State) : SameNotices s (takePitExit l s) := by
  unfold takePitExit joinQueue
  (repeat' split) <;> simp [SameNotices]

@[simp] theorem takeArrival_sameNotices (s : State) : SameNotices s (takeArrival s) := by
  unfold takeArrival jamFreed headArrives strayArrival
  (repeat' split) <;> simp [SameNotices]

@[simp] theorem takeRunOn_sameNotices (s : State) : SameNotices s (takeRunOn s) := by
  unfold takeRunOn
  split <;> simp [SameNotices]

@[simp] theorem takeReverseEnd_sameNotices (s : State) : SameNotices s (takeReverseEnd s) := by
  unfold takeReverseEnd
  split <;> simp [SameNotices]

@[simp] theorem takeForwardEnd_sameNotices (s : State) : SameNotices s (takeForwardEnd s) := by
  unfold takeForwardEnd declareJam
  (repeat' split) <;> simp [SameNotices]

@[simp] theorem takeCompletion_sameNotices (s : State) : SameNotices s (takeCompletion s) := by
  unfold takeCompletion
  split <;> simp [SameNotices]

@[simp] theorem takeKeyRelease_sameNotices (s : State) : SameNotices s (takeKeyRelease s) := by
  unfold takeKeyRelease
  dsimp only
  split <;> simp [SameNotices]

@[simp] theorem takeClockSecond_sameNotices (s : State) : SameNotices s (takeClockSecond s) := by
  unfold takeClockSecond
  dsimp only
  (repeat' split) <;> simp [SameNotices]

@[simp] theorem takeCrystalStop_sameNotices (s : State) : SameNotices s (takeCrystalStop s) := by
  unfold takeCrystalStop
  dsimp only
  split <;> simp [SameNotices]

@[simp] theorem takeBatteryLow_sameNotices (s : State) : SameNotices s (takeBatteryLow s) := by
  unfold takeBatteryLow
  dsimp only
  split <;> simp [SameNotices]

@[simp] theorem stopCore_sameNotices (s : State) : SameNotices s (stopCore s) := by
  rw [stopCore_eq]
  exact .of_ports rfl rfl rfl

@[simp] theorem takeMainFailure_sameNotices (s : State) : SameNotices s (takeMainFailure s) := by
  unfold takeMainFailure countFailure
  split <;> simp [SameNotices]

@[simp] theorem takeRetentionLoss_sameNotices (s : State) : SameNotices s (takeRetentionLoss s) := by
  unfold takeRetentionLoss
  split
  · exact .of_ports rfl rfl rfl
  · simp [SameNotices]

@[simp] theorem takeResetAssert_sameNotices (s : State) : SameNotices s (takeResetAssert s) := by
  unfold takeResetAssert
  split <;> simp [SameNotices]

@[simp] theorem idleTick_sameNotices (s : State) : SameNotices s (idleTick s) := by
  have hc : (readyConsole s.console).notices = s.console.notices := by unfold readyConsole; split <;> rfl
  unfold idleTick
  split
  · exact .of_ports rfl hc rfl
  · simp [SameNotices]

end Sys2Proof.Machine

namespace Sys2Proof.Machine

/-! ### What a step does to the notice sets -/

/-- A port's notice set, ordered or routed, stays so. -/
structure KeepsNotices (s t : State) : Prop where
  ordered : ∀ p, Safety.NoticesOrdered (s.port p).notices → Safety.NoticesOrdered (t.port p).notices
  routed : ∀ p, HoldsRouted p (s.port p).notices → HoldsRouted p (t.port p).notices

section
variable {s t u : State}

theorem SameNotices.keeps (h : SameNotices s t) : KeepsNotices s t := ⟨fun p => (h p).1.mpr, fun p => (h p).2.mpr⟩

theorem KeepsNotices.refl (s : State) : KeepsNotices s s := ⟨fun _ => id, fun _ => id⟩

theorem KeepsNotices.trans (h : KeepsNotices s t) (k : KeepsNotices t u) : KeepsNotices s u :=
  ⟨fun p => k.ordered p ∘ h.ordered p, fun p => k.routed p ∘ h.routed p⟩

theorem KeepsNotices.then_same (h : KeepsNotices s t) (k : SameNotices t u) : KeepsNotices s u := h.trans k.keeps

/-- A notice set with some of its notices taken out. -/
theorem keepsNotices_filter (p : Port) (f : Notice → Bool) (s : State) :
    KeepsNotices s (modPort p (fun v => { v with notices := v.notices.filter f }) s) := by
  refine ⟨fun x h => ?_, fun x h => ?_⟩ <;> rw [modPort_port] <;> split
  next hx => subst hx; exact List.Pairwise.sublist List.filter_sublist h
  next => exact h
  next hx => subst hx; exact fun n hn => h n (List.mem_of_mem_filter hn)
  next => exact h

/-- ACK_NOTICES takes notices out of its port's set alone (R181). -/
theorem ackNoticesBody_keepsNotices (p : Port) (fields : List NoticeFields) (s : State) :
    KeepsNotices s (ackNoticesBody p fields s).state := by
  unfold ackNoticesBody
  split
  · exact .refl s
  split
  · exact .refl s
  · exact keepsNotices_filter p _ s

/-- The notices that a start enters are ordered and routed (R169, R183). -/
theorem startCore_notices (k : StartKind) (s : State) (p : Port) :
    Safety.NoticesOrdered ((startCore k s).port p).notices ∧ HoldsRouted p ((startCore k s).port p).notices := by
  cases p <;> cases hv : s.clock.valid <;> cases hl : s.supply.batteryLow <;>
    simp [startCore, State.port, PortState.reset, startDeskNotices, startServiceNotices, pairNotice, hv, hl,
      Safety.NoticesOrdered, HoldsRouted, MayHold, receives, Notice.code, NoticeKind.code, Scope.code]

/-- A start of the core makes every notice set anew (R183). -/
theorem startOn_keepsNotices (k : StartKind) (s : State) : KeepsNotices u (startOn k s) := by
  have hport : ∀ p, (startOn k s).port p = (startCore k s).port p := by
    intro p
    rw [startOn_eq]
    simp only [restartCycle_frame]
    cases p <;> rfl
  exact ⟨fun p _ => hport p ▸ (startCore_notices k s p).1, fun p _ => hport p ▸ (startCore_notices k s p).2⟩

theorem startOf_keepsNotices (k : StartKind) (s : State) : KeepsNotices s (startOf k s) := by
  unfold startOf
  split
  · exact (startOn_keepsNotices k s).then_same (by simp [SameNotices])
  · exact startOn_keepsNotices _ _

theorem takeMainReturn_keepsNotices (s : State) : KeepsNotices s (takeMainReturn s) := by
  rw [takeMainReturn_eq]
  split
  · exact .refl s
  split
  · exact (supply_sameNotices _ s).keeps
  · exact startOf_keepsNotices _ s

theorem takeResetRelease_keepsNotices (s : State) : KeepsNotices s (takeResetRelease s) := by
  rw [takeResetRelease_eq]
  split
  · exact .refl s
  split
  · exact startOf_keepsNotices _ s
  split
  · exact startOf_keepsNotices _ s
  · exact (supply_sameNotices _ s).keeps

/-! ### Every command, and every step -/

/-- A request whose own part keeps the notice sets. -/
abbrev BodyKeepsNotices (body : State → Answer) : Prop := ∀ s, KeepsNotices s (body s).state

/-- A request frame keeps the notice sets as its own part does. -/
theorem heardRequest_keepsNotices {e : Envelope} {code : Byte} {allowed broadcastOk fits : Bool} {body : State → Answer}
    (h : BodyKeepsNotices body) (s : State) : KeepsNotices s (heardRequest e code allowed broadcastOk fits body s) := by
  have hanswer : BodyKeepsNotices (answerOf allowed fits body) := by
    intro u
    unfold answerOf
    split
    · exact .refl u
    split
    · exact .refl u
    · exact h u
  have hdeliver : ∀ p a, SameNotices (Answer.state a) (deliver p a) := by
    intro p a
    cases a with
    | now st bytes t => exact answerRequest_sameNotices p st bytes t
    | later t => simp [SameNotices, deliver]
  have hbegin : SameNotices s (beginRequest e.port code e.tag s) := by simp [SameNotices, beginRequest]
  unfold heardRequest
  split
  · split
    · exact h s
    · exact .refl s
  split
  · exact .refl s
  split
  · exact hbegin.keeps.trans ((hanswer _).then_same (hdeliver _ _))
  · exact (portBusy_sameNotices e code s).keeps

theorem coreEvent_keepsNotices {f : State → State} (h : ∀ s, KeepsNotices s (f s)) (ht : coreEvent f s = .next t) :
    KeepsNotices s t := by
  unfold coreEvent at ht
  cases ht
  split
  · exact (h s).then_same (by simp [SameNotices])
  · exact .refl s

theorem request_keepsNotices {e : Envelope} {code : Byte} {allowed broadcastOk : Bool} {len : Nat} {body : State → Answer}
    (h : BodyKeepsNotices body) (ht : request e code allowed broadcastOk len body s = .next t) : KeepsNotices s t :=
  coreEvent_keepsNotices (heardRequest_keepsNotices h) ht

theorem resetPair_keepsNotices {e : Envelope} (ht : execResetPair e s = .next t) : KeepsNotices s t := by
  unfold execResetPair at ht
  cases hr : request e 42 (serviceOnly e) false 0 resetPairBody s with
  | next u =>
    rw [hr] at ht
    cases ht
    have hu := request_keepsNotices (fun v => (resetPairBody_sameNotices v).keeps) hr
    split
    · exact hu.then_same (by simp [SameNotices, zeroSerials])
    · exact hu
  | fault r => rw [hr] at ht; cases ht
  | refused r => rw [hr] at ht; cases ht

theorem withLane_sameNotices {f : Lane → State → Answer} (h : ∀ l s, SameNotices s (f l s).state) (c : Coded Lane)
    (s : State) : SameNotices s (withLane c f s).state := by
  cases c with
  | val l => exact h l s
  | bad _ => simp [SameNotices, withLane]

theorem withSelector_sameNotices {f : State → Answer} (h : ∀ s, SameNotices s (f s).state) (x : Option Byte)
    (s : State) : SameNotices s (withSelector x f s).state := by
  cases x with
  | none => exact h s
  | some _ => simp [SameNotices, withSelector]

theorem withRoster_sameNotices {f : SquadId → State → Answer} (h : ∀ q s, SameNotices s (f q s).state)
    (c : Coded SquadId) (slots : List Nat) (s : State) : SameNotices s (withRoster c slots f s).state := by
  unfold withRoster
  split
  · simp [SameNotices]
  split
  · simp [SameNotices]
  split
  · simp [SameNotices]
  · exact h _ s

/-- What a command does to the notice sets: an acknowledgement takes notices out, a start of the core makes the sets anew,
and every other command enters routed notices alone, each in its place. -/
theorem exec_keepsNotices {c : Instr} (ht : exec c s = .next t) : KeepsNotices s t := by
  have body : ∀ {e code allowed broadcastOk len body}, (∀ u, SameNotices u (Answer.state (body u))) →
      request e code allowed broadcastOk len body s = .next t → KeepsNotices s t := fun h =>
    request_keepsNotices fun u => (h u).keeps
  have onLane : ∀ {e code allowed broadcastOk len c f}, (∀ l u, SameNotices u (Answer.state (f l u))) →
      request e code allowed broadcastOk len (withLane c f) s = .next t → KeepsNotices s t := fun h =>
    body (withLane_sameNotices h _)
  have onRoster : ∀ {e code allowed broadcastOk len c slots f}, (∀ q u, SameNotices u (Answer.state (f q u))) →
      request e code allowed broadcastOk len (withRoster c slots f) s = .next t → KeepsNotices s t := fun h =>
    body (withRoster_sameNotices h _ _)
  have event : ∀ {f : State → State}, (∀ u, SameNotices u (f u)) → coreEvent f s = .next t → KeepsNotices s t := fun h =>
    coreEvent_keepsNotices fun u => (h u).keeps
  have always : ∀ {u : State}, KeepsNotices s u →
      Host.Outcome.next u = (.next t : Host.Outcome State Fault Refusal) → KeepsNotices s t := fun h hx => by
    cases hx; exact h
  cases c with
  | openLane | closeLane | pauseLane | resumeLane | addCredit | addTime | readAccount | readSession | startGame
  | bowlerReady | foulDetect | resetDeck | readSheet | enterBall | clearFault | readMachine | setMachineOff | testCycle
  | clearCounters | setMaintInterval | maintDone => exact onLane (fun l u => by simp [SameNotices]) ht
  | addBowler | removeBowler | moveBowler | markAbsent | markPresent | setHandicap =>
    exact onRoster (fun q u => by simp [SameNotices]) ht
  | correctBall | setPairMode | splitPair | splitPairForce | rateSet | rateClear | rateStore | rateReadStored | clockSet
  | clockRead | setTiming | clearReturn | setReturn | readReturn | readSupply | readNotices | setNoticeMask
  | unknownRequestCode => exact body (fun u => by simp [SameNotices]) ht
  | rateReadWorking e => exact body (withSelector_sameNotices (fun u => by simp [SameNotices]) e.stray) ht
  | setMachineOn e lane =>
    exact body (withSelector_sameNotices (withLane_sameNotices setOnBody_sameNotices lane.field) lane.stray) ht
  | resetPair => exact resetPair_keepsNotices ht
  | ackNotices e notices => exact request_keepsNotices (ackNoticesBody_keepsNotices e.port notices) ht
  | consoleBytesUnderHold | selectRise | replyTurnaround | replySent | warm | deck | respotPoint | cycleDone | machineFault
  | ballDetection | foulEvent | pitExit | arrival | keyRelease | programmingComplete | settleExpiry | deckLimitExpiry
  | cycleWatchdogExpiry | warmUpExpiry | idleStandbyExpiry | runOnExpiry | transitExpiry | reversePhaseEnd
  | forwardPhaseEnd | runningSecond | pulseEnd => exact event (fun u => by simp [SameNotices]) ht
  | frameDiscard | interByteTimeout => exact always (.refl s) ht
  | clockSecond => exact always (takeClockSecond_sameNotices s).keeps ht
  | crystalStop => exact always (takeCrystalStop_sameNotices s).keeps ht
  | crystalRestart => exact always (clock_sameNotices _ s).keeps ht
  | mainFailure => exact always (takeMainFailure_sameNotices s).keeps ht
  | mainReturn => exact always (takeMainReturn_keepsNotices s) ht
  | retentionLoss => exact always (takeRetentionLoss_sameNotices s).keeps ht
  | batteryLowSet => exact always (takeBatteryLow_sameNotices s).keeps ht
  | batteryLowClear => exact always (supply_sameNotices _ s).keeps ht
  | externalResetAssert => exact always (takeResetAssert_sameNotices s).keeps ht
  | externalResetRelease => exact always (takeResetRelease_keepsNotices s) ht

theorem step_keepsNotices (ht : step s = .next t) : KeepsNotices s t := by
  unfold step at ht
  split at ht
  next c rest _ => exact (pending_sameNotices rest s).keeps.trans (exec_keepsNotices ht)
  next =>
    cases ht
    exact (idleTick_sameNotices s).keeps

end

/-- Settles O15, port by port, by what a step does to the notice sets. -/
theorem stepKeepsNoticeSets : Obligations.StepKeepsNoticeSets := by
  unfold Obligations.StepKeepsNoticeSets
  intro s t ht
  have hk := step_keepsNotices ht
  exact ⟨fun h p => hk.ordered p (h p), fun h p => hk.routed p (h p)⟩

end Sys2Proof.Machine

namespace Sys2Proof.Machine

/-! ### How a request row is heard (R178, R179) -/

/-- A RESET_PAIR that is not taken is heard as its row says; one that is taken also sets the serials to 0 (R173, R186). -/
theorem execResetPair_eq_request {e : Envelope} {s : State} (h : resetPairTaken e s = false) :
    execResetPair e s = request e 42 (serviceOnly e) false 0 resetPairBody s := by
  simp [execResetPair, request, coreEvent, h]

/-- Every request is heard on the ports, at the length and as the broadcast that the table of requests gives it. -/
theorem exec_of_requestRow {c : Instr} {r : RequestRow} (s : State) (hr : c.requestRow = some r)
    (hp : ∀ e, c = .resetPair e → resetPairTaken e s = false) :
    ∃ body, exec c s =
      request r.envelope r.code (decide (r.envelope.port ∈ r.ports)) r.broadcast r.length body s := by
  have desk : ∀ e : Envelope, decide (e.port ∈ [Port.desk]) = deskOnly e := fun e => by
    cases h : e.port <;> simp [deskOnly, h]
  have console : ∀ e : Envelope, decide (e.port ∈ [Port.console]) = consoleOnly e := fun e => by
    cases h : e.port <;> simp [consoleOnly, h]
  have service : ∀ e : Envelope, decide (e.port ∈ [Port.service]) = serviceOnly e := fun e => by
    cases h : e.port <;> simp [serviceOnly, h]
  have masters : ∀ e : Envelope, decide (e.port ∈ [Port.desk, .console]) = deskOrConsole e := fun e => by
    cases h : e.port <;> simp [deskOrConsole, h]
  have readers : ∀ e : Envelope, decide (e.port ∈ [Port.desk, .service]) = deskOrService e := fun e => by
    cases h : e.port <;> simp [deskOrService, h]
  have all : ∀ e : Envelope, decide (e.port ∈ [Port.desk, .console, .service]) = true := fun e => by
    cases h : e.port <;> simp
  have none : ∀ e : Envelope, decide (e.port ∈ ([] : List Port)) = false := fun e => rfl
  cases c <;> cases hr <;> simp only [desk, console, service, masters, readers, all, none]
  case resetPair e => exact ⟨_, execResetPair_eq_request (hp e rfl)⟩
  all_goals exact ⟨_, rfl⟩

end Sys2Proof.Machine

namespace Sys2Proof.Machine

section
variable {e : Envelope} {code : Byte} {allowed broadcastOk : Bool} {len : Nat} {body : State → Answer} {s : State}

/-- What a request that a port takes answers, whatever its body's length (R178). -/
theorem request_addressed (h : Safety.Taken e e.port e.bodyLen s) :
    request e code allowed broadcastOk len body s =
      .next (settle s (deliver e.port (answerOf allowed (e.bodyLen == len) body (Safety.heard e code s)))) := by
  obtain ⟨hb, ha⟩ := taken_addressed h
  obtain ⟨hon, -, -, hfree, -⟩ := h
  simp [request, coreEvent, hon, heardRequest, hb, ha, hfree, serve, beginRequest_eq_heard]

/-- The refusal of a request in execution goes to its port. -/
theorem deliver_refuse (e : Envelope) (code : Byte) (st : Status) (s : State) :
    deliver e.port (refuse st (Safety.heard e code s)) = Safety.replied e code st [] (Safety.heard e code s) :=
  answerRequest_eq_replied e code st [] _ (heard_port_request e code s)

/-- A request from a port not named for it (R178, R179). -/
theorem request_denied (h : Safety.Taken e e.port e.bodyLen s) :
    request e code false broadcastOk len body s =
      .next (settle s (Safety.replied e code .denied [] (Safety.heard e code s))) := by
  rw [request_addressed h, ← deliver_refuse]
  rfl

/-- A request from a port that may send it, whose body does not fit its fields (R178). -/
theorem request_misfit (h : Safety.Taken e e.port e.bodyLen s) (hl : e.bodyLen ≠ len) :
    request e code true broadcastOk len body s =
      .next (settle s (Safety.replied e code .length [] (Safety.heard e code s))) := by
  rw [request_addressed h, ← deliver_refuse, beq_eq_false_iff_ne.mpr hl]
  rfl

/-- RESET_PAIR is taken from the service port, with an empty body, while that port is free (R173, R178, R179). -/
theorem of_resetPairTaken (h : resetPairTaken e s = true) :
    e.port = .service ∧ e.bodyLen = 0 ∧ portFree s .service = true := by
  simp only [resetPairTaken, serviceOnly, Bool.and_eq_true, beq_iff_eq] at h
  obtain ⟨⟨⟨⟨-, hp⟩, hf⟩, hl⟩, -⟩ := h
  exact ⟨hp, hl, hf⟩

end

/-- Settles O6: each request is heard as its row of the table says, and the two checks come before its own. -/
theorem requestTurnedAway : Obligations.RequestTurnedAway := by
  unfold Obligations.RequestTurnedAway
  intro c r s hr ht
  have denied : r.envelope.port ∉ r.ports → Safety.Refuses c r.envelope r.code s .denied := by
    intro hport
    have hreset : ∀ e, c = .resetPair e → resetPairTaken e s = false := by
      rintro e rfl
      cases hr
      exact Bool.eq_false_iff.mpr fun h => hport (by simp [(of_resetPairTaken h).1])
    obtain ⟨body, hx⟩ := exec_of_requestRow s hr hreset
    rw [decide_eq_false hport] at hx
    exact hx.trans (request_denied ht)
  refine ⟨denied, fun hport hlen => ?_, fun e code hc => ?_⟩
  · have hreset : ∀ e, c = .resetPair e → resetPairTaken e s = false := by
      rintro e rfl
      cases hr
      exact Bool.eq_false_iff.mpr fun h => hlen (of_resetPairTaken h).2.1
    obtain ⟨body, hx⟩ := exec_of_requestRow s hr hreset
    rw [decide_eq_true hport] at hx
    exact hx.trans (request_misfit ht hlen)
  · subst hc
    cases hr
    exact denied List.not_mem_nil

/-! ### A port that holds a request (R176, R178) -/

/-- The desk and service ports are free when they hold no request (R178). -/
theorem portFree_of_not_console {p : Port} {s : State} (h : p ≠ .console) :
    portFree s p = (s.port p).request.isNone := by
  cases p with
  | console => exact absurd rfl h
  | desk | service => rfl

/-- A BUSY reply stands behind the BUSY replies that wait, and a reply whose bytes are being sent stays first (log entry
46). -/
theorem withBusy_eq {busy : Reply} {v : PortState} {xs ys : List Reply} (hv : v.outgoing = xs ++ ys)
    (hx : ∀ x ∈ (if v.transmitting = true then xs.tail else xs), x.own = false) (hy : ∀ y ∈ ys.head?, y.own = true)
    (ht : v.transmitting = true → xs ≠ [] ∨ ys = []) :
    v.withBusy busy = { v with outgoing := xs ++ [busy] ++ ys } := by
  obtain ⟨request, outgoing, transmitting, phase, notices, mask, mode, pulse⟩ := v
  simp only at hv hx ht
  subst hv
  cases transmitting with
  | false =>
    have hfront : ∀ x ∈ xs, x.own = false := hx
    simp [PortState.withBusy, insertBusy_spec busy hfront hy]
  | true =>
    cases xs with
    | nil =>
      obtain rfl : ys = [] := (ht rfl).resolve_left (by simp)
      rfl
    | cons x rest =>
      have hfront : ∀ y ∈ rest, y.own = false := hx
      simp [PortState.withBusy, insertBusy_spec busy hfront hy]

/-- A desk frame with the pair's own address is no broadcast and not for another pair; the other ports do not ask. -/
theorem addressed_of_own {e : Envelope} {s : State} (h : e.port = .desk → e.address ≠ 0 ∧ e.address = s.address) :
    isBroadcast e = false ∧ forAnotherPair e s = false := by
  by_cases hp : e.port = .desk
  · obtain ⟨h0, ha⟩ := h hp
    simp [isBroadcast, forAnotherPair, ← ha, h0]
  · simp [isBroadcast, forAnotherPair, hp]

/-- Settles O7: a busy port answers by its kind, and an address decides the rest before the request is looked at. -/
theorem framesNotTaken : Obligations.FramesNotTaken := by
  unfold Obligations.FramesNotTaken
  refine ⟨fun c r s hr hon haddr => ?_, fun c r s hr hon hdesk hno => ?_⟩
  · obtain ⟨hb, ha⟩ := addressed_of_own haddr
    have busy : portFree s r.envelope.port = false →
        exec c s = .next (settle s (portBusy r.envelope r.code s)) := by
      intro hf
      have hreset : ∀ e, c = .resetPair e → resetPairTaken e s = false := by
        rintro e rfl
        cases hr
        refine Bool.eq_false_iff.mpr fun h => ?_
        obtain ⟨hp, -, hfree⟩ := of_resetPairTaken h
        simp [hp, hfree] at hf
      obtain ⟨body, hx⟩ := exec_of_requestRow s hr hreset
      exact hx.trans (request_busy hon hb ha hf)
    refine ⟨?_, fun hp hphase => ?_, fun hp hphase => ?_⟩
    · intro p v reply hp hreq xs ys hv hxs hys hsent
      have hf : portFree s p = false := by
        rw [portFree_of_not_console hp]
        exact Option.isNone_eq_false_iff.mpr (Option.isSome_iff_ne_none.mpr hreq)
      rw [busy hf, portBusy]
      split
      next h => exact absurd h hp
      next => rw [modPort, withBusy_eq hv hxs hys hsent]
    · rw [busy (by simp [hp, portFree, hphase]), portBusy, hp]
      simp only [if_pos hphase]
      rfl
    · rw [busy (by simp [hp, portFree, hphase]), portBusy, hp]
      simp only [hphase, reduceCtorEq, if_false]
      rfl
  · have hreset : ∀ e, c = .resetPair e → resetPairTaken e s = false := by
      rintro e rfl
      cases hr
      refine Bool.eq_false_iff.mpr fun h => ?_
      simp [(of_resetPairTaken h).1] at hdesk
    obtain ⟨body, hx⟩ := exec_of_requestRow s hr hreset
    rw [hx]
    rcases hno with ⟨h0, hother⟩ | ⟨h0, hmisfit⟩
    · exact request_other_pair hon (by simp [forAnotherPair, hdesk, h0, hother])
    · rw [request_broadcast hon (by simp [isBroadcast, hdesk, h0])]
      rcases hmisfit with h | h <;> simp [h]

end Sys2Proof.Machine

namespace Sys2Proof.Machine

/-! ### A notice raised (R180, R182) -/

/-- A notice entered touches its port's set and pulse alone. -/
theorem portWithNotice_eq (n : Notice) (v : PortState) :
    portWithNotice n v = { v with notices := (portWithNotice n v).notices, pulse := (portWithNotice n v).pulse } := by
  unfold portWithNotice
  split <;> rfl

/-- In PULSE mode a masked-in notice that was not held starts a pulse (R182). -/
theorem portWithNotice_pulse {n : Notice} {v : PortState} :
    (portWithNotice n v).pulse = true ↔
      v.pulse = true ∨ (v.mode = .pulse ∧ n ∉ v.notices ∧ v.mask.getLsbD n.kind.code = true) := by
  unfold portWithNotice
  split
  next h => simp [h]
  next h => simp [h, maskedIn]

theorem routeNotice_port (p x : Port) (n : Notice) (s : State) :
    (routeNotice p n s).port x =
      if x = p ∧ receives x n.kind = true then portWithNotice n (s.port x) else s.port x := by
  unfold routeNotice enterNotice
  split
  next h =>
    rw [modPort_port]
    by_cases hx : x = p
    · subst hx; simp [h]
    · simp [hx]
  next h =>
    by_cases hx : x = p
    · subst hx; simp [h]
    · simp [hx]

/-- A notice raised enters the set of each port that receives its kind (R180). -/
theorem raiseNotice_port (k : NoticeKind) (x : Scope) (s : State) (p : Port) :
    (raiseNotice k x s).port p = if receives p k = true then portWithNotice ⟨k, x⟩ (s.port p) else s.port p := by
  unfold raiseNotice
  cases p <;> simp [routeNotice_port]

theorem raiseNotice_ports (k : NoticeKind) (x : Scope) (s : State) :
    raiseNotice k x s = { s with
      desk := (raiseNotice k x s).port .desk, console := (raiseNotice k x s).port .console
      service := (raiseNotice k x s).port .service } := by
  obtain ⟨⟨hclock, hsupply, hstraps, haddress, hkey, htick, hfree, hpending⟩, -, hlanes, hsquads, hmode, hret, hrates⟩ :=
    raiseNotice_frame k x s
  rw [← hclock, ← hsupply, ← hstraps, ← haddress, ← hkey, ← htick, ← hfree, ← hpending, ← hlanes, ← hsquads, ← hmode,
    ← hret, ← hrates]
  rfl

/-- Settles O20: a port that receives the kind has the notice entered, and any other stays as it is. -/
theorem noticeRouting : Obligations.NoticeRouting := by
  unfold Obligations.NoticeRouting
  refine ⟨fun k x s => ⟨_, _, _, raiseNotice_ports k x s, fun p => ?_⟩, ?_, ?_, ?_⟩
  case refine_1 =>
    rw [raiseNotice_port]
    by_cases hr : receives p k = true
    · rw [if_pos hr]
      exact ⟨_, _, portWithNotice_eq _ _, noticesOrdered_portWithNotice.mpr,
        fun n => by simp [mem_portWithNotice, hr], by simp [portWithNotice_pulse, hr]⟩
    · rw [if_neg hr]
      exact ⟨(s.port p).notices, (s.port p).pulse, rfl, id, by simp [hr], by simp [hr]⟩
  all_goals
    intro k
    cases k <;> decide

/-! ### ACK_NOTICES (R181, R188) -/

theorem noticeKindOf_eq_some {n : Nat} {k : NoticeKind} : noticeKindOf n = some k ↔ k.code = n := by
  constructor
  · intro h
    unfold noticeKindOf at h
    split at h <;> cases h <;> rfl
  · rintro rfl
    cases k <;> rfl

theorem scopeOf_eq_some {n : Nat} {x : Scope} : scopeOf n = some x ↔ x.code = n := by
  constructor
  · intro h
    unfold scopeOf at h
    split at h <;> cases h <;> rfl
  · rintro rfl
    cases x <;> rfl

theorem noticeKindOf_isSome {n : Nat} : (noticeKindOf n).isSome = true ↔ n ≤ 19 := by
  refine ⟨fun h => ?_, fun h => by interval_cases n <;> rfl⟩
  obtain ⟨k, hk⟩ := Option.isSome_iff_exists.mp h
  rw [← noticeKindOf_eq_some.mp hk]
  cases k <;> decide

theorem scopeOf_isSome {n : Nat} : (scopeOf n).isSome = true ↔ n ≤ 2 := by
  refine ⟨fun h => ?_, fun h => by interval_cases n <;> rfl⟩
  obtain ⟨x, hx⟩ := Option.isSome_iff_exists.mp h
  rw [← scopeOf_eq_some.mp hx]
  cases x <;> decide

/-- A listed notice is the one of its two codes. -/
theorem noticeOf_eq_some {f : NoticeFields} {n : Notice} :
    noticeOf f = some n ↔ f.kind.toNat = n.kind.code ∧ f.scope.toNat = n.scope.code := by
  obtain ⟨k, x⟩ := n
  have hk : noticeKindOf f.kind.toNat = some k ↔ f.kind.toNat = k.code := noticeKindOf_eq_some.trans eq_comm
  have hx : scopeOf f.scope.toNat = some x ↔ f.scope.toNat = x.code := scopeOf_eq_some.trans eq_comm
  rw [← hk, ← hx, noticeOf]
  cases noticeKindOf f.kind.toNat <;> cases scopeOf f.scope.toNat <;> simp

/-- A listed notice is known when its kind and its lane are (R181). -/
theorem noticeOf_isSome {f : NoticeFields} : (noticeOf f).isSome = true ↔ f.kind.toNat ≤ 19 ∧ f.scope.toNat ≤ 2 := by
  rw [← noticeKindOf_isSome, ← scopeOf_isSome, noticeOf]
  cases noticeKindOf f.kind.toNat <;> cases scopeOf f.scope.toNat <;> simp

/-- The listed notices are known when each of them is. -/
theorem noticesOf_isSome {fs : List NoticeFields} :
    (noticesOf fs).isSome = true ↔ ∀ f ∈ fs, (noticeOf f).isSome = true := by
  induction fs with
  | nil => simp [noticesOf]
  | cons f rest ih =>
    rw [List.forall_mem_cons, ← ih, noticesOf]
    cases noticeOf f <;> cases noticesOf rest <;> simp

theorem mem_of_noticesOf {fs : List NoticeFields} {ns : List Notice} (h : noticesOf fs = some ns) (n : Notice) :
    n ∈ ns ↔ ∃ f ∈ fs, noticeOf f = some n := by
  induction fs generalizing ns with
  | nil =>
    cases h
    simp
  | cons f rest ih =>
    unfold noticesOf at h
    split at h
    next m ms hf hrest =>
      cases h
      simp [ih hrest, hf, eq_comm]
    next => cases h

/-- Whether a notice is among the listed ones is read from their codes. -/
theorem contains_of_noticesOf {fs : List NoticeFields} {ns : List Notice} (h : noticesOf fs = some ns) (n : Notice) :
    ns.contains n = fs.any fun f => f.kind.toNat == n.kind.code && f.scope.toNat == n.scope.code := by
  rw [Bool.eq_iff_iff]
  simp [mem_of_noticesOf h, noticeOf_eq_some]

/-! ### What hearing a request leaves of its port -/

section
variable {e : Envelope} {code : Byte} {s : State}

@[simp] theorem heard_port_notices (p : Port) : ((Safety.heard e code s).port p).notices = (s.port p).notices := by
  rcases e with ⟨q, a, t, n⟩
  cases q <;> cases p <;> rfl

@[simp] theorem heard_port_mode (p : Port) : ((Safety.heard e code s).port p).mode = (s.port p).mode := by
  rcases e with ⟨q, a, t, n⟩
  cases q <;> cases p <;> rfl

@[simp] theorem heard_port_pulse (p : Port) : ((Safety.heard e code s).port p).pulse = (s.port p).pulse := by
  rcases e with ⟨q, a, t, n⟩
  cases q <;> cases p <;> rfl

/-- ACK_NOTICES with no notice listed, with too many, or with an unknown one. -/
theorem ackNoticesBody_refused {p : Port} {fs : List NoticeFields}
    (h : ¬(1 ≤ fs.length ∧ fs.length ≤ 32 ∧ ∀ f ∈ fs, f.kind.toNat ≤ 19 ∧ f.scope.toNat ≤ 2)) :
    ackNoticesBody p fs s = refuse .range s := by
  unfold ackNoticesBody
  split
  · rfl
  next hlen =>
    split
    · rfl
    next ns hns =>
      have hknown : ∀ f ∈ fs, f.kind.toNat ≤ 19 ∧ f.scope.toNat ≤ 2 := fun f hf =>
        noticeOf_isSome.mp (noticesOf_isSome.mp (by simp [hns]) f hf)
      exact absurd ⟨by omega, by omega, hknown⟩ h

/-- ACK_NOTICES of known notices: those of them that the set holds leave it. -/
theorem ackNoticesBody_known {p : Port} {fs : List NoticeFields} (h1 : 1 ≤ fs.length) (h32 : fs.length ≤ 32)
    (hknown : ∀ f ∈ fs, f.kind.toNat ≤ 19 ∧ f.scope.toNat ≤ 2) {left : List Notice}
    (hleft : left = (s.port p).notices.filter fun n =>
      !fs.any fun f => f.kind.toNat == n.kind.code && f.scope.toNat == n.scope.code) :
    ackNoticesBody p fs s =
      .now .ok [BitVec.ofNat 8 left.length] (s.setPort p { s.port p with notices := left }) := by
  have hsome : (noticesOf fs).isSome = true := noticesOf_isSome.mpr fun f hf => noticeOf_isSome.mpr (hknown f hf)
  obtain ⟨ns, hns⟩ := Option.isSome_iff_exists.mp hsome
  have hfilter : ((s.port p).notices.filter fun n => !ns.contains n) = left := by
    simp only [hleft, contains_of_noticesOf hns]
  unfold ackNoticesBody
  rw [if_neg (by omega), hns]
  simp only [modPort, hfilter, State.setPort_port_same, be1]

/-! ### SET_NOTICE_MASK and the attention line (R182) -/

/-- SET_NOTICE_MASK of known kinds: a pulse goes on from PULSE to PULSE alone. -/
theorem setMaskBody_known {p : Port} {mask : BitVec 32} (mode : AttentionMode) (h : mask.toNat < 2 ^ 20) :
    setMaskBody p mask (.val mode) s =
      done (s.setPort p { s.port p with
        mask := mask.setWidth 20
        mode := mode
        pulse := (s.port p).pulse && decide ((s.port p).mode = .pulse ∧ mode = .pulse) }) := by
  have hpulse : ((s.port p).pulse && (s.port p).mode == .pulse && mode == .pulse) =
      ((s.port p).pulse && decide ((s.port p).mode = .pulse ∧ mode = .pulse)) := by
    rw [Bool.decide_and, ← Bool.and_assoc]
    rfl
  have hmask : mask.extractLsb' 0 20 = mask.setWidth 20 := by ext i hi; simp
  rw [← hmask, ← hpulse]
  exact if_pos h

theorem setMaskBody_unknown {p : Port} {mask : BitVec 32} (mode : AttentionMode) (h : 2 ^ 20 ≤ mask.toNat) :
    setMaskBody p mask (.val mode) s = refuse .range s := if_neg (Nat.not_lt.mpr h)

end

/-- Settles O59: each request's checks in their order and its write of the port, then the line in each mode. -/
theorem noticeRequests : Obligations.NoticeRequests := by
  unfold Obligations.NoticeRequests
  refine ⟨fun e s => ⟨?_, ?_⟩, fun p s => ⟨?_, ?_, ?_⟩⟩
  · intro fs ht h known left
    refine ⟨fun hno => refuses_of rfl ht rfl (ackNoticesBody_refused hno), fun h1 h32 hknown => ?_⟩
    exact completes_of rfl ht rfl (ackNoticesBody_known h1 h32 hknown (by rw [heard_port_notices])) (by simp [h])
  · intro mask mode bad ht h
    refine ⟨refuses_of rfl ht rfl rfl, fun hbig => refuses_of rfl ht rfl (setMaskBody_unknown mode hbig), fun hsmall => ?_⟩
    refine completes_of rfl ht rfl ((setMaskBody_known mode hsmall).trans ?_) (by simp [h])
    simp only [heard_port_mode, heard_port_pulse]
    rfl
  · intro hoff
    simp [attentionLine, hoff]
  · intro hon hlevel
    simp only [attentionLine, hon, hlevel, Bool.true_and, List.any_eq_true]
    rfl
  · intro hon hpulse
    simp [attentionLine, hon, hpulse]

end Sys2Proof.Machine

namespace Sys2Proof.Machine

/-! ### The events of the ports (R174 to R178, R182) -/

section
variable {s : State}

/-- With the core running an event does what its meaning says. -/
theorem does_of_coreEvent {c : Instr} {f : State → State} {t : State} (hon : coreOn s = true)
    (hc : exec c s = coreEvent f s) (hf : f s = t) : Safety.Does c s t := by
  subst hf
  rw [Safety.Does, hc, coreEvent, if_pos hon]

/-- The line of a port other than the console is quiet over a waiting reply (R175, R177). -/
theorem takeTurnaround_of_not_console {p : Port} (h : p ≠ .console) :
    takeTurnaround p s =
      if (s.port p).outgoing = [] then s else s.setPort p { s.port p with transmitting := true } := by
  cases p with
  | console => exact absurd rfl h
  | desk | service => exact if_congr List.isEmpty_iff rfl rfl

/-- The console's line is quiet over a waiting reply: HOLD is released (R176). -/
theorem takeTurnaround_console :
    takeTurnaround .console s = if s.console.phase = .executing ∧ s.console.outgoing ≠ [] then
      { s with console := { s.console with phase := .replyReady } } else s :=
  if_congr (and_congr_right fun _ => not_congr List.isEmpty_iff) rfl rfl

/-- Whether a port is giving a reply: the console once HOLD is released, another port once its line is driven. -/
def GivesReply (s : State) (p : Port) : Prop :=
  if p = .console then s.console.phase = .replyReady else (s.port p).transmitting = true

theorem takeReplySent_of_givesReply {p : Port} (h : GivesReply s p) :
    takeReplySent p s = s.setPort p (s.port p).afterReply := by
  cases p with
  | console => exact if_pos h
  | desk | service => exact if_pos h

theorem takeReplySent_of_not_givesReply {p : Port} (h : ¬GivesReply s p) : takeReplySent p s = s := by
  cases p with
  | console => exact if_neg h
  | desk | service => exact if_neg h

/-- A port that gives no reply, or has none, loses none. -/
theorem takeReplySent_stands {p : Port} (h : ¬GivesReply s p ∨ (s.port p).outgoing = []) : takeReplySent p s = s := by
  by_cases hg : GivesReply s p
  · have hv : (s.port p).afterReply = s.port p := by simp [PortState.afterReply, h.resolve_left (not_not.mpr hg)]
    rw [takeReplySent_of_givesReply hg, hv]
    cases p <;> rfl
  · exact takeReplySent_of_not_givesReply hg

/-- A reply sent leaves its queue, and ends the request that it answers (R178). -/
theorem takeReplySent_sends {p : Port} {r : Reply} {rest : List Reply} (hg : GivesReply s p)
    (hv : (s.port p).outgoing = r :: rest) :
    takeReplySent p s = s.setPort p { s.port p with
      outgoing := rest, transmitting := false, request := if r.own = true then none else (s.port p).request } := by
  rw [takeReplySent_of_givesReply hg, PortState.afterReply, hv]

theorem sendingFrame_of_givesReply {p : Port} (h : GivesReply s p) :
    sendingFrame s p = (s.port p).outgoing.head?.map (replyFrame s) := by
  cases p with
  | console => exact if_pos h
  | desk | service => exact if_pos h

theorem sendingFrame_of_not_givesReply {p : Port} (h : ¬GivesReply s p) : sendingFrame s p = none := by
  cases p with
  | console => exact if_neg h
  | desk | service => exact if_neg h

/-- A reply carries its fields with OK, LIMITED and KEY_LOST (R184). -/
theorem carriesFields_iff (x : Status) : x.carriesFields = true ↔ x = .ok ∨ x = .limited ∨ x = .keyLost := by
  cases x <;> simp [Status.carriesFields]

end

/-- Settles O60: each event by the state of its port, then the frame of a port's first reply. -/
theorem portEvents : Obligations.PortEvents := by
  unfold Obligations.PortEvents
  refine ⟨fun p bytes s => ⟨rfl, rfl⟩, fun s hon => ?_, fun s => ?_, fun p s => ?_⟩
  · intro v sent
    refine ⟨does_of_coreEvent hon rfl rfl, does_of_coreEvent hon rfl rfl,
      does_of_coreEvent hon rfl takeTurnaround_console, ?_, ?_, fun p hp => ?_, fun p => does_of_coreEvent hon rfl rfl⟩
    · exact fun h => does_of_coreEvent hon rfl (takeReplySent_stands (p := .console) h)
    · exact fun r rest hphase hv => does_of_coreEvent hon rfl (takeReplySent_sends (p := .console) hphase hv)
    · have hgives : GivesReply s p ↔ (s.port p).transmitting = true := by rw [GivesReply, if_neg hp]
      refine ⟨does_of_coreEvent hon rfl (takeTurnaround_of_not_console hp), fun h => ?_, fun r rest ht hv => ?_⟩
      · refine does_of_coreEvent hon rfl (takeReplySent_stands (h.imp_left fun ht => ?_))
        simp [hgives, ht]
      · exact does_of_coreEvent hon rfl (takeReplySent_sends (hgives.mpr ht) hv)
  · simp [holdLine]
  · have hgives : GivesReply s p ↔ if p = .console then (s.port p).phase = .replyReady else (s.port p).transmitting = true := by
      cases p <;> rfl
    refine ⟨fun h => ?_, fun r rest hg hv => ?_⟩
    · by_cases hg : GivesReply s p
      · rw [sendingFrame_of_givesReply hg, h.resolve_left (not_not.mpr (hgives.mp hg))]
        rfl
      · exact sendingFrame_of_not_givesReply hg
    · rw [sendingFrame_of_givesReply (hgives.mpr hg), hv]
      simp only [List.head?_cons, Option.map_some, replyFrame, Reply.frameBody, carriesFields_iff]

end Sys2Proof.Machine

namespace Sys2Proof.Machine

/-! ### A port's receiver (R174) -/

/-- A frame's bytes behind its sync, and whatever follows, are taken as the frame (R174, R184). -/
theorem frameAfterSync_checked {f : Frame} (hlen : f.body.length ≤ 248) (after : List Byte) :
    huntsOn (f.checked ++ crcBytes f.checked ++ after) = false ∧
      frameAfterSync (f.checked ++ crcBytes f.checked ++ after) = some f := by
  obtain ⟨address, code, tag, body⟩ := f
  have hn : (BitVec.ofNat 8 (body.length + 2)).toNat = body.length + 2 := by
    rw [BitVec.toNat_ofNat]
    exact Nat.mod_eq_of_lt (by simp only at hlen; omega)
  have hrange : ¬(body.length + 2 < 2 ∨ 250 < body.length + 2) := by simp only at hlen; omega
  refine ⟨?_, ?_⟩
  · simp only [Frame.checked, huntsOn, List.cons_append, hn, decide_eq_false hrange]
  · simpa [Frame.checked, frameAfterSync, hn, crcBytes] using hlen

/-- The receiver finds a frame whatever comes before its sync, that is no sync itself, and after its check. -/
theorem receiveFrame_bytes {before : List Byte} (after : List Byte) {f : Frame} (hb : syncByte ∉ before)
    (hlen : f.body.length ≤ 248) : receiveFrame (before ++ f.bytes ++ after) = some f := by
  induction before with
  | nil =>
    obtain ⟨hhunt, hframe⟩ := frameAfterSync_checked hlen after
    rw [List.nil_append, Frame.bytes, List.cons_append, receiveFrame, if_pos rfl, hhunt, hframe]
    rfl
  | cons x rest ih =>
    obtain ⟨hx, hrest⟩ := List.ne_and_not_mem_of_not_mem_cons hb
    rw [List.cons_append, List.cons_append, receiveFrame, if_neg hx.symm]
    exact ih hrest

/-! ### Fields read where they stand (R185) -/

@[simp] theorem fieldByte_cons_zero (x : Byte) (xs : List Byte) : fieldByte (x :: xs) 0 = x := rfl

@[simp] theorem fieldByte_cons_succ (x : Byte) (xs : List Byte) (n : Nat) :
    fieldByte (x :: xs) (n + 1) = fieldByte xs n := rfl

@[simp] theorem fieldHalf_cons_succ (x : Byte) (xs : List Byte) (n : Nat) :
    fieldHalf (x :: xs) (n + 1) = fieldHalf xs n := rfl

@[simp] theorem fieldWord_cons_succ (x : Byte) (xs : List Byte) (n : Nat) :
    fieldWord (x :: xs) (n + 1) = fieldWord xs n := rfl

@[simp] theorem fieldByte_behind_half (v : BitVec 16) (xs : List Byte) (n : Nat) :
    fieldByte (halfBytes v ++ xs) (n + 2) = fieldByte xs n := rfl

@[simp] theorem fieldHalf_behind_half (v : BitVec 16) (xs : List Byte) (n : Nat) :
    fieldHalf (halfBytes v ++ xs) (n + 2) = fieldHalf xs n := rfl

@[simp] theorem fieldWord_behind_half (v : BitVec 16) (xs : List Byte) (n : Nat) :
    fieldWord (halfBytes v ++ xs) (n + 2) = fieldWord xs n := rfl

@[simp] theorem fieldByte_behind_word (v : BitVec 32) (xs : List Byte) (n : Nat) :
    fieldByte (wordBytes v ++ xs) (n + 4) = fieldByte xs n := rfl

/-- Two bytes, high byte first, read back. -/
@[simp] theorem fieldHalf_halfBytes_append (v : BitVec 16) (xs : List Byte) : fieldHalf (halfBytes v ++ xs) 0 = v := by
  show v.extractLsb' 8 8 ++ v.extractLsb' 0 8 = v
  rw [BitVec.extractLsb'_append_extractLsb'_eq_extractLsb' (by rfl)]
  exact BitVec.extractLsb'_eq_self

@[simp] theorem fieldHalf_halfBytes (v : BitVec 16) : fieldHalf (halfBytes v) 0 = v := fieldHalf_halfBytes_append v []

/-- Four bytes, high byte first, read back. -/
@[simp] theorem fieldWord_wordBytes_append (v : BitVec 32) (xs : List Byte) : fieldWord (wordBytes v ++ xs) 0 = v := by
  have hh : fieldHalf (wordBytes v ++ xs) 0 = v.extractLsb' 16 16 := by simp [wordBytes]
  have hl : fieldHalf (wordBytes v ++ xs) (0 + 2) = v.extractLsb' 0 16 := by simp [wordBytes]
  rw [fieldWord, hh, hl, BitVec.extractLsb'_append_extractLsb'_eq_extractLsb' (by rfl)]
  exact BitVec.extractLsb'_eq_self

@[simp] theorem fieldWord_wordBytes (v : BitVec 32) : fieldWord (wordBytes v) 0 = v := fieldWord_wordBytes_append v []

end Sys2Proof.Machine

namespace Sys2Proof.Machine

/-! ### Coded and optional fields, there and back (R185) -/

/-- A two-valued field whose values are coded by their places 0 and 1. -/
theorem twoField_byte {α : Type} {first second : α} {code : α → Byte} {c : Coded α} (hall : ∀ v, v = first ∨ v = second)
    (hfirst : code first = 0#8) (hsecond : code second = 1#8) (hw : c.wellFormed 2 = true) :
    twoField first second (c.byte code) = c := by
  cases c with
  | val v => rcases hall v with rfl | rfl <;> simp [twoField, Coded.byte, hfirst, hsecond]
  | bad b =>
    have hb : 2 ≤ b.toNat := of_decide_eq_true hw
    have h0 : b ≠ 0#8 := fun h => by simp [h] at hb
    have h1 : b ≠ 1#8 := fun h => by simp [h] at hb
    simp [twoField, Coded.byte, h0, h1]

theorem sideField_sideByte {c : Coded Side} (hw : c.wellFormed 2 = true) : sideField (sideByte c) = c :=
  twoField_byte (fun v => by cases v <;> simp) rfl rfl hw

theorem onOff_onOffByte {c : Coded OnOff} (hw : c.wellFormed 2 = true) : twoField .on .off (onOffByte c) = c :=
  twoField_byte (fun v => by cases v <;> simp) rfl rfl hw

theorem laneChoiceField_byte {c : Coded LaneChoice} {code : LaneChoice → Byte} (ha : code .a = 0#8) (hb : code .b = 1#8)
    (hboth : code .both = 2#8) (hw : c.wellFormed 3 = true) : laneChoiceField (c.byte code) = c := by
  cases c with
  | val v => cases v <;> simp [laneChoiceField, Coded.byte, ha, hb, hboth]
  | bad b =>
    have hn : 3 ≤ b.toNat := of_decide_eq_true hw
    have h0 : b ≠ 0#8 := fun h => by simp [h] at hn
    have h1 : b ≠ 1#8 := fun h => by simp [h] at hn
    have h2 : b ≠ 2#8 := fun h => by simp [h] at hn
    simp [laneChoiceField, Coded.byte, h0, h1, h2]

theorem optionalField_optionalBits {w : Nat} {v : Option (BitVec w)} (hw : presentWellFormed v = true) :
    optionalField (optionalBits v) = v := by
  cases v with
  | none => simp [optionalField, optionalBits]
  | some x =>
    have hx : x ≠ BitVec.allOnes w := by simpa [presentWellFormed] using hw
    simp [optionalField, optionalBits, hx]

@[simp] theorem flagField_flagBit (b : Bool) : flagField (flagBit b) = b := by cases b <;> rfl

@[simp] theorem optionalFlag_flagBit (b : Bool) : optionalFlag (flagBit b) = b := by cases b <;> rfl

/-- SET_RETURN's power value, whose absence is the byte 0xFF (R118, R185). -/
theorem powerField_byte {p : Option (Coded OnOff)} (hw : optionalPowerWellFormed p = true) :
    (optionalField ((p.map onOffByte).getD 0xFF#8)).map (twoField .on .off) = p := by
  rcases p with _ | v | b
  · rfl
  · cases v <;> rfl
  · have hb : 2 ≤ b.toNat ∧ b ≠ 0xFF#8 := by simpa [optionalPowerWellFormed] using hw
    have hfield : optionalField b = some b := if_neg hb.2
    show (optionalField b).map (twoField OnOff.on OnOff.off) = some (.bad b)
    rw [hfield, Option.map_some]
    exact congrArg some (onOff_onOffByte (c := .bad b) (decide_eq_true hb.1))

/-- A rate entry in its twelve bytes, read back (R188). -/
theorem rateField_bytes {v : RateFields} (x : Byte) (hw : v.wellFormed = true) : rateField (x :: v.bytes) 1 = v := by
  obtain ⟨present, weekdays, start, stop, perGame, perHour⟩ := v
  have hpresent : (if present = true then 0x80#8 else 0#8)[7] = present := by cases present <;> rfl
  have hdays : (if weekdays.getD 0#8 = 0#8 then none else some (weekdays.getD 0#8)) = weekdays := by
    cases weekdays with
    | none => rfl
    | some w =>
      have hne : w ≠ 0#8 := by simpa [RateFields.wellFormed] using hw
      simp [hne]
  simp [rateField, RateFields.bytes, hpresent, hdays]

/-- A bowler's twelve characters, read back. -/
theorem nameField_bytes {name : List Byte} (x : Byte) (xs : List Byte) (h : name.length = 12) :
    ((List.range 12).map fun i => fieldByte (x :: (name ++ xs)) (1 + i)) = name := by
  refine List.ext_getElem (by simp [h]) fun i hi hi' => ?_
  simp [Nat.add_comm 1 i, fieldByte, List.getElem?_append_left hi', hi']

/-- A field behind a bowler's twelve characters. -/
theorem fieldByte_behind_name {name xs : List Byte} (h : name.length = 12) (x : Byte) (n : Nat) :
    fieldByte (x :: (name ++ xs)) (13 + n) = fieldByte xs n := by
  have hn : 13 + n = (name.length + n) + 1 := by omega
  rw [hn, fieldByte_cons_succ, fieldByte, List.getD_append_right _ _ _ _ (Nat.le_add_right _ _), Nat.add_sub_cancel_left,
    fieldByte]

theorem fieldHalf_behind_name {name xs : List Byte} (h : name.length = 12) (x : Byte) (n : Nat) :
    fieldHalf (x :: (name ++ xs)) (13 + n) = fieldHalf xs n := by
  rw [fieldHalf, fieldByte_behind_name h, Nat.add_assoc, fieldByte_behind_name h, fieldHalf]

/-- The notices of ACK_NOTICES, read back (R188). -/
theorem noticeFields_bytes {ns : List NoticeFields} (h : ns.length ≤ 255) :
    noticeFields (BitVec.ofNat 8 ns.length :: ns.flatMap fun n => [n.kind, n.scope]) = ns := by
  have hcount : (BitVec.ofNat 8 ns.length).toNat = ns.length := by
    rw [BitVec.toNat_ofNat]
    exact Nat.mod_eq_of_lt (by omega)
  have hpair : ∀ (ms : List NoticeFields) (i : Nat) (hi : i < ms.length),
      fieldByte (ms.flatMap fun n => [n.kind, n.scope]) (2 * i) = ms[i].kind ∧
        fieldByte (ms.flatMap fun n => [n.kind, n.scope]) (2 * i + 1) = ms[i].scope := by
    intro ms
    induction ms with
    | nil => exact fun i hi => absurd hi (Nat.not_lt_zero i)
    | cons m rest ih =>
      intro i hi
      cases i with
      | zero => exact ⟨rfl, rfl⟩
      | succ j => exact ih j (Nat.lt_of_succ_lt_succ hi)
  refine List.ext_getElem (by simp [noticeFields, hcount]) fun i hi hi' => ?_
  obtain ⟨hk, hx⟩ := hpair ns i hi'
  simp only [noticeFields, List.getElem_map, List.getElem_range, Nat.add_comm _ (2 * i), fieldByte_cons_succ, hk, hx]

/-- A selector byte that names neither value, read back (log entry 28). -/
theorem straySelector_byte {x : Option Byte} (hw : strayWellFormed x = true) :
    x.getD 0#8 ≠ 1#8 ∧ straySelector (x.getD 0#8) = x := by
  cases x with
  | none => exact ⟨by decide, rfl⟩
  | some b =>
    have hb : 2 ≤ b.toNat := of_decide_eq_true hw
    have h0 : b ≠ 0#8 := fun h => by simp [h] at hb
    have h1 : b ≠ 1#8 := fun h => by simp [h] at hb
    exact ⟨h1, if_neg h0⟩

end Sys2Proof.Machine

namespace Sys2Proof.Machine

/-! ### A request's frame spells the request (R174, R185) -/

/-- Every row of the table of requests has a body layout. -/
theorem requestBody_of_row {c : Instr} {r : RequestRow} (hr : c.requestRow = some r) : ∃ b, requestBody c = some b := by
  cases c <;> cases hr <;> exact ⟨_, rfl⟩

/-- The layout has the length of the row, or the envelope's length where no port is named for the code. -/
theorem requestBody_length {c : Instr} {r : RequestRow} {b : List Byte} (hr : c.requestRow = some r)
    (hb : requestBody c = some b) (hw : c.wellFormed = true) :
    b.length = if r.ports = [] then r.envelope.bodyLen else r.length := by
  cases c
  case addBowler e q n h v => cases hr; cases hb; exact Laws.BodyLength.addBowler e q n h v hw
  case ackNotices e ns => cases hr; cases hb; exact Laws.BodyLength.ackNotices e ns hw
  case unknownRequestCode e code => cases hr; cases hb; exact Laws.BodyLength.unknownRequestCode e code hw
  all_goals cases hr <;> cases hb <;> rfl

theorem encodeFrame_eq {c : Instr} {r : RequestRow} {b : List Byte} (hr : c.requestRow = some r)
    (hb : requestBody c = some b) :
    encodeFrame c = some { address := BitVec.ofNat 8 r.envelope.address, code := r.code, tag := r.envelope.tag, body := b } := by
  simp only [encodeFrame, hr, hb]

/-- A well-formed request's envelope is well-formed. -/
theorem envelope_wellFormed {c : Instr} {r : RequestRow} (hr : c.requestRow = some r) (hw : c.wellFormed = true) :
    r.envelope.wellFormed = true := by
  cases c <;> cases hr <;> simp only [Instr.wellFormed, Bool.and_eq_true] at hw <;> simp only [hw]

/-- A pair address fits the byte that carries it (R174). -/
theorem envelope_readBack {e : Envelope} {n : Nat} (hw : e.wellFormed = true) (hn : n = e.bodyLen) :
    ({ port := e.port, address := (BitVec.ofNat 8 e.address).toNat, tag := e.tag, bodyLen := n } : Envelope) = e := by
  obtain ⟨haddr, -⟩ : e.address ≤ 64 ∧ e.bodyLen ≤ 248 := by simpa [Envelope.wellFormed] using hw
  rw [BitVec.toNat_ofNat, Nat.mod_eq_of_lt (by omega), hn]

/-- The frame of a well-formed request spells it again, every field with it. -/
theorem decodeFrame_requestBody {c : Instr} {r : RequestRow} {b : List Byte} {key : Bool} (hr : c.requestRow = some r)
    (hb : requestBody c = some b) (hw : c.wellFormed = true) (hlen : b.length = r.envelope.bodyLen)
    (hkey : ∀ e n v k, c = .rateStore e n v k → k = key) :
    decodeFrame r.envelope.port key
      { address := BitVec.ofNat 8 r.envelope.address, code := r.code, tag := r.envelope.tag, body := b } = some c := by
  simp only [decodeFrame, envelope_readBack (envelope_wellFormed hr hw) hlen]
  cases c <;> cases hr <;> cases hb
  all_goals simp only [Instr.wellFormed, Bool.and_eq_true] at hw
  case openLane e l m n v =>
    have hmodes : ∀ m : AccountMode, m = .game ∨ m = .time := fun m => by cases m <;> simp
    simp [hw, sideField_sideByte, optionalField_optionalBits, twoField_byte hmodes]
  case addBowler e q name h v =>
    obtain ⟨⟨⟨⟨-, hq⟩, hname⟩, hh⟩, hv⟩ := hw
    have hlen12 : name.length = 12 := eq_of_beq hname
    simp [nameField_bytes _ _ hlen12, fieldByte_behind_name hlen12 (sideByte q) 0,
      fieldHalf_behind_name hlen12 (sideByte q) 1, sideField_sideByte hq, optionalField_optionalBits hh,
      optionalField_optionalBits hv]
  case correctBall e q c =>
    obtain ⟨⟨-, hq⟩, hc⟩ := hw
    have hforms : ∀ m : CorrectForm, m = .leave ∨ m = .count := fun m => by cases m <;> simp
    simp only [CorrectFields.wellFormed, Bool.and_eq_true] at hc
    simp [hc, sideField_sideByte hq, optionalField_optionalBits, twoField_byte hforms]
  case setPairMode e m =>
    have hmodes : ∀ m : PairMode, m = .single ∨ m = .cross := fun m => by cases m <;> simp
    simp [hw, twoField_byte hmodes]
  case splitPair e => rfl
  case splitPairForce e => rfl
  case rateSet e n v => simp [rateField_bytes n hw.2]
  case rateStore e n v k => simp [rateField_bytes n hw.2, hkey e n v k rfl]
  case rateReadWorking e =>
    obtain ⟨hne, hstray⟩ := straySelector_byte hw.2
    simp [hne, hstray]
  case rateReadStored e => rfl
  case setTiming e l t =>
    obtain ⟨⟨-, hl⟩, ht⟩ := hw
    simp only [TimingFields.wellFormed, Bool.and_eq_true] at ht
    simp [ht, optionalField_optionalBits, laneChoiceField_byte _ _ _ hl]
  case setMachineOff e l => simp [sideField_sideByte hw.2]
  case setMachineOn e l =>
    obtain ⟨⟨-, hl⟩, hx⟩ := hw
    obtain ⟨hne, hstray⟩ := straySelector_byte hx
    simp [hne, hstray, sideField_sideByte hl]
  case setReturn e p n =>
    obtain ⟨⟨-, hp⟩, hn⟩ := hw
    simp [powerField_byte hp, optionalField_optionalBits hn]
  case ackNotices e ns => simp [noticeFields_bytes (of_decide_eq_true hw.2)]
  case setNoticeMask e m a =>
    have hmodes : ∀ m : AttentionMode, m = .level ∨ m = .pulse := fun m => by cases m <;> simp
    simp [hw, twoField_byte hmodes]
  case unknownRequestCode e code =>
    have hcode : code.toNat = 0 ∨ 45 < code.toNat := by
      simpa [BitVec.toNat_eq] using hw.2
    dsimp only
    split
    case h_46 => rfl
    all_goals omega
  all_goals simp [hw, sideField_sideByte, optionalField_optionalBits, onOff_onOffByte]

/-- Every frame spells a request of its own code and envelope. -/
theorem decodeFrame_row (p : Port) (key : Bool) (f : Frame) :
    ∃ c r, decodeFrame p key f = some c ∧ c.requestRow = some r ∧ r.code = f.code ∧
      r.envelope = { port := p, address := f.address.toNat, tag := f.tag, bodyLen := f.body.length } := by
  have hrow : ∀ k : Byte, f.code.toNat = k.toNat → k = f.code := fun k h => (BitVec.eq_of_toNat_eq h).symm
  simp only [decodeFrame]
  split
  case h_23 h => cases flagField (fieldByte f.body 0) <;> exact ⟨_, _, rfl, rfl, hrow 23#8 h, rfl⟩
  case h_27 h => split <;> exact ⟨_, _, rfl, rfl, hrow 27#8 h, rfl⟩
  case h_33 h => split <;> exact ⟨_, _, rfl, rfl, hrow 33#8 h, rfl⟩
  case h_46 => exact ⟨_, _, rfl, rfl, rfl, rfl⟩
  all_goals exact ⟨_, _, rfl, rfl, hrow _ ‹_›, rfl⟩

/-- Settles O8: the receiver by what comes before the sync, the round trip by the row of the table, and the totality by the
code of the frame. -/
theorem requestFramesRoundTrip : Obligations.RequestFramesRoundTrip := by
  refine ⟨fun before after f hb hlen => receiveFrame_bytes after hb hlen, fun c r key hr hw hbody hkey => ?_, decodeFrame_row⟩
  obtain ⟨b, hb⟩ := requestBody_of_row hr
  have hlen : b.length = r.envelope.bodyLen := by
    rw [requestBody_length hr hb hw]
    split
    · rfl
    case isFalse hports => exact (hbody hports).symm
  exact ⟨_, encodeFrame_eq hr hb, hlen, decodeFrame_requestBody hr hb hw hlen hkey⟩

end Sys2Proof.Machine
